-- ==== Sys2Proof/Word.lean ====
section
/-! DEFINITION. The word types of the TP-20: bytes on the links, event sets, check words, and the unit of time. -/

namespace Sys2Proof

/-- One byte on a link (R174). -/
abbrev Byte := BitVec 8

/-- An event set: bit n is the event kind with place n in the table of R180; bits 18 to 23 are 0 in every set the controller sends. -/
abbrev EventSet := BitVec 24

/-- The register of the check of R175. -/
abbrev CheckWord := BitVec 16

/-- A time or a duration in ticks of 0.1 ms, the time base of R48. -/
abbrev Ticks := Nat

end Sys2Proof
end

