-- ==== Sys2Proof/Config.lean ====
section
/-! DEFINITION. What the manual leaves open and the model leaves free: constants without a body. -/

namespace Sys2Proof

/-- FREE VALUE (notes/assumptions/10.md). What a rule reads as the exhaust sample while none has been stored yet. R65 says
that the first supply updates store both samples before any window can open, so no rule states a value; the argument is the
clock at the reading. -/
opaque Config.unsampledExhaust : Ticks → Int

/-- FREE VALUE (notes/assumptions/10.md). The inlet value in use while no inlet sample has been stored yet (R66 speaks of the
latest sample only). -/
opaque Config.unsampledInlet : Ticks → Int

end Sys2Proof
end

