-- ==== Sys2Proof/Syntax.lean ====
section
/-! DEFINITION. The commands of the TP-20: one constructor of `Instr` for each row of spec/opcode_table.json, with its operands. -/

namespace Sys2Proof

/-- The two drums with their own heater bank, drive and sensors: A the upper, B the lower. -/
inductive Pocket where
  | A | B
  deriving DecidableEq, Repr

/-- The three links: the two pocket controllers' and the site energy controller's. -/
inductive Port where
  | A | B | S
  deriving DecidableEq, Repr

/-- The eleven fault kinds, in the order of the table of R157. -/
inductive FaultKind where
  | drumStall | driveFault | beltSlip | airflowFail | highLimit | heaterStuckOn | heaterOvercurrent | sensorExhaust
  | heaterUnderload | sensorInlet | tanglePersist
  deriving DecidableEq, Repr

/-- What the sense inputs deliver at a supply update (R65, R145): the voltage sample taken at the update in decivolts, the two
heater currents in 0.01 A, and the exhaust and inlet temperatures of the two pockets in 0.1 °C. -/
structure Readings where
  voltage : Nat
  currentA : Nat
  currentB : Nat
  exhaustA : Int
  inletA : Int
  exhaustB : Int
  inletB : Int
  deriving DecidableEq, Repr

/-- The commands. A request carries its port, its tag byte and its payload bytes; the code is the row's (R179). The four edges
that the revolution counter unit places in ticks (R48) carry the ticks passed since the command before them. -/
inductive Instr where
  -- requests of the cycle engine's own port (R4)
  | start (port : Port) (tag : Byte) (payload : List Byte)
  | pause (port : Port) (tag : Byte) (payload : List Byte)
  | resume (port : Port) (tag : Byte) (payload : List Byte)
  | stop (port : Port) (tag : Byte) (payload : List Byte)
  | addTime (port : Port) (tag : Byte) (payload : List Byte)
  -- requests that name a pocket, and the reads (R179)
  | halt (port : Port) (tag : Byte) (payload : List Byte)
  | shed (port : Port) (tag : Byte) (payload : List Byte)
  | restore (port : Port) (tag : Byte) (payload : List Byte)
  | fetchSamples (port : Port) (tag : Byte) (payload : List Byte)
  | clearFault (port : Port) (tag : Byte) (payload : List Byte)
  | readPocket (port : Port) (tag : Byte) (payload : List Byte)
  | readFaults (port : Port) (tag : Byte) (payload : List Byte)
  | readSupply (port : Port) (tag : Byte) (payload : List Byte)
  | readMeter (port : Port) (tag : Byte) (payload : List Byte)
  | readProfile (port : Port) (tag : Byte) (payload : List Byte)
  | readEvents (port : Port) (tag : Byte) (payload : List Byte)
  | setEventMask (port : Port) (tag : Byte) (payload : List Byte)
  | setLevel (port : Port) (tag : Byte) (payload : List Byte)
  | writeCeiling (port : Port) (tag : Byte) (payload : List Byte)
  | setClass (port : Port) (tag : Byte) (payload : List Byte)
  | writeProfile (port : Port) (tag : Byte) (payload : List Byte)
  | saveProfile (port : Port) (tag : Byte) (payload : List Byte)
  | unknownCode (port : Port) (code tag : Byte) (payload : List Byte)
  -- what else a receiver and a transmitter meet (R174, R176, R177): the characters received since the port's last command,
  -- then the row's event
  | frameCheckFail (port : Port) (chars : List Byte)
  | characterError (port : Port) (chars : List Byte)
  | frameGapTimeout (port : Port) (chars : List Byte)
  | replyDone (port : Port)
  -- switches and drive fault of a pocket
  | doorOpen (p : Pocket)
  | doorClose (p : Pocket)
  | airfClose (p : Pocket)
  | airfOpen (p : Pocket)
  | airflowProven (p : Pocket)
  | provingTimeout (p : Pocket)
  | airflowLossTimeout (p : Pocket)
  | hlimOpen (p : Pocket)
  | hlimClose (p : Pocket)
  | drvfAssert (p : Pocket)
  -- measurement inputs of a pocket
  | idxEdge (p : Pocket) (after : Ticks)
  | tchEdge (p : Pocket) (after : Ticks) (rising : Bool)
  | contactQualified (p : Pocket)
  -- messages between blocks
  | dryCondition (p : Pocket) (phase : Nat)
  | earlyReversal (p : Pocket)
  | faultReport (p : Pocket) (kind : FaultKind) (detail : Option Nat)
  -- timers of the drum motion controller; DRVF as it is found at the end of the pulse (R41)
  | dclrPulseEnd (p : Pocket) (drvf : Bool)
  | lockoutEnd (p : Pocket)
  | accelTimeout (p : Pocket)
  | fullRun (p : Pocket)
  | stallTimeout (p : Pocket)
  | coastEnd (p : Pocket)
  | dwellEnd (p : Pocket)
  | minimumRunReached (p : Pocket)
  -- timers of the cycle engine
  | phaseTimeExpired (p : Pocket)
  | purgeEnd (p : Pocket)
  | pauseTimeout (p : Pocket)
  | runOnTimeout (p : Pocket)
  -- the meter's two rhythms
  | supplyUpdate (r : Readings)
  | voltageSample (v : Nat)
  -- timers of the heat stage controller, the supply allocator and the sample buffers
  | releaseHoldExpired (p : Pocket)
  | energizeStep (p : Pocket)
  | recoveryEnd (p : Pocket)
  | shedHoldExpired (p : Pocket)
  | flushTimerExpired (p : Pocket)
  | levelLinesChange (lvl2 lvl1 lvl0 : Bool)
  | levelDebounceExpired
  -- the profile store and start-up
  | saveDone (readBackMatches : Bool)
  | resetAssert
  | resetRelease
  | profileLoadDone (vsup : Nat)
  | frameLengthInvalid (port : Port) (chars : List Byte)
  | wetRise (p : Pocket) (after : Ticks)
  | wetFall (p : Pocket) (after : Ticks)
  | powerLoss
  deriving DecidableEq, Repr

end Sys2Proof
end

