-- ==== Sys2Proof/Machine/Bytes.lean ====
section
/-! DEFINITION. Bytes on the links: the encodings of R188 (fewest bytes, high byte first), their readers, and the check of R175. -/

namespace Sys2Proof.Machine

/-- One byte. -/
def be1 (n : Nat) : List Byte := [BitVec.ofNat 8 n]

/-- Two bytes, high byte first (section 10.7). -/
def be2 (n : Nat) : List Byte := [BitVec.ofNat 8 (n / 256), BitVec.ofNat 8 n]

/-- Three bytes, high byte first. -/
def be3 (n : Nat) : List Byte := [BitVec.ofNat 8 (n / 65536), BitVec.ofNat 8 (n / 256), BitVec.ofNat 8 n]

/-- Four bytes, high byte first. -/
def be4 (n : Nat) : List Byte :=
  [BitVec.ofNat 8 (n / 16777216), BitVec.ofNat 8 (n / 65536), BitVec.ofNat 8 (n / 256), BitVec.ofNat 8 n]

/-- A quantity that may be negative: two bytes, two's complement (R188). -/
def be2Signed (z : Int) : List Byte := be2 (BitVec.ofInt 16 z).toNat

/-- A flag is one byte, 0 for clear or absent and 1 for set or present (R188). -/
def flagByte (b : Bool) : List Byte := be1 (if b then 1 else 0)

/-- An optional item: a presence byte, then the item's bytes, or the same number of zeros (R188). -/
def optionalItem (encode : Nat → List Byte) : Option Nat → List Byte
  | some n => be1 1 ++ encode n
  | none => be1 0 ++ encode 0

/-- The value of bytes sent high byte first. -/
def beValue (bs : List Byte) : Nat := bs.foldl (fun n b => n * 256 + b.toNat) 0

/-- One bit through the register of R175: polynomial 0x1021, high bit first. -/
def checkBit (r : CheckWord) : CheckWord := if r.msb then (r <<< 1) ^^^ 0x1021#16 else r <<< 1

/-- One byte into the check of R175. -/
def checkByte (r : CheckWord) (b : Byte) : CheckWord :=
  let r0 := r ^^^ (b.setWidth 16 <<< 8)
  checkBit (checkBit (checkBit (checkBit (checkBit (checkBit (checkBit (checkBit r0)))))))

/-- The register's start value (R175). -/
def checkStart : CheckWord := 0xFFFF#16

/-- The check of R175 over bytes. -/
def checkOf (bs : List Byte) : CheckWord := bs.foldl checkByte checkStart

end Sys2Proof.Machine
end

