-- ==== Sys2Proof/Machine/ProfileTable.lean ====
section
/-! DEFINITION. The profile items (R192): numbers, ranges, steps and defaults as the rules named there give them. -/

namespace Sys2Proof.Machine

/-- One profile item: its number (or its index, in the per-pocket table), the least and the greatest value of its range, the
step its values are multiples of, and its default. -/
structure ItemRow where
  number : Nat
  least : Nat
  greatest : Nat
  step : Nat
  default : Nat
  deriving DecidableEq, Repr

/-- A profile: the value of each item by number, in item-number order. -/
abbrev Profile := List (Nat × Nat)

/-! Indices of the per-pocket items (R192). -/

namespace PocketItem
def accelTimeout : Nat := 0x00
def coastTime : Nat := 0x01
def settleRevolutions : Nat := 0x02
def stallTimeout : Nat := 0x03
def restartAttempts : Nat := 0x04
def forwardRun (pattern : Nat) : Nat := 0x10 + 8 * pattern
def reverseRun (pattern : Nat) : Nat := 0x11 + 8 * pattern
def dwell (pattern : Nat) : Nat := 0x12 + 8 * pattern
def speed (pattern : Nat) : Nat := 0x13 + 8 * pattern
def tangleResponse (pattern : Nat) : Nat := 0x14 + 8 * pattern
def tachEdgeMode : Nat := 0x30
def minimumContact : Nat := 0x31
def plausibleMinimum : Nat := 0x32
def plausibleMaximum : Nat := 0x33
def nominalTach : Nat := 0x34
def slipLimit : Nat := 0x35
def filterShift : Nat := 0x38
def moistureWeight : Nat := 0x39
def temperatureWeight : Nat := 0x3A
def taperMargin : Nat := 0x3B
def deviationThreshold : Nat := 0x40
def lumpLength : Nat := 0x41
def scoreThreshold : Nat := 0x42
def minimumRun : Nat := 0x43
/-- The rating of HTn, for n = 1..6. -/
def rating (stage : Nat) : Nat := 0x47 + stage
def hysteresis : Nat := 0x50
def stageInterval : Nat := 0x51
def releaseHold : Nat := 0x52
def currentTolerance : Nat := 0x53
def overloadTime : Nat := 0x54
def offCurrentLimit : Nat := 0x55
def underloadTime : Nat := 0x56
def maximumExhaust : Nat := 0x58
def purgeTemperature : Nat := 0x59
def flushTime : Nat := 0x5A
def priorityClass : Nat := 0x5F
end PocketItem

/-! Numbers of the shared items (R192). -/

namespace SharedItem
def basis : Nat := 0x00
def guard : Nat := 0x01
def phaseFactor : Nat := 0x02
def lowThreshold : Nat := 0x03
def highThreshold : Nat := 0x04
def voltageHysteresis : Nat := 0x05
def ceiling (level : Nat) : Nat := 0x08 + level
end SharedItem

/-- The number of a pocket's item: high byte 1 for pocket A and 2 for pocket B, low byte the index (R192). -/
def itemNumber (p : Pocket) (index : Nat) : Nat :=
  match p with
  | .A => 0x100 + index
  | .B => 0x200 + index

/-- The five items of a motion pattern (R28): forward run, reverse run, dwell, speed (0 LOW, 1 HIGH), tangle response (0 OFF,
1 ON), with the pattern's defaults. -/
def patternRows (n forward reverse dwell speed response : Nat) : List ItemRow :=
  [⟨PocketItem.forwardRun n, 10, 600, 1, forward⟩, ⟨PocketItem.reverseRun n, 0, 600, 1, reverse⟩,
   ⟨PocketItem.dwell n, 2, 60, 1, dwell⟩, ⟨PocketItem.speed n, 0, 1, 1, speed⟩, ⟨PocketItem.tangleResponse n, 0, 1, 1, response⟩]

/-- The 56 items of a pocket, by index, in order: R27, R28, R49, R67, R87, R99, R100, R2, R21, R185, R124. -/
def pocketRows : List ItemRow :=
  [⟨PocketItem.accelTimeout, 2, 20, 1, 8⟩, ⟨PocketItem.coastTime, 1, 20, 1, 6⟩, ⟨PocketItem.settleRevolutions, 0, 15, 1, 2⟩,
   ⟨PocketItem.stallTimeout, 5, 50, 1, 25⟩, ⟨PocketItem.restartAttempts, 0, 3, 1, 2⟩]
  ++ patternRows 0 120 120 4 1 1 ++ patternRows 1 300 0 4 1 0 ++ patternRows 2 60 60 4 0 1 ++ patternRows 3 10 10 60 0 0
  ++ [⟨PocketItem.tachEdgeMode, 0, 1, 1, 0⟩, ⟨PocketItem.minimumContact, 5, 100, 1, 10⟩,
   ⟨PocketItem.plausibleMinimum, 6, 20, 1, 6⟩, ⟨PocketItem.plausibleMaximum, 20, 60, 1, 40⟩,
   ⟨PocketItem.nominalTach, 100, 4000, 1, 1200⟩, ⟨PocketItem.slipLimit, 1, 30, 1, 8⟩]
  ++ [⟨PocketItem.filterShift, 1, 6, 1, 3⟩, ⟨PocketItem.moistureWeight, 0, 15, 1, 3⟩,
   ⟨PocketItem.temperatureWeight, 0, 15, 1, 1⟩, ⟨PocketItem.taperMargin, 0, 200, 1, 80⟩]
  ++ [⟨PocketItem.deviationThreshold, 10, 500, 1, 60⟩, ⟨PocketItem.lumpLength, 20, 2000, 1, 250⟩,
   ⟨PocketItem.scoreThreshold, 2, 15, 1, 8⟩, ⟨PocketItem.minimumRun, 10, 300, 1, 20⟩]
  ++ [⟨PocketItem.rating 1, 0, 20000, 10, 3000⟩, ⟨PocketItem.rating 2, 0, 20000, 10, 3000⟩,
   ⟨PocketItem.rating 3, 0, 20000, 10, 3000⟩, ⟨PocketItem.rating 4, 0, 20000, 10, 3000⟩,
   ⟨PocketItem.rating 5, 0, 20000, 10, 0⟩, ⟨PocketItem.rating 6, 0, 20000, 10, 0⟩]
  ++ [⟨PocketItem.hysteresis, 5, 100, 1, 20⟩, ⟨PocketItem.stageInterval, 2, 60, 1, 10⟩, ⟨PocketItem.releaseHold, 0, 120, 1, 30⟩,
   ⟨PocketItem.currentTolerance, 5, 50, 1, 20⟩, ⟨PocketItem.overloadTime, 250, 5000, 250, 1000⟩,
   ⟨PocketItem.offCurrentLimit, 20, 500, 1, 100⟩, ⟨PocketItem.underloadTime, 5, 60, 1, 20⟩]
  ++ [⟨PocketItem.maximumExhaust, 40, 90, 1, 80⟩, ⟨PocketItem.purgeTemperature, 35, 60, 1, 45⟩,
   ⟨PocketItem.flushTime, 1, 30, 1, 5⟩, ⟨PocketItem.priorityClass, 0, 2, 1, 1⟩]

/-- The 14 shared items: R125, R150, R123. -/
def sharedRows : List ItemRow :=
  [⟨SharedItem.basis, 0, 1, 1, 0⟩, ⟨SharedItem.guard, 0, 20000, 10, 1000⟩, ⟨SharedItem.phaseFactor, 500, 2000, 1, 1732⟩,
   ⟨SharedItem.lowThreshold, 2000, 4500, 1, 3600⟩, ⟨SharedItem.highThreshold, 3800, 5600, 1, 4400⟩,
   ⟨SharedItem.voltageHysteresis, 10, 200, 1, 50⟩,
   ⟨SharedItem.ceiling 0, 0, 300000, 10, 24000⟩, ⟨SharedItem.ceiling 1, 0, 300000, 10, 20000⟩,
   ⟨SharedItem.ceiling 2, 0, 300000, 10, 16000⟩, ⟨SharedItem.ceiling 3, 0, 300000, 10, 12000⟩,
   ⟨SharedItem.ceiling 4, 0, 300000, 10, 8000⟩, ⟨SharedItem.ceiling 5, 0, 300000, 10, 6000⟩,
   ⟨SharedItem.ceiling 6, 0, 300000, 10, 3000⟩, ⟨SharedItem.ceiling 7, 0, 300000, 10, 0⟩]

/-- A per-pocket row under the number it has for a pocket. -/
def ItemRow.forPocket (p : Pocket) (r : ItemRow) : ItemRow := { r with number := itemNumber p r.number }

/-- All 126 items in item-number order (R192). -/
def itemRows : List ItemRow :=
  sharedRows ++ pocketRows.map (ItemRow.forPocket .A) ++ pocketRows.map (ItemRow.forPocket .B)

/-- The item a number names, if any. -/
def itemRow? (n : Nat) : Option ItemRow := itemRows.find? (fun r => r.number == n)

/-- A value lies in the item's range and on its step. -/
def ItemRow.admits (r : ItemRow) (v : Nat) : Bool := r.least ≤ v && v ≤ r.greatest && v % r.step == 0

/-- Every item at its default. -/
def defaultProfile : Profile := itemRows.map (fun r => (r.number, r.default))

/-- The value of an item. -/
def Profile.value (f : Profile) (n : Nat) : Nat := (f.lookup n).getD 0

/-- The profile with an item's value replaced. -/
def Profile.write (f : Profile) (n v : Nat) : Profile := f.map (fun e => if e.1 == n then (n, v) else e)

/-- The voltage band is not empty: low threshold + hysteresis is not above high threshold − hysteresis (R150). -/
def Profile.bandHolds (f : Profile) : Bool :=
  f.value SharedItem.lowThreshold + 2 * f.value SharedItem.voltageHysteresis ≤ f.value SharedItem.highThreshold

/-- The two weights of a pocket are not both 0 (R67). -/
def Profile.weightsHold (f : Profile) (p : Pocket) : Bool :=
  f.value (itemNumber p PocketItem.moistureWeight) + f.value (itemNumber p PocketItem.temperatureWeight) ≠ 0

/-- The joint conditions of R194. -/
def Profile.jointlyValid (f : Profile) : Bool := f.bandHolds && f.weightsHold .A && f.weightsHold .B

/-- The profile names the 126 items in order, each with a value in its range and on its step. -/
def Profile.inRange (f : Profile) : Bool :=
  f.map (·.1) == itemRows.map (·.number) && (f.zip itemRows).all (fun e => e.2.admits e.1.2)

/-- The store's image as bytes, in item-number order. DESIGN CHOICE (notes/assumptions/14.md): each value as the four bytes
it is carried in on a link. -/
def Profile.bytes (f : Profile) : List Byte := f.flatMap (fun e => be4 e.2)

/-- The stage count: the number of nonzero ratings counted from stage 1 up to the first rating of 0 (R99). -/
def Profile.stageCount (f : Profile) (p : Pocket) : Nat :=
  ([1, 2, 3, 4, 5, 6].takeWhile (fun n => f.value (itemNumber p (PocketItem.rating n)) ≠ 0)).length

end Sys2Proof.Machine
end

