-- ==== Sys2Proof/Machine/Blocks.lean ====
section
/-! DEFINITION. The states of the controller's blocks (00_scope.md, "Block overview"), as plain data. Times are clock values in
ticks; a timer is the clock value at which it runs out (…Due) or at which it started (…Since), or none while it does not run. -/

namespace Sys2Proof.Machine

/-! ## Enumerations (section 10.7) -/

/-- Cycle states (R4). -/
inductive CycleState where
  | idle | proving | running | paused | windingDown | faulted
  deriving DecidableEq, Repr

/-- Phase kinds (R1). -/
inductive PhaseKind where
  | heatTimed | heatDry | cool | tumble
  deriving DecidableEq, Repr

/-- Reasons a phase ends (R11, R12, R17). -/
inductive PhaseEndReason where
  | time | dry | timeLimit | coolTemp | skipped
  deriving DecidableEq, Repr

/-- Reasons a cycle ends (R20, R22). -/
inductive CycleEndReason where
  | complete | stopped | halted | fault | pauseTimeout
  deriving DecidableEq, Repr

/-- Pause causes (R14). -/
inductive PauseCause where
  | pause | door
  deriving DecidableEq, Repr

/-- Motion states (section 2.2). -/
inductive MotionState where
  | stopped | accel | run | coast | dwell
  deriving DecidableEq, Repr

/-- Directions of a segment (R30). -/
inductive Direction where
  | forward | reverse
  deriving DecidableEq, Repr

/-- Coast purposes (section 2.2). -/
inductive CoastPurpose where
  | stop | retry | alternate
  deriving DecidableEq, Repr

/-- Retry causes (R42). -/
inductive RetryCause where
  | stall | drive
  deriving DecidableEq, Repr

/-- Drive speeds (R28). -/
inductive Speed where
  | low | high
  deriving DecidableEq, Repr

/-- Validity classes of a record (R57, R58). -/
inductive Validity where
  | valid | settling | implausible
  deriving DecidableEq, Repr

/-- States of a sample buffer (R185). -/
inductive BufferState where
  | free | filling | ready
  deriving DecidableEq, Repr

/-- The two sample buffers of a pocket (R185). -/
inductive BufferName where
  | x | y
  deriving DecidableEq, Repr

/-- The supply condition (R148). -/
inductive SupplyCondition where
  | normal | low | high
  deriving DecidableEq, Repr

/-- Priority classes (R124). -/
inductive PriorityClass where
  | critical | high | low
  deriving DecidableEq, Repr

/-- Fault classes (R157). -/
inductive FaultClass where
  | trip | warning
  deriving DecidableEq, Repr

/-- Results of a save (R198). -/
inductive SaveResult where
  | ok | storeError
  deriving DecidableEq, Repr

/-- Status codes of replies (R178). -/
inductive Status where
  | ok | unknown | length | denied | busy | interlock | range | empty
  deriving DecidableEq, Repr

/-- The controller as a whole: without power, with RESET asserted, loading the profile, at work (R199, R200). -/
inductive Mode where
  | off | held | loading | operating
  deriving DecidableEq, Repr

/-! ## Per-pocket blocks -/

/-- The input lines of a pocket that hold a level (00_scope.md, "Lines of each pocket"). -/
structure PocketLines where
  doorClosed : Bool
  airfClosed : Bool
  hlimClosed : Bool
  drvf : Bool
  wet : Bool
  deriving DecidableEq, Repr

/-- A phase entry (R1). A field its kind does not use is held as received. -/
structure PhaseEntry where
  kind : PhaseKind
  temperature : Nat
  minutes : Nat
  dryness : Nat
  hold : Nat
  stageCap : Nat
  pattern : Nat
  deriving DecidableEq, Repr

/-- The cycle result record (R24). -/
structure CycleResult where
  endReason : CycleEndReason
  runningSeconds : Nat
  phasesCompleted : Nat
  lastDryEnd : Option PhaseEndReason
  finalIndex : Option Nat
  energy : Nat
  hotExit : Bool
  deriving DecidableEq, Repr

/-- The cycle engine (chapter 1). The phase elapsed time is `phaseTicks` and, while RUNNING, what has passed since
`runSince` (R9); `earlierSeconds` is the total running time of the cycle's earlier phases. -/
structure CycleEngine where
  state : CycleState
  program : List PhaseEntry
  index : Option Nat
  phaseTicks : Ticks
  runSince : Option Ticks
  earlierSeconds : Nat
  begun : Bool
  phasesCompleted : Nat
  hotExit : Bool
  lastDryEnd : Option PhaseEndReason
  lastPhaseEnd : Option (Nat × PhaseEndReason)
  airflowProven : Bool
  closureDue : Option Ticks
  provingDue : Option Ticks
  lossDue : Option Ticks
  pause : Option (PauseCause × Ticks)
  purgeDue : Option Ticks
  runOnSince : Option Ticks
  windingDown : Bool
  endReason : Option CycleEndReason
  result : Option CycleResult
  deriving DecidableEq, Repr

/-- The latched pattern of a segment (R28); run times in seconds. -/
structure LatchedPattern where
  forwardRun : Nat
  reverseRun : Nat
  speed : Speed
  response : Bool
  deriving DecidableEq, Repr

/-- The drum motion controller (chapter 2). `purpose` is set at COAST entry and kept through the dwell it leads to. -/
structure DrumMotion where
  state : MotionState
  direction : Direction
  purpose : Option CoastPurpose
  latched : LatchedPattern
  segmentSince : Option Ticks
  minimumRunDue : Option Ticks
  lastEdge : Option Ticks
  lastPeriod : Option Ticks
  pendingStart : Bool
  restartCount : Nat
  lastRetry : Option RetryCause
  reversalCount : Nat
  forwardOff : Ticks
  reverseOff : Ticks
  runOutput : Bool
  speed : Speed
  pulseDue : Option Ticks
  lockoutDue : Option Ticks
  accelDue : Option Ticks
  stallDue : Option Ticks
  quietDue : Option Ticks
  coastDue : Option Ticks
  dwellDue : Option Ticks
  deriving DecidableEq, Repr

/-- An open measurement window (R50): its opening tick, from which the period timer counts, and its counters; `contactTicks`
holds the time of contacts that have ended in it. -/
structure Window where
  openedAt : Ticks
  tachEdges : Nat
  contacts : Nat
  contactTicks : Ticks
  deriving DecidableEq, Repr

/-- The WET pulse the contact filter follows (R54): its beginning, and whether it has qualified. -/
structure Pulse where
  since : Ticks
  accepted : Bool
  deriving DecidableEq, Repr

/-- What the pocket status keeps of the last record (R64). -/
structure RecordSummary where
  sequence : Nat
  validity : Validity
  period : Nat
  tach : Nat
  deriving DecidableEq, Repr

/-- The revolution counter unit (chapter 3). -/
structure RevolutionCounter where
  window : Option Window
  pulse : Option Pulse
  segmentRecords : Nat
  nextSequence : Nat
  slipRun : Nat
  lastRecord : Option RecordSummary
  lastSlip : Option Nat
  deriving DecidableEq, Repr

/-- The moisture estimator (chapter 4). `s16` is present exactly while the estimator is seeded (R70); `taperCap` exactly while
the taper is in force (R82). -/
structure Estimator where
  exhaust : Option Int
  inlet : Option Int
  s16 : Option Nat
  index : Option Nat
  lastW : Option Nat
  lastM : Option Nat
  lastA : Option Nat
  hold : Nat
  taperCap : Option Nat
  dryNotice : Option Nat
  deriving DecidableEq, Repr

/-- The tangle monitor (chapter 5). -/
structure TangleMonitor where
  score : Nat
  flag : Bool
  reference : Option Nat
  lastDeviation : Option Nat
  lastContactLength : Option Nat
  relief : Bool
  reversalNotice : Bool
  deriving DecidableEq, Repr

/-- The heat stage controller (chapter 6). `lastLevelChange` and `lastRise` are none while they lie longer ago than any stage
interval (R120). `askedStage` is the stage that a release hold asks for which had run out when a loss took that stage first (R106,
R137). The check timers are in ms. -/
structure HeatStages where
  level : Nat
  energized : Nat
  lastLevelChange : Option Ticks
  lastRise : Option Ticks
  lastChange : Ticks
  holdSince : Option Ticks
  askedStage : Option Nat
  freshGrant : Bool
  overTimer : Nat
  stuckTimer : Nat
  underTimer : Nat
  overCount : Nat
  recoveryDue : Option Ticks
  stuckArmed : Bool
  underArmed : Bool
  exhaustArmed : Bool
  inletArmed : Bool
  safe : Bool
  expected : Option Nat
  suspended : Bool
  overHolds : Bool
  underHolds : Bool
  deriving DecidableEq, Repr

/-- A revolution record (R59). -/
structure RevolutionRecord where
  sequence : Nat
  direction : Direction
  validity : Validity
  tangleFlag : Bool
  energized : Nat
  period : Nat
  tach : Nat
  contacts : Nat
  contactTime : Nat
  exhaust : Option Int
  index : Option Nat
  deriving DecidableEq, Repr

/-- One sample buffer (R185), oldest record first. -/
structure Buffer where
  state : BufferState
  records : List RevolutionRecord
  deriving DecidableEq, Repr

/-- The sample buffers of a pocket (R185). `olderReady` tells, while both are READY, which became so first. -/
structure SampleBuffers where
  x : Buffer
  y : Buffer
  olderReady : BufferName
  flushDue : Option Ticks
  overrun : Bool
  deriving DecidableEq, Repr

/-- A fault record (R158); its class is its kind's. -/
structure FaultRecord where
  kind : FaultKind
  phase : Option Nat
  first : Nat
  last : Nat
  count : Nat
  detail : Option Nat
  deriving DecidableEq, Repr

/-- The fault list of a pocket (R157), in order of first occurrence. -/
structure FaultList where
  records : List FaultRecord
  full : Bool
  deriving DecidableEq, Repr

/-- What the meter read and worked for a pocket at the latest supply update (R145, R151). It is also the pocket's metered
snapshot (R129). -/
structure MeterReading where
  current : Nat
  energized : Nat
  power : Nat
  deriving DecidableEq, Repr

/-- The supply meter's items of a pocket (R145, R153, R154). -/
structure PocketMeter where
  reading : Option MeterReading
  residual : Nat
  cycleEnergy : Nat
  totalEnergy : Nat
  deriving DecidableEq, Repr

/-- Everything the controller holds for one pocket. `shedDue` is the supply allocator's shed hold timer (R141). -/
structure PocketState where
  lines : PocketLines
  ce : CycleEngine
  dmc : DrumMotion
  rcu : RevolutionCounter
  me : Estimator
  tm : TangleMonitor
  hsc : HeatStages
  sb : SampleBuffers
  fl : FaultList
  meter : PocketMeter
  shedDue : Option Ticks
  deriving DecidableEq, Repr

/-! ## Shared blocks -/

/-- A grant list entry (R126). -/
structure Grant where
  pocket : Pocket
  stage : Nat
  rating : Nat
  deriving DecidableEq, Repr

/-- A pending list entry (R127). -/
structure StageRequest where
  pocket : Pocket
  stage : Nat
  posted : Nat
  deriving DecidableEq, Repr

/-- The supply allocator (chapter 7). `forced` is none with source FOLLOW_LINES (R122). -/
structure Allocator where
  grants : List Grant
  requests : List StageRequest
  stabilityDue : Option Ticks
  debounced : Option Nat
  forced : Option Nat
  updateCount : Nat
  deriving DecidableEq, Repr

/-- The supply meter's shared items (chapter 8). `nextSample` and `nextUpdate` are the clock values of the next 50 ms sample
and the next 250 ms update. -/
structure SupplyMeter where
  sample : Option Nat
  held : Option Nat
  senseFault : Bool
  lowRun : Nat
  highRun : Nat
  bandRun : Nat
  condition : SupplyCondition
  updateVoltage : Option Nat
  nextSample : Ticks
  nextUpdate : Ticks
  deriving DecidableEq, Repr

/-- The receiver of a port (R176) with the frame being assembled and its running check. -/
inductive Receiver where
  /-- REPLYING, or before the end of start-up: characters are lost. -/
  | off
  | hunt
  | length
  /-- `wanted` bytes of the body are still to come; `got` holds those kept. -/
  | body (wanted : Nat) (got : List Byte) (check : CheckWord)
  /-- The body is held; `high` is the check's first byte once received. -/
  | check (got : List Byte) (check : CheckWord) (high : Option Byte)
  deriving DecidableEq, Repr

/-- A reply (R175, R178): its code has the top bit set. -/
structure Reply where
  code : Byte
  tag : Byte
  status : Status
  payload : List Byte
  deriving DecidableEq, Repr

/-- A link port (chapter 10). The port is REPLYING exactly while it holds a reply. -/
structure PortState where
  receiver : Receiver
  lastCharacter : Ticks
  reply : Option Reply
  latch : EventSet
  mask : EventSet
  deriving DecidableEq, Repr

/-- The profile store (chapter 11): the working profile, and the non-volatile image with its check. -/
structure ProfileStore where
  profile : Profile
  unsaved : Bool
  saving : Bool
  lastSave : Option SaveResult
  image : Profile
  check : CheckWord
  storeInvalid : Bool
  deriving DecidableEq, Repr

end Sys2Proof.Machine
end

