-- ==== Sys2Proof/Machine/StartUp.lean ====
section
/-! DEFINITION. The values each block holds at start-up, at power-on and on the RESET line alike: R26, R47, R64, R85, R98,
R120, R144, R156, R173, R184, R185, R199. -/

namespace Sys2Proof.Machine

/-- R26. DESIGN CHOICE (notes/assumptions/26.md): `begun`, `lastDryEnd` and `endReason`, which R26 does not name, come up
unset. -/
def CycleEngine.startUp : CycleEngine :=
  { state := .idle, program := [], index := none, phaseTicks := 0, runSince := none, earlierSeconds := 0, begun := false,
    phasesCompleted := 0, hotExit := false, lastDryEnd := none, lastPhaseEnd := none, airflowProven := false,
    closureDue := none, provingDue := none, lossDue := none, pause := none, purgeDue := none, runOnSince := none,
    windingDown := false, endReason := none, result := none }

/-- R47. Both lockout times are the moment of the reset, clock 0 (R31). DESIGN CHOICE (notes/assumptions/26.md): the latched
pattern, which no rule gives before the first ACCEL. -/
def DrumMotion.startUp : DrumMotion :=
  { state := .stopped, direction := .forward, purpose := none,
    latched := { forwardRun := 0, reverseRun := 0, speed := .low, response := false },
    segmentSince := none, minimumRunDue := none, lastEdge := none, lastPeriod := none, pendingStart := false,
    restartCount := 0, lastRetry := none, reversalCount := 0, forwardOff := 0, reverseOff := 0, runOutput := false,
    speed := .low, pulseDue := none, lockoutDue := none, accelDue := none, stallDue := none, quietDue := none,
    coastDue := none, dwellDue := none }

/-- R64. -/
def RevolutionCounter.startUp : RevolutionCounter :=
  { window := none, pulse := none, segmentRecords := 0, nextSequence := 0, slipRun := 0, lastRecord := none, lastSlip := none }

/-- R85. -/
def Estimator.startUp : Estimator :=
  { exhaust := none, inlet := none, s16 := none, index := none, lastW := none, lastM := none, lastA := none, hold := 0,
    taperCap := none, dryNotice := none }

/-- R98. -/
def TangleMonitor.startUp : TangleMonitor :=
  { score := 0, flag := false, reference := none, lastDeviation := none, lastContactLength := none, relief := false,
    reversalNotice := false }

/-- R120. -/
def HeatStages.startUp : HeatStages :=
  { level := 0, energized := 0, lastLevelChange := none, lastRise := none, lastChange := 0, holdSince := none,
    askedStage := none, freshGrant := false, overTimer := 0, stuckTimer := 0, underTimer := 0, overCount := 0, recoveryDue := none,
    stuckArmed := true, underArmed := true, exhaustArmed := true, inletArmed := true, safe := false, expected := none,
    suspended := false, overHolds := false, underHolds := false }

/-- R185. -/
def SampleBuffers.startUp : SampleBuffers :=
  { x := { state := .filling, records := [] }, y := { state := .free, records := [] }, olderReady := .x, flushDue := none,
    overrun := false }

/-- R173. -/
def FaultList.startUp : FaultList := { records := [], full := false }

/-- R156. -/
def PocketMeter.startUp : PocketMeter := { reading := none, residual := 0, cycleEnergy := 0, totalEnergy := 0 }

/-- All blocks of a pocket at start-up; its lines are the outside's. -/
def PocketState.startUp (lines : PocketLines) : PocketState :=
  { lines := lines, ce := .startUp, dmc := .startUp, rcu := .startUp, me := .startUp, tm := .startUp, hsc := .startUp,
    sb := .startUp, fl := .startUp, meter := .startUp, shedDue := none }

/-- R144. -/
def Allocator.startUp : Allocator :=
  { grants := [], requests := [], stabilityDue := none, debounced := none, forced := none, updateCount := 0 }

/-- R156. -/
def SupplyMeter.startUp : SupplyMeter :=
  { sample := none, held := none, senseFault := false, lowRun := 0, highRun := 0, bandRun := 0, condition := .low,
    updateVoltage := none, nextSample := 0, nextUpdate := 0 }

/-- The default masks of R183: a pocket controller's port admits its own pocket's seven kinds and the four shared kinds, port S
all eighteen. -/
def defaultMask : Port → EventSet
  | .A => 0x03C07F#24
  | .B => 0x03FF80#24
  | .S => 0x03FFFF#24

/-- A port before the end of the profile load (R184): silent. -/
def PortState.silent (port : Port) : PortState :=
  { receiver := .off, lastCharacter := 0, reply := none, latch := 0#24, mask := defaultMask port }

/-- The store's check passes (R196): the stored check is the image's, every value lies in its range, the joint conditions
hold. -/
def ProfileStore.checkPasses (f : ProfileStore) : Bool :=
  f.check == checkOf f.image.bytes && f.image.inRange && f.image.jointlyValid

/-- The profile store after its load (R199): the stored image, or the defaults with STORE_INVALID present and the unsaved
flag set. -/
def ProfileStore.load (f : ProfileStore) : ProfileStore :=
  if f.checkPasses then
    { profile := f.image, unsaved := false, saving := false, lastSave := none, image := f.image, check := f.check,
      storeInvalid := false }
  else
    { profile := defaultProfile, unsaved := true, saving := false, lastSave := none, image := f.image, check := f.check,
      storeInvalid := true }

/-- The profile store while the controller is held in reset or without power: only the store is kept (R199). DESIGN CHOICE
(notes/assumptions/7.md): the working profile, which nothing reads then, shows the defaults. -/
def ProfileStore.lost (f : ProfileStore) : ProfileStore :=
  { profile := defaultProfile, unsaved := false, saving := false, lastSave := none, image := f.image, check := f.check,
    storeInvalid := false }

/-- DESIGN CHOICE (notes/assumptions/6.md): the store of a part that has never been saved to holds the defaults with a passing
check, and the load before State.reset has taken them. -/
def ProfileStore.factory : ProfileStore :=
  { profile := defaultProfile, unsaved := false, saving := false, lastSave := none, image := defaultProfile,
    check := checkOf defaultProfile.bytes, storeInvalid := false }

/-- DESIGN CHOICE (notes/assumptions/5.md): the levels on a pocket's lines at State.reset: door closed, no airflow, thermostat
closed, drive not tripped, strips dry. -/
def PocketLines.initial : PocketLines :=
  { doorClosed := true, airfClosed := false, hlimClosed := true, drvf := false, wet := false }

end Sys2Proof.Machine
end

