-- ==== Sys2Proof/Machine/State.lean ====
section
/-! DEFINITION. The machine's state, the reasons a step may stop, and the state right after reset. -/

namespace Sys2Proof.Machine

/-- The whole controller, and the queue of commands waiting for it, first in, first out. -/
structure State where
  pending : List Instr
  mode : Mode
  now : Ticks
  loadedAt : Ticks
  a : PocketState
  b : PocketState
  levelLines : Nat
  sa : Allocator
  sm : SupplyMeter
  portA : PortState
  portB : PortState
  portS : PortState
  ps : ProfileStore
  deriving DecidableEq, Repr

/-- Reasons the machine stops with a fault. The spec gives every command an effect on every state and never stops the part, so
no meaning raises one. -/
inductive Fault where
  /-- Raised by no command; it stands so that the type has a name to show. Safe: no step answers it. -/
  | none
  deriving DecidableEq, Repr

/-- Reasons a command has no meaning. -/
inductive Refusal where
  /-- Answered by exec's arm of a command that has no meaning yet, with the row's mnemonic. Safe: the model stops there. No arm
  answers it: every command has its meaning. -/
  | notModelled (mnemonic : String)
  deriving DecidableEq, Repr

/-- The values of R26, R47, R64, R85, R98, R120, R144, R156, R173, R184, R185 and R199 with the profile in `ps`: the moment
the RESET line is released, clock 0, at the start of the profile load. The queue and the lines are the outside's. -/
def State.startUp (queue : List Instr) (mode : Mode) (linesA linesB : PocketLines) (level : Nat) (ps : ProfileStore) : State :=
  { pending := queue, mode := mode, now := 0, loadedAt := 0, a := .startUp linesA, b := .startUp linesB, levelLines := level,
    sa := .startUp, sm := .startUp, portA := .silent .A, portB := .silent .B, portS := .silent .S, ps := ps }

/-- The machine right after reset: RESET has been released, the profile has been read from the store, and start-up ends with
PROFILE_LOAD_DONE (R199, R200). -/
def State.reset : State := .startUp [] .loading .initial .initial 0 .factory

end Sys2Proof.Machine
end

