-- ==== Sys2Proof/Machine/Ops.lean ====
section
/-! DEFINITION. The named operations over the state: the clock, the pockets and ports, the profile, the current phase, the
supply account's readings, and the posting of events. -/

namespace Sys2Proof.Machine

/-! ## The clock (R48) -/

/-- Seconds in ticks. -/
def seconds (n : Nat) : Ticks := n * 10000

/-- Milliseconds in ticks. -/
def millis (n : Nat) : Ticks := n * 10

/-- Time passes. Every running time of the model is worked from the clock, so that nothing else changes. -/
def State.elapse (n : Ticks) (s : State) : State := { s with now := s.now + n }

/-- The moment `t` has come: the clock stands at it, or beyond it where it had passed already (notes/assumptions/2.md). -/
def State.reach (t : Ticks) (s : State) : State := { s with now := max s.now t }

/-- `t` lies `n` ticks or more in the past; a time that is none lies long ago (R120). -/
def State.passed (s : State) (t : Option Ticks) (n : Ticks) : Bool :=
  match t with
  | some u => u + n ≤ s.now
  | none => true

/-- Whole seconds since `t`, truncated (notes/assumptions/23.md). -/
def State.secondsSince (s : State) (t : Ticks) : Nat := (s.now - t) / 10000

/-- Whole seconds until `t`, truncated, 0 once it has come (notes/assumptions/23.md). -/
def State.secondsUntil (s : State) (t : Ticks) : Nat := (t - s.now) / 10000

/-- The seconds count (R159): 0 at the end of the profile load, saturating at 4,294,967,295. -/
def State.secondsCount (s : State) : Nat := min (s.secondsSince s.loadedAt) 4294967295

/-! ## Pockets -/

/-- The other pocket. -/
def otherPocket : Pocket → Pocket
  | .A => .B
  | .B => .A

/-- What the controller holds for a pocket. -/
def State.pocket (s : State) : Pocket → PocketState
  | .A => s.a
  | .B => s.b

/-- The one way a pocket's part of the state is replaced. -/
def State.setPocket (s : State) (p : Pocket) (x : PocketState) : State :=
  match p with
  | .A => { s with a := x }
  | .B => { s with b := x }

/-- The pocket's lines changed by `f`. -/
def State.onLines (p : Pocket) (f : PocketLines → PocketLines) (s : State) : State :=
  s.setPocket p { s.pocket p with lines := f (s.pocket p).lines }

/-- The pocket's cycle engine changed by `f`. -/
def State.onCe (p : Pocket) (f : CycleEngine → CycleEngine) (s : State) : State :=
  s.setPocket p { s.pocket p with ce := f (s.pocket p).ce }

/-- The pocket's drum motion controller changed by `f`. -/
def State.onDmc (p : Pocket) (f : DrumMotion → DrumMotion) (s : State) : State :=
  s.setPocket p { s.pocket p with dmc := f (s.pocket p).dmc }

/-- The pocket's revolution counter unit changed by `f`. -/
def State.onRcu (p : Pocket) (f : RevolutionCounter → RevolutionCounter) (s : State) : State :=
  s.setPocket p { s.pocket p with rcu := f (s.pocket p).rcu }

/-- The pocket's moisture estimator changed by `f`. -/
def State.onMe (p : Pocket) (f : Estimator → Estimator) (s : State) : State :=
  s.setPocket p { s.pocket p with me := f (s.pocket p).me }

/-- The pocket's tangle monitor changed by `f`. -/
def State.onTm (p : Pocket) (f : TangleMonitor → TangleMonitor) (s : State) : State :=
  s.setPocket p { s.pocket p with tm := f (s.pocket p).tm }

/-- The pocket's heat stage controller changed by `f`. -/
def State.onHsc (p : Pocket) (f : HeatStages → HeatStages) (s : State) : State :=
  s.setPocket p { s.pocket p with hsc := f (s.pocket p).hsc }

/-- The pocket's sample buffers changed by `f`. -/
def State.onSb (p : Pocket) (f : SampleBuffers → SampleBuffers) (s : State) : State :=
  s.setPocket p { s.pocket p with sb := f (s.pocket p).sb }

/-- The pocket's fault list changed by `f`. -/
def State.onFl (p : Pocket) (f : FaultList → FaultList) (s : State) : State :=
  s.setPocket p { s.pocket p with fl := f (s.pocket p).fl }

/-- The pocket's meter changed by `f`. -/
def State.onMeter (p : Pocket) (f : PocketMeter → PocketMeter) (s : State) : State :=
  s.setPocket p { s.pocket p with meter := f (s.pocket p).meter }

/-- The pocket's shed hold timer set. -/
def State.setShed (p : Pocket) (t : Option Ticks) (s : State) : State :=
  s.setPocket p { s.pocket p with shedDue := t }

/-! ## The profile -/

/-- The value of a per-pocket item by its index (R192). -/
def State.item (s : State) (p : Pocket) (index : Nat) : Nat := s.ps.profile.value (itemNumber p index)

/-- The value of a shared item by its number (R192). -/
def State.shared (s : State) (n : Nat) : Nat := s.ps.profile.value n

/-- The pocket's stage count (R99). -/
def State.stageCount (s : State) (p : Pocket) : Nat := s.ps.profile.stageCount p

/-- The rating of a pocket's stage in W. -/
def State.rating (s : State) (p : Pocket) (stage : Nat) : Nat := s.item p (PocketItem.rating stage)

/-- The sum of the ratings of stages 1..n (R109, R129). -/
def State.ratingSum (s : State) (p : Pocket) (n : Nat) : Nat :=
  ((List.range n).map (fun k => s.rating p (k + 1))).sum

/-- A priority class by its code (section 10.7). -/
def classOfCode : Nat → Option PriorityClass
  | 0 => some .critical
  | 1 => some .high
  | 2 => some .low
  | _ => none

/-- The pocket's priority class (R124). The item holds 0, 1 or 2. -/
def State.classOf (s : State) (p : Pocket) : PriorityClass :=
  (classOfCode (s.item p PocketItem.priorityClass)).getD .high

/-- A class is lower than another: CRITICAL is the highest, LOW the lowest. -/
def PriorityClass.lowerThan : PriorityClass → PriorityClass → Bool
  | .low, .high => true
  | .low, .critical => true
  | .high, .critical => true
  | _, _ => false

/-! ## The current phase -/

/-- HEAT_TIMED and HEAT_DRY are the heat phases (R1). -/
def PhaseKind.isHeat : PhaseKind → Bool
  | .heatTimed => true
  | .heatDry => true
  | _ => false

/-- The entry at an index of a program, counted from 1 (R3). -/
def entryAt (program : List PhaseEntry) (i : Nat) : Option PhaseEntry := program[i - 1]?

/-- The current entry, absent before the first START (R3). -/
def CycleEngine.entry (c : CycleEngine) : Option PhaseEntry :=
  match c.index with
  | some i => entryAt c.program i
  | none => none

/-- The pocket's current entry. -/
def State.entry (s : State) (p : Pocket) : Option PhaseEntry := (s.pocket p).ce.entry

/-- The current entry is of a heat phase. -/
def State.onHeatEntry (s : State) (p : Pocket) : Bool :=
  match s.entry p with
  | some e => e.kind.isHeat
  | none => false

/-- The pocket is RUNNING on a heat phase (R101, R107). -/
def State.heating (s : State) (p : Pocket) : Bool := (s.pocket p).ce.state == .running && s.onHeatEntry p

/-- The ticks the current phase has counted (R9). -/
def State.phaseTicks (s : State) (p : Pocket) : Ticks :=
  (s.pocket p).ce.phaseTicks + (match (s.pocket p).ce.runSince with
    | some t => s.now - t
    | none => 0)

/-- The phase elapsed time in whole seconds (R9). -/
def State.phaseElapsed (s : State) (p : Pocket) : Nat := s.phaseTicks p / 10000

/-- The total running time in whole seconds (R9). -/
def State.totalRunning (s : State) (p : Pocket) : Nat := (s.pocket p).ce.earlierSeconds + s.phaseElapsed p

/-- The number of the pattern in force: the one the current entry names (R28; notes/assumptions/19.md). -/
def State.patternInForce (s : State) (p : Pocket) : Option Nat := (s.entry p).map (·.pattern)

/-- The pattern in force, or pattern 0 where no phase is current (no ACCEL is entered then). -/
def State.pattern (s : State) (p : Pocket) : Nat := (s.patternInForce p).getD 0

/-- The time remaining in seconds (R25). -/
def State.timeRemaining (s : State) (p : Pocket) : Nat :=
  match (s.pocket p).ce.state with
  | .idle | .windingDown | .faulted => 0
  | .proving | .running | .paused =>
    match (s.pocket p).ce.index with
    | none => 0
    | some i =>
      (match s.entry p with
        | some e => e.minutes * 60 - s.phaseElapsed p
        | none => 0) + (((s.pocket p).ce.program.drop i).map (fun e => e.minutes * 60)).sum

/-! ## Samples in use -/

/-- The sense range of the temperature samples, −20.0 to 150.0 °C, both limits included (R116). -/
def inSenseRange (t : Int) : Bool := -200 ≤ t && t ≤ 1500

/-- The exhaust reading a rule uses: the latest sample; before the first supply update a free value
(notes/assumptions/10.md). -/
def State.exhaustReading (s : State) (p : Pocket) : Int :=
  match (s.pocket p).me.exhaust with
  | some t => t
  | none => Config.unsampledExhaust s.now

/-- The inlet value in use, Ti (R66): the latest sample where it lies in range, 250 where it does not. -/
def State.inletInUse (s : State) (p : Pocket) : Int :=
  match (s.pocket p).me.inlet with
  | some t => if inSenseRange t then t else 250
  | none => Config.unsampledInlet s.now

/-! ## The supply level and the account (R121 to R130) -/

/-- The level in force (R122). -/
def State.levelInForce (s : State) : Option Nat :=
  match s.sa.forced with
  | some l => some l
  | none => s.sa.debounced

/-- The ceiling in force in W (R123). -/
def State.ceiling (s : State) : Nat :=
  match s.levelInForce with
  | some l => s.shared (SharedItem.ceiling l)
  | none => 0

/-- The basis in force is METERED (R125). -/
def State.metered (s : State) : Bool := s.shared SharedItem.basis == 1

/-- The entries of a pocket on a grant list. -/
def grantsOf (gs : List Grant) (p : Pocket) : List Grant := gs.filter (fun g => g.pocket == p)

/-- The granted count g of a pocket (R126). -/
def State.granted (s : State) (p : Pocket) : Nat := (grantsOf s.sa.grants p).length

/-- The pocket's pending request, if any (R127). -/
def State.requestOf (s : State) (p : Pocket) : Option StageRequest := s.sa.requests.find? (fun r => r.pocket == p)

/-- The metered snapshot's P and e, 0 before the first supply update (R129). -/
def State.snapshot (s : State) (p : Pocket) : Nat × Nat :=
  match (s.pocket p).meter.reading with
  | some r => (r.power, r.energized)
  | none => (0, 0)

/-! ## Events (R180, R181) -/

/-- The eighteen event kinds. -/
inductive EventKind where
  | phaseEnd (p : Pocket) | cycleEnd (p : Pocket) | paused (p : Pocket) | fault (p : Pocket) | samplesReady (p : Pocket)
  | heatCurtailed (p : Pocket) | tanglePersist (p : Pocket)
  | levelChange | supplyCondition | saveDone | restarted
  deriving DecidableEq, Repr

/-- Where a pocket's seven kinds begin in an event set. -/
def eventBase : Pocket → Nat
  | .A => 0
  | .B => 7

/-- A kind's place in an event set (R180). -/
def EventKind.place : EventKind → Nat
  | .phaseEnd p => eventBase p
  | .cycleEnd p => eventBase p + 1
  | .paused p => eventBase p + 2
  | .fault p => eventBase p + 3
  | .samplesReady p => eventBase p + 4
  | .heatCurtailed p => eventBase p + 5
  | .tanglePersist p => eventBase p + 6
  | .levelChange => 14
  | .supplyCondition => 15
  | .saveDone => 16
  | .restarted => 17

/-- The event set of one kind. -/
def EventKind.set (k : EventKind) : EventSet := 1#24 <<< k.place

/-- What a mask admits: its kinds, and RESTARTED whatever the mask (R181). -/
def admitted (mask : EventSet) : EventSet := mask ||| EventKind.restarted.set

/-- A post reaches a port's latch where its mask admits the kind (R181). -/
def PortState.post (k : EventKind) (x : PortState) : PortState := { x with latch := x.latch ||| (k.set &&& admitted x.mask) }

/-- ATTN is asserted exactly while the latch is not empty (R181). -/
def PortState.attn (x : PortState) : Bool := x.latch != 0#24

/-- The transceiver direction line is asserted while REPLYING (R177; notes/assumptions/12.md). -/
def PortState.directionLine (x : PortState) : Bool := x.reply.isSome

/-- A port's state. -/
def State.port (s : State) : Port → PortState
  | .A => s.portA
  | .B => s.portB
  | .S => s.portS

/-- The one way a port's state is replaced. -/
def State.setPort (s : State) (q : Port) (x : PortState) : State :=
  match q with
  | .A => { s with portA := x }
  | .B => { s with portB := x }
  | .S => { s with portS := x }

/-- An event is posted to each of the three ports (R181). -/
def State.post (k : EventKind) (s : State) : State :=
  { s with portA := s.portA.post k, portB := s.portB.post k, portS := s.portS.post k }

/-- Posts an event where a condition holds. -/
def State.postIf (c : Bool) (k : EventKind) (s : State) : State := if c then s.post k else s

/-! ## Operation and reset (R199) -/

/-- A command acts only while the controller is at work: before the end of start-up the ports are silent and no timer, sample or
message arises (R184, R199, R200; notes/assumptions/4.md). -/
def State.whenOperating (f : State → State) (s : State) : State :=
  match s.mode with
  | .operating => f s
  | _ => s

/-- Every block at its start-up values with the outputs deasserted; the store, the lines and the queue are kept (R199). -/
def State.clear (mode : Mode) (ps : ProfileStore) (s : State) : State :=
  .startUp s.pending mode s.a.lines s.b.lines s.levelLines ps

end Sys2Proof.Machine
end

