-- ==== Sys2Proof/Machine/Flags.lean ====
section
/-! DEFINITION. The conditions the blocks read and report: the blower's demand, the interlocks, the caps, the output lines, the
fault classes and the conditions a CLEAR_FAULT examines. -/

namespace Sys2Proof.Machine

/-! ## Blower and airflow (R6, R14, R15, R16, R21, R40) -/

/-- The cycle engine demands the blower. BLWR follows it (R40). -/
def CycleEngine.blowerDemand (c : CycleEngine) : Bool :=
  match c.state with
  | .proving | .running => true
  | .paused => c.purgeDue.isSome
  | .windingDown | .faulted => c.runOnSince.isSome
  | .idle => false

/-! ## Caps (R82, R96, R101) -/

/-- The taper cap of an entry: max(1, stage cap − 1) (R82). -/
def taperCapOf (e : PhaseEntry) : Nat := max 1 (e.stageCap - 1)

/-- The relief cap of an entry: max(1, stage cap / 2) (R96). -/
def reliefCapOf (e : PhaseEntry) : Nat := max 1 (e.stageCap / 2)

/-- The relief cap the tangle monitor hands: while relief is in force and the current entry is a heat phase (R96). -/
def State.reliefCap (s : State) (p : Pocket) : Option Nat :=
  match s.entry p with
  | some e => if (s.pocket p).tm.relief && e.kind.isHeat then some (reliefCapOf e) else none
  | none => none

/-- The smaller of a cap and an optional cap. -/
def capBy (n : Nat) : Option Nat → Nat
  | some m => min n m
  | none => n

/-- The effective cap (R101): the smallest of the stage count, the stored stage cap and every cap in force while the pocket is
RUNNING on a heat phase, and 0 in every other case. -/
def State.effectiveCap (s : State) (p : Pocket) : Nat :=
  match s.entry p with
  | some e =>
    if (s.pocket p).ce.state == .running && e.kind.isHeat then
      capBy (capBy (min (s.stageCount p) e.stageCap) (s.pocket p).me.taperCap) (s.reliefCap p)
    else 0
  | none => 0

/-! ## Interlocks (R107) -/

/-- The eight interlocks of R107, in the order of its table: each true while it passes. -/
def State.interlocks (s : State) (p : Pocket) : List Bool :=
  let x := s.pocket p
  [s.heating p, x.dmc.state == .run, x.lines.doorClosed, x.ce.airflowProven, x.lines.hlimClosed, s.sm.condition == .normal,
   x.hsc.recoveryDue.isNone, x.hsc.safe]

/-- Heat is permitted: every interlock passes. -/
def State.heatPermitted (s : State) (p : Pocket) : Bool := (s.interlocks p).all id

/-- The target of E: min(L, g) while every interlock passes, and 0 while any fails (R107). -/
def State.heatTarget (s : State) (p : Pocket) : Nat :=
  if s.heatPermitted p then min (s.pocket p).hsc.level (s.granted p) else 0

/-- The failing interlocks as a byte, 1 when failing (R191, byte 84). -/
def State.failingInterlocks (s : State) (p : Pocket) : Nat :=
  (s.interlocks p).foldr (fun pass n => 2 * n + (if pass then 0 else 1)) 0

/-! ## Output lines of a pocket -/

/-- FWD (R30). -/
def DrumMotion.fwd (d : DrumMotion) : Bool := d.runOutput && d.direction == .forward

/-- REV (R30). -/
def DrumMotion.rev (d : DrumMotion) : Bool := d.runOutput && d.direction == .reverse

/-- DCLR: asserted while its pulse runs (R30). -/
def DrumMotion.dclr (d : DrumMotion) : Bool := d.pulseDue.isSome

/-- HTn for n = 1..6: HT1 to HT_E are asserted (R108). -/
def HeatStages.ht (h : HeatStages) (n : Nat) : Bool := 1 ≤ n && n ≤ h.energized

/-- SAFE and HT1 to HT6 as a byte (R191, byte 93). -/
def HeatStages.outputsByte (h : HeatStages) : Nat :=
  (h.safe :: [1, 2, 3, 4, 5, 6].map h.ht).foldr (fun on n => 2 * n + (if on then 1 else 0)) 0

/-! ## Faults (R157, R167) -/

/-- The class of a fault kind (R157). -/
def classOfFault : FaultKind → FaultClass
  | .heaterUnderload | .sensorInlet | .tanglePersist => .warning
  | _ => .trip

/-- The kind is a TRIP. -/
def isTrip (k : FaultKind) : Bool := classOfFault k == .trip

/-- The kinds whose reports carry a detail (R157). -/
def hasDetail : FaultKind → Bool
  | .heaterOvercurrent | .heaterUnderload => true
  | _ => false

/-- The list holds a record of a kind. -/
def FaultList.holds (f : FaultList) (k : FaultKind) : Bool := f.records.any (fun r => r.kind == k)

/-- The number of TRIP records of a list. -/
def FaultList.trips (f : FaultList) : Nat := (f.records.filter (fun r => isTrip r.kind)).length

/-- A stored sample lies outside the sense range; an absent one does not. -/
def sampleOut : Option Int → Bool
  | some t => !inSenseRange t
  | none => false

/-- The condition of a kind is present, judged from its owner's state (R167, R118, R95). -/
def State.conditionPresent (s : State) (p : Pocket) (k : FaultKind) : Bool :=
  let x := s.pocket p
  match k with
  | .drumStall | .driveFault | .beltSlip | .airflowFail => false
  | .highLimit => !x.lines.hlimClosed
  | .heaterStuckOn =>
    match x.meter.reading with
    | some r => s.item p PocketItem.offCurrentLimit < r.current
    | none => false
  | .heaterOvercurrent => x.hsc.overHolds
  | .sensorExhaust => sampleOut x.me.exhaust
  | .sensorInlet => sampleOut x.me.inlet
  | .heaterUnderload => x.hsc.underHolds
  | .tanglePersist => x.tm.relief

/-- The pocket's fault wind-down is in progress (R22, R23). -/
def CycleEngine.faultWindDown (c : CycleEngine) : Bool := c.state == .faulted && c.windingDown

/-- The pocket is in a cycle: from an accepted START to the end of the wind-down, normal or fault (R154). -/
def CycleEngine.inCycle (c : CycleEngine) : Bool :=
  match c.state with
  | .proving | .running | .paused | .windingDown => true
  | .faulted => c.windingDown
  | .idle => false

/-- A per-pocket profile write is accepted in the pocket's present state: IDLE, or FAULTED after its fault wind-down (R193). -/
def CycleEngine.writable (c : CycleEngine) : Bool :=
  match c.state with
  | .idle => true
  | .faulted => !c.windingDown
  | _ => false

/-! ## The supply voltage (R146, R147) -/

/-- A sense-fault reading: 0 or full scale (R147). -/
def isSenseFault (v : Nat) : Bool := v == 0 || v == 6000

/-- Classes of a voltage sample (R146). -/
inductive SampleClass where
  | lowSide | highSide | band | margin
  deriving DecidableEq, Repr

/-- The class of a sample against the thresholds in force (R146, R147). -/
def State.classifyVoltage (s : State) (v : Nat) : SampleClass :=
  let low := s.shared SharedItem.lowThreshold
  let high := s.shared SharedItem.highThreshold
  let hyst := s.shared SharedItem.voltageHysteresis
  if v < low || isSenseFault v then .lowSide
  else if high < v then .highSide
  else if low + hyst ≤ v && v + hyst ≤ high then .band
  else .margin

end Sys2Proof.Machine
end

