-- ==== Sys2Proof/Machine/Buffers.lean ====
section
/-! DEFINITION. The sample buffers of a pocket (R185, R186). -/

namespace Sys2Proof.Machine

/-- The other buffer. -/
def BufferName.other : BufferName → BufferName
  | .x => .y
  | .y => .x

/-- A buffer of a pocket. -/
def SampleBuffers.buffer (b : SampleBuffers) : BufferName → Buffer
  | .x => b.x
  | .y => b.y

/-- A buffer replaced. -/
def SampleBuffers.setBuffer (n : BufferName) (v : Buffer) (b : SampleBuffers) : SampleBuffers :=
  match n with
  | .x => { b with x := v }
  | .y => { b with y := v }

/-- The FILLING buffer, of which there is at most one (R185). -/
def SampleBuffers.filling (b : SampleBuffers) : Option BufferName :=
  if b.x.state == .filling then some .x else if b.y.state == .filling then some .y else none

/-- The READY buffer that became READY first (R185). -/
def SampleBuffers.older (b : SampleBuffers) : Option BufferName :=
  if b.x.state == .ready && b.y.state == .ready then some b.olderReady
  else if b.x.state == .ready then some .x
  else if b.y.state == .ready then some .y
  else none

/-- A buffer becomes READY: the flush timer goes idle, and the other buffer becomes FILLING if it is FREE (R185). -/
def SampleBuffers.makeReady (n : BufferName) (b : SampleBuffers) : SampleBuffers :=
  let other := b.buffer n.other
  let b1 := (b.setBuffer n { b.buffer n with state := .ready }).setBuffer n.other
    (if other.state == .free then { other with state := .filling } else other)
  { b1 with flushDue := none, olderReady := if other.state == .ready then n.other else n }

/-- A record joins the FILLING buffer and loads the flush timer; without a FILLING buffer it is dropped and the overrun flag is
set (R185). -/
def SampleBuffers.append (flushAt : Ticks) (r : RevolutionRecord) (b : SampleBuffers) : SampleBuffers :=
  match b.filling with
  | some n => { b.setBuffer n { b.buffer n with records := (b.buffer n).records ++ [r] } with flushDue := some flushAt }
  | none => { b with overrun := true }

/-- The FILLING buffer holds the twelve records that make it READY (R185). -/
def SampleBuffers.fillingFull (b : SampleBuffers) : Option BufferName :=
  match b.filling with
  | some n => if 12 ≤ (b.buffer n).records.length then some n else none
  | none => none

/-- The FILLING buffer, if it holds at least one record. -/
def SampleBuffers.fillingHeld (b : SampleBuffers) : Option BufferName :=
  match b.filling with
  | some n => if (b.buffer n).records.isEmpty then none else some n
  | none => none

/-- A buffer of a pocket becomes READY and SAMPLES_READY is posted; without one nothing happens. -/
def State.bufferReady (p : Pocket) (n : Option BufferName) (s : State) : State :=
  match n with
  | some n => (s.onSb p (·.makeReady n)).post (.samplesReady p)
  | none => s

/-- Step 5 of R61: the record is handed to the pocket's buffers (R185). -/
def State.appendSample (p : Pocket) (r : RevolutionRecord) (s : State) : State :=
  let s1 := s.onSb p (·.append (s.now + seconds (s.item p PocketItem.flushTime)) r)
  s1.bufferReady p (s1.pocket p).sb.fillingFull

/-- A FILLING buffer that holds a record becomes READY (R185: the end of a wind-down, and the flush timer). -/
def State.flushSamples (p : Pocket) (s : State) : State := s.bufferReady p (s.pocket p).sb.fillingHeld

/-- A fetch empties the returned buffer, which becomes FILLING if no buffer is FILLING and FREE otherwise, and clears the
overrun flag (R186). -/
def SampleBuffers.fetched (n : BufferName) (b : SampleBuffers) : SampleBuffers :=
  let state := if b.filling.isNone then BufferState.filling else BufferState.free
  { b.setBuffer n { state := state, records := [] } with overrun := false }

end Sys2Proof.Machine
end

