-- ==== Sys2Proof/Machine/Heat.lean ====
section
/-! DEFINITION. The heat stage controller's counts L and E and its release hold timer (R103, R105, R106, R108). -/

namespace Sys2Proof.Machine

/-- E becomes `n`; a change sets the settle time (R108, R110). -/
def HeatStages.withEnergized (now : Ticks) (n : Nat) (h : HeatStages) : HeatStages :=
  if n = h.energized then h else { h with energized := n, lastChange := now }

/-- L becomes `n`; a change sets the time of the last change of L (R103). -/
def HeatStages.withLevel (now : Ticks) (n : Nat) (h : HeatStages) : HeatStages :=
  if n = h.level then h else { h with level := n, lastLevelChange := some now }

/-- When E's target falls below E, E falls to it at once (R108). -/
def State.dropE (p : Pocket) (s : State) : State :=
  s.onHsc p (fun h => h.withEnergized s.now (min h.energized (s.heatTarget p)))

/-- The stage interval since the last rise of E has passed (R108). -/
def State.riseDue (s : State) (p : Pocket) : Bool :=
  s.passed (s.pocket p).hsc.lastRise (seconds (s.item p PocketItem.stageInterval))

/-- When the target stands above E and the stage interval since the last rise has passed, E rises by one (R108). -/
def State.riseE (p : Pocket) (s : State) : State :=
  if (s.pocket p).hsc.energized < s.heatTarget p && s.riseDue p then
    s.onHsc p (fun h => { h with energized := h.energized + 1, lastRise := some s.now, lastChange := s.now })
  else s

/-- E follows its target: a fall at once, a rise of one stage where it is due (R108; notes/assumptions/27.md). -/
def State.followE (p : Pocket) (s : State) : State := (s.dropE p).riseE p

/-- The release hold timer after L or g may have changed: idle while g equals L; from 0 when g becomes greater than L or L
changes while g stays above it; otherwise it runs on (R106). A hold that ends or begins afresh has asked for nothing. -/
def State.considerHold (p : Pocket) (levelChanged : Bool) (s : State) : State :=
  s.onHsc p (fun h =>
    if s.granted p ≤ h.level then { h with holdSince := none, askedStage := none }
    else if levelChanged || h.holdSince.isNone then { h with holdSince := some s.now, askedStage := none }
    else h)

/-- L becomes `n` by the regulator: the hold timer and E follow (R103, R106, R108). -/
def State.setLevel (p : Pocket) (n : Nat) (s : State) : State :=
  (s.onHsc p (fun h => h.withLevel s.now n)).considerHold p (n != (s.pocket p).hsc.level) |>.followE p

/-- When the release hold runs out (R106). -/
def State.holdDue (s : State) (p : Pocket) : Option Ticks :=
  (s.pocket p).hsc.holdSince.map (fun t => t + seconds (s.item p PocketItem.releaseHold))

/-- The release hold has run out and asks for the top stage, as no grant is fresh (R106). -/
def State.holdRanOut (s : State) (p : Pocket) : Bool := (s.holdDue p).any (· ≤ s.now) && !(s.pocket p).hsc.freshGrant

/-- A loss comes to a pocket that had stage `top` on top: the request of a hold that has run out by now is for that stage, which has
gone (R106, R137; notes/assumptions/38.md). -/
def State.keepAsked (p : Pocket) (top : Nat) (s : State) : State :=
  if s.holdRanOut p && (s.pocket p).hsc.askedStage.isNone then s.onHsc p (fun h => { h with askedStage := some top }) else s

/-- The supply allocator tells the heat stage controller that its granted count was `before` (R105, R140). On a loss L is
lowered to g and E with it, at once; on a grant L and E are left alone; the release hold is considered afresh in both. -/
def State.tellGranted (p : Pocket) (before : Nat) (s : State) : State :=
  let g := s.granted p
  if g < before then
    ((s.keepAsked p before).onHsc p (fun h => h.withLevel s.now (min h.level g))).considerHold p
      (decide (g < (s.pocket p).hsc.level)) |>.dropE p
  else if before < g then
    (s.onHsc p (fun h => { h with freshGrant := true })).considerHold p false
  else s

end Sys2Proof.Machine
end

