-- ==== Sys2Proof/Machine/Allocation.lean ====
section
/-! DEFINITION. The supply allocator's account: committed power, fit, evaluation with shedding, serving and reclaim, and the
ways entries are given back (R128 to R141). -/

namespace Sys2Proof.Machine

/-! ## Committed power (R128, R129) and fit (R130) -/

/-- The RATED sum of a grant list. -/
def ratedSum (gs : List Grant) : Nat := (gs.map (·.rating)).sum

/-- A pocket's part of committed power under METERED: its metered term, and its entries above e at their rating (R129). -/
def State.meteredPart (s : State) (gs : List Grant) (p : Pocket) : Nat :=
  let power := (s.snapshot p).1
  let e := (s.snapshot p).2
  min power (ratedSum ((grantsOf gs p).filter (fun g => g.stage ≤ e)))
    + ratedSum ((grantsOf gs p).filter (fun g => e < g.stage))

/-- Committed power of a grant list under the basis in force, in W. -/
def State.committedOf (s : State) (gs : List Grant) : Nat :=
  if s.metered then s.meteredPart gs .A + s.meteredPart gs .B else ratedSum gs

/-- Committed power (R128, R129). -/
def State.committed (s : State) : Nat := s.committedOf s.sa.grants

/-- A stage of rating `w` fits beside a grant list: committed power plus `w` is at or below the ceiling less the guard, and
nothing fits while the guard is at or above the ceiling (R130). -/
def State.fits (s : State) (gs : List Grant) (w : Nat) : Bool :=
  s.shared SharedItem.guard < s.ceiling && s.committedOf gs + w + s.shared SharedItem.guard ≤ s.ceiling

/-! ## Evaluation (R131 to R135) -/

/-- What an evaluation works on: the two lists, and which pockets lost entries. -/
structure Account where
  grants : List Grant
  requests : List StageRequest
  lostA : Bool
  lostB : Bool
  deriving DecidableEq, Repr

/-- The list without the most recently granted entry of a pocket, which is its top stage (R126). -/
def withoutNewest (gs : List Grant) (p : Pocket) : List Grant := (gs.reverse.eraseP (fun g => g.pocket == p)).reverse

/-- The pending list without a pocket's request (R136). -/
def withoutRequest (rs : List StageRequest) (p : Pocket) : List StageRequest := rs.filter (fun r => r.pocket != p)

/-- A pocket loses its newest entry by shedding or reclaim, and its pending request with it (R134, R135, R136). -/
def Account.lose (p : Pocket) (a : Account) : Account :=
  { grants := withoutNewest a.grants p, requests := withoutRequest a.requests p,
    lostA := a.lostA || p == .A, lostB := a.lostB || p == .B }

/-- A pocket has entries on a grant list. -/
def hasGrants (gs : List Grant) (p : Pocket) : Bool := gs.any (fun g => g.pocket == p)

/-- Whose newest entry shedding takes: the pocket of the lowest class that has entries; of two of one class, the pocket of the
most recently granted entry (R135). -/
def State.shedVictim (s : State) (gs : List Grant) : Option Pocket :=
  if hasGrants gs .A && hasGrants gs .B then
    if (s.classOf .A).lowerThan (s.classOf .B) then some .A
    else if (s.classOf .B).lowerThan (s.classOf .A) then some .B
    else gs.getLast?.map (·.pocket)
  else if hasGrants gs .A then some .A
  else if hasGrants gs .B then some .B
  else none

/-- Shedding (R135): entries are removed one at a time until committed power is at or below the ceiling. The first argument
bounds the removals; the number of entries is enough. -/
def State.shedLoop (s : State) : Nat → Account → Account
  | 0, a => a
  | n + 1, a =>
    if s.ceiling < s.committedOf a.grants then
      match s.shedVictim a.grants with
      | some p => s.shedLoop n (a.lose p)
      | none => a
    else a

/-- The request served next: the one of the higher class, and between requests of one class the one nearer the head (R133). -/
def State.nextServed (s : State) : List StageRequest → Option StageRequest
  | [] => none
  | r :: rs =>
    match s.nextServed rs with
    | some q => if (s.classOf r.pocket).lowerThan (s.classOf q.pocket) then some q else some r
    | none => some r

/-- The request is granted: its entry joins the tail with the stage's rating, and it leaves the pending list (R126, R133). -/
def State.grant (s : State) (r : StageRequest) (a : Account) : Account :=
  { a with grants := a.grants ++ [{ pocket := r.pocket, stage := r.stage, rating := s.rating r.pocket r.stage }],
           requests := withoutRequest a.requests r.pocket }

/-- A CRITICAL request that does not fit may reclaim: the other pocket's class is lower, and the request would fit with every
entry of the other pocket removed (R134). -/
def State.mayReclaim (s : State) (r : StageRequest) (a : Account) : Bool :=
  s.classOf r.pocket == .critical && (s.classOf (otherPocket r.pocket)).lowerThan .critical
    && s.fits (grantsOf a.grants r.pocket) (s.rating r.pocket r.stage)

/-- Reclaim (R134): the other pocket's newest entries are removed one at a time until the request fits. -/
def State.reclaimLoop (s : State) (r : StageRequest) : Nat → Account → Account
  | 0, a => a
  | n + 1, a =>
    if s.fits a.grants (s.rating r.pocket r.stage) then a
    else s.reclaimLoop r n (a.lose (otherPocket r.pocket))

/-- Serving the pending list one request at a time, with no bypass (R133, R134). -/
def State.serveLoop (s : State) : Nat → Account → Account
  | 0, a => a
  | n + 1, a =>
    match s.nextServed a.requests with
    | none => a
    | some r =>
      if s.fits a.grants (s.rating r.pocket r.stage) then s.serveLoop n (s.grant r a)
      else if s.mayReclaim r a then
        s.serveLoop n (s.grant r (s.reclaimLoop r (grantsOf a.grants (otherPocket r.pocket)).length a))
      else a

/-- The account before an evaluation. -/
def State.account (s : State) : Account :=
  { grants := s.sa.grants, requests := s.sa.requests, lostA := false, lostB := false }

/-- The account after shedding and then serving (R131). -/
def State.evaluated (s : State) : Account :=
  let a := s.shedLoop s.sa.grants.length s.account
  s.serveLoop a.requests.length a

/-- The grant list and the pending list replaced. -/
def State.withLists (gs : List Grant) (rs : List StageRequest) (s : State) : State :=
  { s with sa := { s.sa with grants := gs, requests := rs } }

/-- One evaluation (R131): the lists, then each heat stage controller told of its own change, then the events due (R140). -/
def State.evaluate (s : State) : State :=
  let a := s.evaluated
  (s.withLists a.grants a.requests)
    |>.tellGranted .A (s.granted .A) |>.tellGranted .B (s.granted .B)
    |>.postIf a.lostA (.heatCurtailed .A) |>.postIf a.lostB (.heatCurtailed .B)

/-! ## Losses and withdrawals (R136 to R139) -/

/-- Every entry of a pocket and its pending request leave the lists, and its heat stage controller is told. -/
def State.removeAll (p : Pocket) (s : State) : State :=
  (s.withLists (s.sa.grants.filter (fun g => g.pocket != p)) (withoutRequest s.sa.requests p)).tellGranted p (s.granted p)

/-- The cycle engine's release of all of a pocket's entries and its pending request (R139). -/
def State.releaseAll (p : Pocket) (s : State) : State := (s.removeAll p).evaluate

/-- A pending request of a pocket is withdrawn, and the allocator evaluates; without a request nothing happens (R136). -/
def State.withdraw (p : Pocket) (s : State) : State :=
  if (s.requestOf p).isSome then
    (s.withLists s.sa.grants (withoutRequest s.sa.requests p)).evaluate
  else s

/-- The heat stage controller's release of its pocket's top stage (R137): the entry is removed, a pending request withdrawn, and
the hold timer restarts where g is still above L (R106). -/
def State.releaseTop (p : Pocket) (s : State) : State :=
  if s.granted p = 0 then s
  else
    ((s.withLists (withoutNewest s.sa.grants p) (withoutRequest s.sa.requests p)).tellGranted p (s.granted p)
      |>.considerHold p true).evaluate

/-- The heat stage controller asks for the release of the stage that was on top when its hold ran out (R137): where a loss taken first
has removed that stage, the request removes nothing, and the hold begins again (R106; notes/assumptions/38.md). -/
def State.askRelease (p : Pocket) (s : State) : State :=
  match (s.pocket p).hsc.askedStage with
  | some stage => if stage = s.granted p then s.releaseTop p else s.considerHold p true
  | none => s.releaseTop p

/-- The effective cap is formed afresh (R101) and handed to the allocator (R138): entries above it are removed, highest stage
first, with the pending request; where it equals g a pending request is withdrawn. -/
def State.applyCap (p : Pocket) (s : State) : State :=
  let cap := s.effectiveCap p
  if cap < s.granted p then
    ((s.withLists (s.sa.grants.filter (fun g => g.pocket != p || g.stage ≤ cap)) (withoutRequest s.sa.requests p)).tellGranted p
      (s.granted p)).evaluate
  else if cap = s.granted p then s.withdraw p
  else s

/-! ## Posting a request (R132) -/

/-- The pending list with a new request in posting order; of two with one post time pocket A's stands first (R127). -/
def insertRequest (rs : List StageRequest) (r : StageRequest) : List StageRequest :=
  match rs with
  | [] => [r]
  | q :: qs => if q.pocket == .B && r.pocket == .A && q.posted == r.posted then r :: q :: qs else q :: insertRequest qs r

/-- A post is taken when the pocket is RUNNING on a heat phase, is not under a shed hold, has no request pending, and the stage
is g + 1 and within the effective cap (R132). -/
def State.postTaken (s : State) (p : Pocket) (stage : Nat) : Bool :=
  s.heating p && (s.pocket p).shedDue.isNone && (s.requestOf p).isNone && stage == s.granted p + 1 && stage ≤ s.effectiveCap p

/-- A heat stage controller posts a request for a stage (R132): a post taken joins the pending list and the allocator evaluates,
any other is dropped. -/
def State.postRequest (p : Pocket) (stage : Nat) (s : State) : State :=
  if s.postTaken p stage then
    (s.withLists s.sa.grants
      (insertRequest s.sa.requests { pocket := p, stage := stage, posted := s.sa.updateCount })).evaluate
  else s

end Sys2Proof.Machine
end

