-- ==== Sys2Proof/Machine/Drum.lean ====
section
/-! DEFINITION. The drum motion controller's transitions (R29 to R39, R46) and what they tell the pocket's other blocks. -/

namespace Sys2Proof.Machine

/-- A speed by its code (R192). -/
def speedOfCode (n : Nat) : Speed := if n = 0 then .low else .high

/-- The pattern in force, as it is latched at ACCEL entry and at a renewal (R28). -/
def State.patternToLatch (s : State) (p : Pocket) : LatchedPattern :=
  let n := s.pattern p
  { forwardRun := s.item p (PocketItem.forwardRun n), reverseRun := s.item p (PocketItem.reverseRun n),
    speed := speedOfCode (s.item p (PocketItem.speed n)), response := s.item p (PocketItem.tangleResponse n) == 1 }

/-- The opposite direction. -/
def Direction.opposite : Direction → Direction
  | .forward => .reverse
  | .reverse => .forward

/-- The run time of the segment's direction, in seconds (R33). -/
def DrumMotion.runTime (d : DrumMotion) : Nat :=
  match d.direction with
  | .forward => d.latched.forwardRun
  | .reverse => d.latched.reverseRun

/-- The quiet time: 1.5 times the last period, and at least 1 s (R35). -/
def DrumMotion.quietTime (d : DrumMotion) : Ticks :=
  match d.lastPeriod with
  | some t => max 10000 (t * 3 / 2)
  | none => 10000

/-- When the output opposite to the segment's direction was last deasserted (R31). -/
def DrumMotion.oppositeOff (d : DrumMotion) : Ticks :=
  match d.direction with
  | .forward => d.reverseOff
  | .reverse => d.forwardOff

/-- The run output is deasserted, and the time of it held if it was asserted (R31). -/
def DrumMotion.outputOff (now : Ticks) (d : DrumMotion) : DrumMotion :=
  { d with runOutput := false,
           forwardOff := if d.runOutput && d.direction == .forward then now else d.forwardOff,
           reverseOff := if d.runOutput && d.direction == .reverse then now else d.reverseOff }

/-- Entry to ACCEL (R30): direction, latched pattern, SPD and the DCLR pulse; the tangle monitor's score, flag and reference
(R92) and the segment's record count (R57) are reset. -/
def State.enterAccel (p : Pocket) (dir : Direction) (s : State) : State :=
  s.onDmc p (fun d =>
      { d.outputOff s.now with
               state := .accel, direction := dir, purpose := none, latched := s.patternToLatch p,
               speed := (s.patternToLatch p).speed, pulseDue := some (s.now + millis 100),
               pendingStart := false, lastEdge := none, lastPeriod := none, segmentSince := none, minimumRunDue := none,
               lockoutDue := none, accelDue := none, stallDue := none, quietDue := none, coastDue := none, dwellDue := none })
    |>.onTm p (fun t => { t with score := 0, flag := false, reference := none, reversalNotice := false })
    |>.onRcu p (fun r => { r with segmentRecords := 0 })

/-- The run output of the direction is asserted and the accel timeout begins (R31, R32). -/
def State.assertOutput (p : Pocket) (s : State) : State :=
  s.onDmc p (fun d =>
    { d with runOutput := true, lockoutDue := none,
             accelDue := some (s.now + seconds (s.item p PocketItem.accelTimeout)) })

/-- ACCEL is ready to assert its run output: it does so, or waits until the opposite output has been off for 2 s (R31). -/
def State.readyOutput (p : Pocket) (s : State) : State :=
  let free := (s.pocket p).dmc.oppositeOff + seconds 2
  if free ≤ s.now then s.assertOutput p else s.onDmc p (fun d => { d with lockoutDue := some free })

/-- Entry to COAST from ACCEL or RUN (R35): outputs off, the open window discarded with any partial contact (R52), energized
stages removed (R46). -/
def State.toCoast (p : Pocket) (purpose : CoastPurpose) (s : State) : State :=
  s.onDmc p (fun d =>
      { d.outputOff s.now with
          state := .coast, purpose := some purpose, segmentSince := none, minimumRunDue := none, lockoutDue := none,
          accelDue := none, stallDue := none, quietDue := some (s.now + d.quietTime),
          coastDue := some (s.now + seconds (s.item p PocketItem.coastTime)) })
    |>.onRcu p (fun r => { r with window := none, pulse := none })
    |>.onTm p (fun t => { t with reversalNotice := false })
    |>.dropE p

/-- Entry to STOPPED (R29, R36): a pending start is taken at once if DOOR is closed, into ACCEL FORWARD. -/
def State.enterStopped (p : Pocket) (s : State) : State :=
  let s1 := s.onDmc p (fun d => { d with state := .stopped, purpose := none, quietDue := none, coastDue := none, dwellDue := none })
  if (s.pocket p).dmc.pendingStart && (s.pocket p).lines.doorClosed then s1.enterAccel p .forward else s1

/-- A start request of the cycle engine (R29). -/
def State.startRequest (p : Pocket) (s : State) : State :=
  match (s.pocket p).dmc.state with
  | .stopped =>
    if (s.pocket p).lines.doorClosed then s.enterAccel p .forward else s.onDmc p (fun d => { d with pendingStart := true })
  | .coast =>
    if (s.pocket p).dmc.purpose == some .stop then s.onDmc p (fun d => { d with pendingStart := true }) else s
  | .accel | .run | .dwell => s

/-- What a stop request and DOOR opening have in common (R38, R39): ACCEL and RUN go to COAST with purpose STOP, COAST takes that
purpose, DWELL goes to STOPPED. -/
def State.haltDrum (p : Pocket) (s : State) : State :=
  match (s.pocket p).dmc.state with
  | .stopped => s
  | .accel | .run => s.toCoast p .stop
  | .coast => s.onDmc p (fun d => { d with purpose := some .stop })
  | .dwell => s.onDmc p (fun d => { d with state := .stopped, purpose := none, dwellDue := none })

/-- A stop request of the cycle engine (R38): a pending start is cancelled in every state. -/
def State.stopRequest (p : Pocket) (s : State) : State :=
  (s.onDmc p (fun d => { d with pendingStart := false })).haltDrum p

/-- Entry to DWELL for the dwell of the pattern in force (R37). -/
def State.enterDwell (p : Pocket) (s : State) : State :=
  s.onDmc p (fun d =>
    { d with state := .dwell, quietDue := none, coastDue := none,
             dwellDue := some (s.now + seconds (s.item p (PocketItem.dwell (s.pattern p)))) })

/-- The direction of the ACCEL after a dwell (R30). -/
def State.directionAfterDwell (s : State) (p : Pocket) : Direction :=
  let d := (s.pocket p).dmc
  if 0 < s.item p (PocketItem.reverseRun (s.pattern p)) then
    (if d.purpose == some .retry then d.direction else d.direction.opposite)
  else .forward

/-- The restart attempt count is reset and the last retry cause cleared (R43). -/
def State.resetRestarts (p : Pocket) (s : State) : State :=
  s.onDmc p (fun d => { d with restartCount := 0, lastRetry := none })

end Sys2Proof.Machine
end

