-- ==== Sys2Proof/Machine/Cycle.lean ====
section
/-! DEFINITION. The cycle engine's transitions (R6 to R24): proving, running, phases, pause, wind-down and the response to a
trip. -/

namespace Sys2Proof.Machine

/-- The phase elapsed time is frozen where it stands, part-second included (R9). -/
def CycleEngine.frozen (ticks : Ticks) (c : CycleEngine) : CycleEngine := { c with phaseTicks := ticks, runSince := none }

/-- Entry to PROVING (R6): airflow unproven, the blower demanded, the 10 s proving timer, and the 1 s of closure measured from
this entry where AIRF is closed. -/
def State.enterProving (p : Pocket) (s : State) : State :=
  s.onCe p (fun c =>
    { c with state := .proving, airflowProven := false, provingDue := some (s.now + seconds 10),
             closureDue := if (s.pocket p).lines.airfClosed then some (s.now + seconds 1) else none,
             lossDue := none, purgeDue := none, pause := none })

/-- The taper condition is evaluated (R82, R83) with the current entry against the index as it stands. -/
def State.updateTaper (p : Pocket) (s : State) : State :=
  s.onMe p (fun m =>
    { m with taperCap :=
        match s.entry p, m.index with
        | some e, some i =>
          if e.kind == .heatDry && 0 < s.item p PocketItem.taperMargin && e.dryness ≤ i + s.item p PocketItem.taperMargin then
            some (taperCapOf e)
          else none
        | _, _ => none })

/-- A phase starts (R10): elapsed time 0; the estimator, the heat stage controller and the allocator take the new entry. The
drum motion controller follows the pattern in force by itself. The part-second of the phase before is dropped
(notes/assumptions/9.md). -/
def State.phaseStart (p : Pocket) (s : State) : State :=
  let heat := s.onHeatEntry p
  let dry := (s.entry p).any (fun e => e.kind == .heatDry)
  let s1 := s.onCe p (fun c =>
      { c with earlierSeconds := s.totalRunning p, phaseTicks := 0, runSince := some s.now, begun := true })
    |>.onMe p (fun m =>
      { m with hold := if dry then 0 else m.hold, lastA := if heat then m.lastA else none, dryNotice := none })
    |>.updateTaper p
    |>.onHsc p (fun h => { h with overCount := 0 })
  if heat then s1.applyCap p else (s1.dropE p).releaseAll p

/-- The drum's entry to RUN reaches the cycle engine (R7): in PROVING the pocket enters RUNNING, where phase 1 starts or the
phase that was current goes on. -/
def State.drumReachedRun (p : Pocket) (s : State) : State :=
  if (s.pocket p).ce.state == .proving then
    let s1 := s.onCe p (fun c => { c with state := .running, provingDue := none, runSince := some s.now })
    if (s.pocket p).ce.begun then s1 else s1.phaseStart p
  else s

/-- Entry to PAUSED (R14). -/
def State.enterPaused (p : Pocket) (cause : PauseCause) (s : State) : State :=
  s.onCe p (fun c =>
      { c.frozen (s.phaseTicks p) with
          state := .paused, pause := some (cause, s.now), purgeDue := some (s.now + seconds 30), provingDue := none,
          lossDue := none })
    |>.onMe p (fun m => { m with dryNotice := none })
    |>.dropE p |>.releaseAll p |>.stopRequest p |>.post (.paused p)

/-- Entry to a wind-down (R20), in WINDING_DOWN or, for a trip, in FAULTED (R22): heat stopped, entries released, drum stopped,
timers cancelled, run-on started. Where the blower was off its demand begins here, and with it the closure time of R6. -/
def State.enterWindDown (p : Pocket) (state : CycleState) (reason : CycleEndReason) (s : State) : State :=
  s.onCe p (fun c =>
      { c.frozen (s.phaseTicks p) with
          state := state, endReason := some reason, windingDown := true, pause := none, purgeDue := none, provingDue := none,
          lossDue := none, runOnSince := some s.now,
          closureDue :=
            if c.blowerDemand then c.closureDue
            else if (s.pocket p).lines.airfClosed then some (s.now + seconds 1) else none })
    |>.onMe p (fun m => { m with dryNotice := none })
    |>.dropE p |>.releaseAll p |>.stopRequest p

/-- The phase end of R13: counted, recorded and posted; then the next entry starts, or the wind-down begins with reason
COMPLETE. A COOL phase that ends for TIME sets the hot-exit flag (R12); a HEAT_DRY phase's reason becomes the last HEAT_DRY end
reason (R11). -/
def State.endPhase (p : Pocket) (reason : PhaseEndReason) (s : State) : State :=
  match (s.pocket p).ce.index, s.entry p with
  | some i, some e =>
    let s1 := s.onCe p (fun c =>
        { c with phasesCompleted := c.phasesCompleted + 1, lastPhaseEnd := some (i, reason),
                 lastDryEnd := if e.kind == .heatDry then some reason else c.lastDryEnd,
                 hotExit := c.hotExit || (e.kind == .cool && reason == .time) })
      |>.post (.phaseEnd p)
    if i < (s.pocket p).ce.program.length then
      (s1.onCe p (fun c => { c with index := some (i + 1) })).phaseStart p
    else s1.enterWindDown p .windingDown .complete
  | _, _ => s

/-- The indices after the current one whose entries are of kind COOL (R17). -/
def CycleEngine.laterCool (c : CycleEngine) (i : Nat) : List Nat :=
  ((List.range c.program.length).map (· + 1)).filter
    (fun j => i < j && (entryAt c.program j).any (fun e => e.kind == .cool))

/-- One of the entries `i`, …, `j − 1` is of kind HEAT_DRY. -/
def CycleEngine.skipsDry (c : CycleEngine) (i j : Nat) : Bool :=
  ((c.program.take (j - 1)).drop (i - 1)).any (fun e => e.kind == .heatDry)

/-- The jump of STOP COOL to a later COOL entry (R17): the phases between end SKIPPED and are not counted. -/
def State.jumpToCool (p : Pocket) (i j : Nat) (s : State) : State :=
  (s.onCe p (fun c =>
      { c with lastPhaseEnd := some (j - 1, .skipped), index := some j,
               lastDryEnd := if c.skipsDry i j then some .skipped else c.lastDryEnd }))
    |>.post (.phaseEnd p) |>.phaseStart p

/-- STOP in mode COOL in RUNNING (R17): the jump to the first later COOL entry, or the wind-down. -/
def State.stopCool (p : Pocket) (s : State) : State :=
  match (s.pocket p).ce.index with
  | some i =>
    match (s.pocket p).ce.laterCool i with
    | j :: _ => s.jumpToCool p i j
    | [] => s.enterWindDown p .windingDown .stopped
  | none => s.enterWindDown p .windingDown .stopped

/-- The cycle result record as it stands (R24). -/
def State.resultNow (s : State) (p : Pocket) : CycleResult :=
  let c := (s.pocket p).ce
  { endReason := c.endReason.getD .complete, runningSeconds := s.totalRunning p, phasesCompleted := c.phasesCompleted,
    lastDryEnd := c.lastDryEnd, finalIndex := (s.pocket p).me.index, energy := (s.pocket p).meter.cycleEnergy,
    hotExit := c.hotExit }

/-- The wind-down ends once the run-on has ended and the drum is STOPPED (R21): the result record, the sample buffers, CYCLE_END
and the new state, in one step. -/
def State.finishWindDown (p : Pocket) (s : State) : State :=
  let c := (s.pocket p).ce
  if c.windingDown && c.runOnSince.isNone && (s.pocket p).dmc.state == .stopped then
    (s.onCe p (fun c =>
        { c with result := some (s.resultNow p), windingDown := false,
                 state := if c.state == .windingDown then .idle else c.state }))
      |>.flushSamples p |>.post (.cycleEnd p)
  else s

/-- The blower's demand ends: airflow is unproven at once (R6). -/
def CycleEngine.blowerEnds (c : CycleEngine) : CycleEngine := { c with airflowProven := false, closureDue := none }

/-- The blower run-on ends (R21), and with it the proof of airflow (R6). -/
def State.endRunOn (p : Pocket) (s : State) : State :=
  ((s.onCe p (fun c => { c.blowerEnds with runOnSince := none })).dropE p).finishWindDown p

/-- The response to a trip (R22), with FAULT posted in every state. -/
def State.trip (p : Pocket) (s : State) : State :=
  (match (s.pocket p).ce.state with
    | .proving | .running | .paused => s.enterWindDown p .faulted .fault
    | .windingDown => s.onCe p (fun c => { c with state := .faulted, endReason := some .fault })
    | .faulted => s
    | .idle => s.onCe p (fun c => { c with state := .faulted })).post (.fault p)

end Sys2Proof.Machine
end

