-- ==== Sys2Proof/Machine/FaultOps.lean ====
section
/-! DEFINITION. Taking a fault report (R160 to R164), the retry or trip of a stall or drive fault (R42), and CLEAR_FAULT (R168). -/

namespace Sys2Proof.Machine

/-- The phase a new record carries: the current index in PROVING, RUNNING and PAUSED (R158). -/
def CycleEngine.faultPhase (c : CycleEngine) : Option Nat :=
  match c.state with
  | .proving | .running | .paused => c.index
  | _ => none

/-- A new record (R160). -/
def newRecord (phase : Option Nat) (seconds : Nat) (k : FaultKind) (detail : Option Nat) : FaultRecord :=
  { kind := k, phase := phase, first := seconds, last := seconds, count := 1, detail := if hasDetail k then detail else none }

/-- A repeat occurrence (R161). -/
def FaultRecord.repeated (seconds : Nat) (detail : Option Nat) (r : FaultRecord) : FaultRecord :=
  { r with last := seconds, count := min (r.count + 1) 255, detail := if hasDetail r.kind then detail else r.detail }

/-- A report is taken (R160 to R163). The second component tells whether it made a new record. -/
def FaultList.take (phase : Option Nat) (seconds : Nat) (k : FaultKind) (detail : Option Nat) (f : FaultList) : FaultList × Bool :=
  let r := newRecord phase seconds k detail
  if f.holds k then
    ({ f with records := f.records.map (fun q => if q.kind == k then q.repeated seconds detail else q) }, false)
  else if f.records.length < 6 then ({ f with records := f.records ++ [r] }, true)
  else if f.records.any (fun q => !isTrip q.kind) then
    ({ f with records := f.records.eraseP (fun q => !isTrip q.kind) ++ [r] }, true)
  else if k == .heaterStuckOn then ({ records := f.records.drop 1 ++ [r], full := true }, true)
  else ({ f with full := true }, false)

/-- The pocket's fault list takes a report and hands on its effects (R164): a TRIP to the cycle engine, FAULT for a new WARNING
record, and SAFE open for HEATER_STUCK_ON (R113; notes/assumptions/18.md). -/
def State.report (p : Pocket) (k : FaultKind) (detail : Option Nat) (s : State) : State :=
  let x := s.pocket p
  let taken := x.fl.take x.ce.faultPhase s.secondsCount k detail
  let s1 := s.onFl p (fun _ => taken.1)
  let s2 := if k == .heaterStuckOn then (s1.onHsc p (fun h => { h with safe := false })).dropE p else s1
  if isTrip k then s2.trip p else s2.postIf taken.2 (.fault p)

/-- The fault a cause trips (R42). -/
def RetryCause.fault : RetryCause → FaultKind
  | .stall => .drumStall
  | .drive => .driveFault

/-- A stall or a drive fault is taken (R42): a retry while attempts are left, else COAST with purpose STOP and the trip. -/
def State.failSegment (p : Pocket) (cause : RetryCause) (s : State) : State :=
  if (s.pocket p).dmc.restartCount < s.item p PocketItem.restartAttempts then
    (s.onDmc p (fun d => { d with restartCount := d.restartCount + 1, lastRetry := some cause })).toCoast p .retry
  else
    ((s.onDmc p (fun d => { d with lastRetry := some cause })).toCoast p .stop).report p cause.fault none

/-- The records a CLEAR_FAULT leaves: those whose condition is present (R168). -/
def State.remainingFaults (s : State) (p : Pocket) : List FaultRecord :=
  (s.pocket p).fl.records.filter (fun r => s.conditionPresent p r.kind)

/-- CLEAR_FAULT is taken (R168). -/
def State.clearFaults (p : Pocket) (s : State) : State :=
  let rest := s.remainingFaults p
  let stuckGone := (s.pocket p).fl.holds .heaterStuckOn && !rest.any (fun r => r.kind == .heaterStuckOn)
  let s1 := s.onFl p (fun _ => { records := rest, full := false })
  let s2 := if stuckGone then (s1.onHsc p (fun h => { h with safe := true })).followE p else s1
  if (s.pocket p).ce.state == .faulted && (s2.pocket p).fl.trips == 0 then s2.onCe p (fun c => { c with state := .idle }) else s2

end Sys2Proof.Machine
end

