-- ==== Sys2Proof/Machine/Revolution.lean ====
section
/-! DEFINITION. The revolution window and its record (R50 to R63), the tangle monitor's evidence (R88 to R93), the moisture
estimate (R68 to R83) and belt slip (R62, R63). -/

namespace Sys2Proof.Machine

/-! ## Window and contact filter (R50 to R56) -/

/-- The largest value of a 24-bit window counter (R56). -/
def counterLimit : Nat := 16777215

/-- A window opens at the clock with its counters at 0; the filter takes a WET that is high as a pulse begun now (R50). -/
def State.openWindow (p : Pocket) (s : State) : State :=
  s.onRcu p (fun r =>
    { r with window := some { openedAt := s.now, tachEdges := 0, contacts := 0, contactTicks := 0 },
             pulse := if (s.pocket p).lines.wet then some { since := s.now, accepted := false } else none })

/-- The minimum contact width in ticks (R49). -/
def State.contactWidth (s : State) (p : Pocket) : Ticks := s.item p PocketItem.minimumContact

/-- The pulse being followed qualifies: it is accepted and raises the contact counter of the open window (R54). Its ticks count
from its beginning inside the window, by `contactTimeAt`. -/
def RevolutionCounter.qualify (r : RevolutionCounter) : RevolutionCounter :=
  match r.window, r.pulse with
  | some w, some u =>
    if u.accepted then r
    else { r with window := some { w with contacts := min (w.contacts + 1) counterLimit }, pulse := some { u with accepted := true } }
  | _, _ => r

/-- A pulse that has reached the minimum width has qualified by now (R54). -/
def State.settlePulse (p : Pocket) (s : State) : State :=
  match (s.pocket p).rcu.pulse with
  | some u => if u.since + s.contactWidth p ≤ s.now then s.onRcu p (·.qualify) else s
  | none => s

/-- The contact timer of the open window: ended contacts, and the accepted pulse's ticks since it began or the window opened
(R54, R55), saturating (R56). -/
def contactTimeAt (now : Ticks) (w : Window) (u : Option Pulse) : Ticks :=
  min (w.contactTicks + (match u with
    | some u => if u.accepted then now - max u.since w.openedAt else 0
    | none => 0)) counterLimit

/-! ## Validity (R57, R58) -/

/-- The class of a record, from the segment record count after its rise and its period. -/
def State.classifyRecord (s : State) (p : Pocket) (count period : Nat) : Validity :=
  if count ≤ s.item p PocketItem.settleRevolutions then .settling
  else if period < s.item p PocketItem.plausibleMinimum * 1000 || s.item p PocketItem.plausibleMaximum * 1000 < period then
    .implausible
  else .valid

/-! ## Tangle monitor (R88 to R93) -/

/-- The deviation of a period from the reference, in per mille (R89). -/
def deviation (period reference : Nat) : Nat :=
  min 1000 ((if reference ≤ period then period - reference else reference - period) * 1000 / reference)

/-- The change of the score (R91): +4, +2, +2 or −1, saturating at 0 and 15. -/
def scoreAfter (score : Nat) (uneven lumpy : Bool) : Nat :=
  match uneven, lumpy with
  | true, true => min 15 (score + 4)
  | true, false => min 15 (score + 2)
  | false, true => min 15 (score + 2)
  | false, false => score - 1

/-- The conditions of an early reversal request (R93). -/
def State.reversalCalled (s : State) (p : Pocket) : Bool :=
  let x := s.pocket p
  x.tm.flag && x.ce.state == .running && x.dmc.state == .run && x.dmc.latched.response && 0 < x.dmc.latched.reverseRun
    && (match x.dmc.segmentSince with
      | some t => t + seconds (s.item p PocketItem.minimumRun) ≤ s.now
      | none => false)

/-- The tangle monitor requests an early reversal where its conditions hold; the request travels to the drum motion controller
(R93; notes/assumptions/17.md). -/
def State.considerReversal (p : Pocket) (s : State) : State :=
  if s.reversalCalled p then s.onTm p (fun t => { t with reversalNotice := true }) else s

/-- Step 1 of R61: the tangle monitor takes a VALID record of a period, a contact count and a contact time. -/
def State.takeTangle (p : Pocket) (period contacts contactTime : Nat) (s : State) : State :=
  let t := (s.pocket p).tm
  let dev := t.reference.map (deviation period)
  let len := if contacts = 0 then none else some (contactTime / contacts)
  let uneven := dev.any (fun d => s.item p PocketItem.deviationThreshold ≤ d)
  let lumpy := len.any (fun l => s.item p PocketItem.lumpLength * 10 ≤ l)
  let score := scoreAfter t.score uneven lumpy
  (s.onTm p (fun t =>
    { t with score := score, flag := decide (s.item p PocketItem.scoreThreshold ≤ score), reference := some period,
             lastDeviation := dev, lastContactLength := len })).considerReversal p

/-! ## Moisture estimator (R68 to R83) -/

/-- The wet fraction W (R69). -/
def wetFraction (contactTime period : Nat) : Nat := min 4096 (contactTime * 4096 / max 1 (min period counterLimit))

/-- One step of the filter (R71): S16 moves by the difference divided by 2^k, truncated toward zero, clamped to 0..65,536. -/
def smooth (k s16 w : Nat) : Nat :=
  (max 0 (min 65536 ((s16 : Int) + Int.tdiv ((w : Int) * 16 - s16) (2 ^ k : Nat)))).toNat

/-- The moisture term M (R73). -/
def moistureTerm (s16 : Nat) : Nat := 1000 - s16 * 1000 / 65536

/-- The approach term A (R74), temperatures in 0.1 °C and the target in whole °C. -/
def approachTerm (te ti : Int) (target : Nat) : Nat :=
  let span := (target : Int) * 10 - ti
  if span < 50 then 1000 else (max 0 (min 1000 (Int.tdiv ((te - ti) * 1000) span))).toNat

/-- The dryness index of a heat phase (R76). -/
def drynessIndex (m a wS wT : Nat) : Nat := (m * wS + a * wT) / (wS + wT)

/-- The dry hold counter after a record (R78). -/
def holdAfter (hold index target : Nat) : Nat := if target ≤ index then min 255 (hold + 1) else 0

/-- Step 2 of R61: the moisture estimator takes a VALID record while the pocket has a current phase (R68), with the record's
exhaust temperature and the inlet value in use. -/
def State.takeMoisture (p : Pocket) (period contactTime : Nat) (te ti : Int) (s : State) : State :=
  match s.entry p with
  | none => s
  | some e =>
    let m := (s.pocket p).me
    let w := wetFraction contactTime period
    let s16 := match m.s16 with
      | some v => smooth (s.item p PocketItem.filterShift) v w
      | none => w * 16
    let mt := moistureTerm s16
    let a := approachTerm te ti e.temperature
    let index := if e.kind.isHeat then
        drynessIndex mt a (s.item p PocketItem.moistureWeight) (s.item p PocketItem.temperatureWeight)
      else mt
    let counts := (s.pocket p).ce.state == .running && e.kind == .heatDry && !(s.pocket p).tm.flag
    let hold := if counts then holdAfter m.hold index e.dryness else m.hold
    s.onMe p (fun m =>
        { m with s16 := some s16, index := some index, lastW := some w, lastM := some mt,
                 lastA := if e.kind.isHeat then some a else m.lastA, hold := hold,
                 dryNotice := if counts && e.hold ≤ hold then (s.pocket p).ce.index else m.dryNotice })
      |>.updateTaper p |>.applyCap p

/-! ## Belt slip (R62, R63) -/

/-- The slip in per mille (R62). -/
def slipOf (nominal tach : Nat) : Nat := if tach < nominal then (nominal - tach) * 1000 / nominal else 0

/-- Step 4 of R61: the slip run count after a VALID record; it returns to 0 at the count of 5 that reports (R63). -/
def State.takeSlip (p : Pocket) (tach : Nat) (s : State) : State :=
  let slip := slipOf (s.item p PocketItem.nominalTach) tach
  s.onRcu p (fun r =>
    { r with lastSlip := some slip,
             slipRun := if s.item p PocketItem.slipLimit * 10 < slip then (if 5 ≤ r.slipRun + 1 then 0 else r.slipRun + 1) else 0 })

/-- A VALID record's slip brings the run of R62 to 5, so that BELT_SLIP is reported (R63). -/
def State.slipReports (s : State) (p : Pocket) (tach : Nat) : Bool :=
  s.item p PocketItem.slipLimit * 10 < slipOf (s.item p PocketItem.nominalTach) tach && 5 ≤ (s.pocket p).rcu.slipRun + 1

/-! ## The window close (R51, R59, R60, R61) -/

/-- The record that closing a window at the clock completes, before its tangle flag and dryness index are filled in (R59). DESIGN
CHOICE: a second rising edge in the opening tick, for which R51 counts no tick, gives the period 1 at which the range of R59 begins
(notes/assumptions/34.md). -/
def State.recordOf (s : State) (p : Pocket) (w : Window) : RevolutionRecord :=
  let x := s.pocket p
  let period := max 1 (min (s.now - w.openedAt) counterLimit)
  { sequence := x.rcu.nextSequence, direction := x.dmc.direction,
    validity := s.classifyRecord p (min 255 (x.rcu.segmentRecords + 1)) period, tangleFlag := false,
    energized := x.hsc.energized, period := period, tach := min w.tachEdges 65535, contacts := min w.contacts 255,
    contactTime := contactTimeAt s.now w x.rcu.pulse, exhaust := x.me.exhaust, index := none }

/-- The window closes and the next opens at the same tick; the filter goes on following its pulse (R51); the record takes its
sequence number (R60) and raises the segment record count (R57). -/
def State.rollWindow (p : Pocket) (r : RevolutionRecord) (s : State) : State :=
  s.onRcu p (fun c =>
    { c with window := some { openedAt := s.now, tachEdges := 0, contacts := 0, contactTicks := 0 },
             segmentRecords := min 255 (c.segmentRecords + 1), nextSequence := (c.nextSequence + 1) % 65536,
             lastRecord := some { sequence := r.sequence, validity := r.validity, period := r.period, tach := r.tach } })

/-- Steps 1, 2 and 4 of R61 for a VALID record; SETTLING and IMPLAUSIBLE records are not taken (R58). -/
def State.takeEvidence (p : Pocket) (r : RevolutionRecord) (te ti : Int) (s : State) : State :=
  if r.validity == .valid then
    ((s.takeTangle p r.period r.contacts r.contactTime).takeMoisture p r.period r.contactTime te ti).takeSlip p r.tach
  else s

/-- The hand-on of a completed record in the order of R61, then what it sets off at once: the settle notice (R43, R57) and a
BELT_SLIP trip (R63). -/
def State.handOn (p : Pocket) (r : RevolutionRecord) (te ti : Int) (s : State) : State :=
  let slips := r.validity == .valid && s.slipReports p r.tach
  let s1 := s.takeEvidence p r te ti
  let s2 := s1.appendSample p { r with tangleFlag := (s1.pocket p).tm.flag, index := (s1.pocket p).me.index }
  let s3 := if (s2.pocket p).rcu.segmentRecords == s.item p PocketItem.settleRevolutions then s2.resetRestarts p else s2
  if slips then s3.report p .beltSlip none else s3

/-- An IDX edge in RUN closes the open window (R51). -/
def State.closeWindow (p : Pocket) (s : State) : State :=
  let s1 := s.settlePulse p
  match (s1.pocket p).rcu.window with
  | some w =>
    let r := s1.recordOf p w
    (s1.rollWindow p r).handOn p r (s1.exhaustReading p) (s1.inletInUse p)
  | none => s1

end Sys2Proof.Machine
end

