-- ==== Sys2Proof/Machine/Operands.lean ====
section
/-! DEFINITION. Operands of requests and items of replies: the enumerations, the phase entry and the revolution record of
section 10.7. -/

namespace Sys2Proof.Machine

/-! ## Enumerated values (section 10.7) -/

/-- pocket -/
def pocketCode : Pocket → Nat
  | .A => 0
  | .B => 1

/-- A pocket byte: 0 is pocket A, 1 pocket B, any other value none (R178). -/
def pocketOfByte (b : Byte) : Option Pocket := if b = 0#8 then some .A else if b = 1#8 then some .B else none

/-- status -/
def statusCode : Status → Nat
  | .ok => 0 | .unknown => 1 | .length => 2 | .denied => 3 | .busy => 4 | .interlock => 5 | .range => 6 | .empty => 7

/-- cycle state -/
def cycleStateCode : CycleState → Nat
  | .idle => 0 | .proving => 1 | .running => 2 | .paused => 3 | .windingDown => 4 | .faulted => 5

/-- phase kind -/
def phaseKindCode : PhaseKind → Nat
  | .heatTimed => 0 | .heatDry => 1 | .cool => 2 | .tumble => 3

/-- A phase kind by its code; a code of 4 or above is none (R189). -/
def phaseKindOfCode : Nat → Option PhaseKind
  | 0 => some .heatTimed
  | 1 => some .heatDry
  | 2 => some .cool
  | 3 => some .tumble
  | _ => none

/-- phase end reason -/
def phaseEndCode : PhaseEndReason → Nat
  | .time => 0 | .dry => 1 | .timeLimit => 2 | .coolTemp => 3 | .skipped => 4

/-- cycle end reason -/
def cycleEndCode : CycleEndReason → Nat
  | .complete => 0 | .stopped => 1 | .halted => 2 | .fault => 3 | .pauseTimeout => 4

/-- pause cause -/
def pauseCauseCode : PauseCause → Nat
  | .pause => 0 | .door => 1

/-- motion state -/
def motionCode : MotionState → Nat
  | .stopped => 0 | .accel => 1 | .run => 2 | .coast => 3 | .dwell => 4

/-- direction -/
def directionCode : Direction → Nat
  | .forward => 0 | .reverse => 1

/-- coast purpose -/
def purposeCode : CoastPurpose → Nat
  | .stop => 0 | .retry => 1 | .alternate => 2

/-- retry cause -/
def retryCode : RetryCause → Nat
  | .stall => 0 | .drive => 1

/-- validity -/
def validityCode : Validity → Nat
  | .valid => 0 | .settling => 1 | .implausible => 2

/-- buffer state -/
def bufferStateCode : BufferState → Nat
  | .free => 0 | .filling => 1 | .ready => 2

/-- The buffer returned by FETCH_SAMPLES: 0 for X, 1 for Y (R186). -/
def bufferCode : BufferName → Nat
  | .x => 0 | .y => 1

/-- supply condition -/
def conditionCode : SupplyCondition → Nat
  | .normal => 0 | .low => 1 | .high => 2

/-- class -/
def classCode : PriorityClass → Nat
  | .critical => 0 | .high => 1 | .low => 2

/-- fault kind -/
def faultKindCode : FaultKind → Nat
  | .drumStall => 0 | .driveFault => 1 | .beltSlip => 2 | .airflowFail => 3 | .highLimit => 4 | .heaterStuckOn => 5
  | .heaterOvercurrent => 6 | .sensorExhaust => 7 | .heaterUnderload => 8 | .sensorInlet => 9 | .tanglePersist => 10

/-- fault class -/
def faultClassCode : FaultClass → Nat
  | .trip => 0 | .warning => 1

/-- last save result (R195). -/
def saveResultCode : Option SaveResult → Nat
  | some .ok => 0
  | some .storeError => 1
  | none => 0xFF

/-! ## The phase entry (R189) -/

/-- An entry from its eight bytes; none where the kind byte is 4 or above. -/
def decodeEntry (bs : List Byte) : Option PhaseEntry :=
  match bs with
  | [k, t, m, d1, d0, h, c, n] =>
    (phaseKindOfCode k.toNat).map (fun kind =>
      { kind := kind, temperature := t.toNat, minutes := m.toNat, dryness := d1.toNat * 256 + d0.toNat, hold := h.toNat,
        stageCap := c.toNat, pattern := n.toNat })
  | _ => none

/-- An entry's eight bytes. -/
def encodeEntry (e : PhaseEntry) : List Byte :=
  be1 (phaseKindCode e.kind) ++ be1 e.temperature ++ be1 e.minutes ++ be2 e.dryness ++ be1 e.hold ++ be1 e.stageCap ++ be1 e.pattern

/-- The used fields of an entry lie in their ranges (R1). -/
def PhaseEntry.inRange (e : PhaseEntry) : Bool :=
  let heat := 30 ≤ e.temperature && e.temperature ≤ 90 && 1 ≤ e.stageCap && e.stageCap ≤ 6
  1 ≤ e.minutes && e.minutes ≤ 240 && e.pattern ≤ 3 &&
    (match e.kind with
      | .heatTimed => heat
      | .heatDry => heat && 500 ≤ e.dryness && e.dryness ≤ 1000 && 1 ≤ e.hold && e.hold ≤ 255
      | .cool => 25 ≤ e.temperature && e.temperature ≤ 60
      | .tumble => true)

/-- The bytes of a program in entries of eight. The first argument bounds the entries. -/
def decodeEntries : Nat → List Byte → Option (List PhaseEntry)
  | 0, _ => some []
  | n + 1, bs =>
    match decodeEntry (bs.take 8), decodeEntries n (bs.drop 8) with
    | some e, some es => some (e :: es)
    | _, _ => none

/-- The program of a START payload, if every kind byte is a kind and every used field is in range (R2). -/
def decodeProgram (payload : List Byte) : Option (List PhaseEntry) :=
  match payload with
  | count :: bs =>
    match decodeEntries count.toNat bs with
    | some es => if es.all (·.inRange) then some es else none
    | none => none
  | [] => none

/-- The clamps of R2: a heat phase's temperature to the maximum exhaust target and its stage cap to the stage count. -/
def clampEntry (maxExhaust stageCount : Nat) (e : PhaseEntry) : PhaseEntry :=
  if e.kind.isHeat then { e with temperature := min e.temperature maxExhaust, stageCap := min e.stageCap stageCount } else e

/-! ## The revolution record (R190) -/

/-- The flag bits of byte 2: direction, validity, tangle flag, index present, E. -/
def recordBits (r : RevolutionRecord) : Nat :=
  directionCode r.direction + 2 * validityCode r.validity + 8 * (if r.tangleFlag then 1 else 0)
    + 16 * (if r.index.isSome then 1 else 0) + 32 * (r.energized % 8)

/-- A temperature sample, −32,768 for none (R191). -/
def sampleBytes (t : Option Int) : List Byte := be2Signed (t.getD (-32768))

/-- The sixteen bytes of a record. -/
def encodeRecord (r : RevolutionRecord) : List Byte :=
  be2 r.sequence ++ be1 (recordBits r) ++ be3 r.period ++ be2 r.tach ++ be1 r.contacts ++ be3 r.contactTime
    ++ sampleBytes r.exhaust ++ be2 (r.index.getD 0)

end Sys2Proof.Machine
end

