-- ==== Sys2Proof/Machine/Reports.lean ====
section
/-! DEFINITION. The payloads of the read requests: the pocket status record (R191) and the replies to READ_FAULTS (R170),
READ_SUPPLY (R143), READ_METER (R155) and READ_PROFILE (R195), encoded by R188 (notes/assumptions/11.md). -/

namespace Sys2Proof.Machine

/-! ## READ_POCKET (R191) -/

/-- Bytes 1 to 14: the cycle engine's items (R25). -/
def State.statusCycle (s : State) (p : Pocket) : List Byte :=
  let c := (s.pocket p).ce
  be1 (cycleStateCode c.state) ++ be1 (c.index.getD 0)
    ++ be1 (match c.entry with
      | some e => phaseKindCode e.kind
      | none => 0xFF)
    ++ be2 (s.phaseElapsed p)
    ++ (match c.lastPhaseEnd with
      | some (i, r) => be1 i ++ be1 (phaseEndCode r)
      | none => be1 0 ++ be1 0xFF)
    ++ (match c.pause with
      | some (k, t) => be1 (pauseCauseCode k) ++ be2 (s.secondsSince t)
      | none => be1 0xFF ++ be2 0xFFFF)
    ++ be4 (s.timeRemaining p)

/-- Bytes 15 to 28: the result record (R24). -/
def resultBytes : Option CycleResult → List Byte
  | some r =>
    be1 (cycleEndCode r.endReason) ++ be4 r.runningSeconds ++ be1 r.phasesCompleted
      ++ be1 (match r.lastDryEnd with
        | some e => phaseEndCode e
        | none => 0xFF)
      ++ be2 (r.finalIndex.getD 0xFFFF) ++ be4 r.energy ++ flagByte r.hotExit
  | none => be1 0xFF ++ be4 0 ++ be1 0 ++ be1 0 ++ be2 0 ++ be4 0 ++ be1 0

/-- The segment timer in whole seconds, 0 outside RUN (R47). -/
def State.segmentSeconds (s : State) (p : Pocket) : Nat :=
  match (s.pocket p).dmc.segmentSince with
  | some t => s.secondsSince t
  | none => 0

/-- The last retry cause as it is reported: absent while the restart attempt count is 0 (R47). -/
def DrumMotion.retryCause (d : DrumMotion) : Nat :=
  match d.lastRetry with
  | some c => if d.restartCount = 0 then 0xFF else retryCode c
  | none => 0xFF

/-- Bytes 29 to 37: the drum motion controller's items (R47). -/
def State.statusDrum (s : State) (p : Pocket) : List Byte :=
  let d := (s.pocket p).dmc
  be1 (motionCode d.state) ++ be1 (directionCode d.direction)
    ++ be1 (match d.state, d.purpose with
      | .coast, some u => purposeCode u
      | _, _ => 0xFF)
    ++ be2 (s.segmentSeconds p) ++ be1 ((s.patternInForce p).getD 0xFF) ++ be1 d.restartCount
    ++ be1 d.retryCause
    ++ be1 d.reversalCount

/-- Bytes 38 to 51: the revolution counter unit's items (R64). -/
def statusRevolution (r : RevolutionCounter) : List Byte :=
  flagByte r.window.isSome ++ be1 r.segmentRecords
    ++ (match r.lastRecord with
      | some l => be1 1 ++ be2 l.sequence ++ be1 (validityCode l.validity) ++ be3 l.period ++ be2 l.tach
      | none => be1 0 ++ be2 0 ++ be1 0 ++ be3 0 ++ be2 0)
    ++ be2 (r.lastSlip.getD 0xFFFF) ++ be1 r.slipRun

/-- Ti is substituted: the latest inlet sample lies outside the sense range (R66). Before the first
supply update there is no such sample and the flag is clear (notes/assumptions/39.md). -/
def inletSubstituted (m : Estimator) : Bool := sampleOut m.inlet

/-- Bytes 52 to 68: the moisture estimator's items (R84). -/
def statusMoisture (m : Estimator) : List Byte :=
  sampleBytes m.exhaust ++ sampleBytes m.inlet ++ flagByte (inletSubstituted m) ++ flagByte m.s16.isSome
    ++ be2 (m.index.getD 0xFFFF) ++ be2 (m.lastW.getD 0xFFFF) ++ be2 (m.lastM.getD 0xFFFF) ++ be2 (m.lastA.getD 0xFFFF)
    ++ be1 m.hold ++ flagByte m.taperCap.isSome ++ be1 (m.taperCap.getD 0xFF)

/-- Bytes 69 to 78: the tangle monitor's items (R98). -/
def State.statusTangle (s : State) (p : Pocket) : List Byte :=
  let t := (s.pocket p).tm
  be1 t.score ++ flagByte t.flag ++ be2 (t.lastDeviation.getD 0xFFFF) ++ be4 (t.lastContactLength.getD 0xFFFFFFFF)
    ++ flagByte t.relief ++ be1 ((s.reliefCap p).getD 0xFF)

/-- Bytes 79 to 93: the heat stage controller's items (R119). DESIGN CHOICE: byte 83 is the current entry's stage cap whatever the
entry's kind, and 0xFF without a current entry (notes/assumptions/37.md). -/
def State.statusHeat (s : State) (p : Pocket) : List Byte :=
  let h := (s.pocket p).hsc
  be1 h.level ++ be1 h.energized ++ be1 (s.effectiveCap p) ++ be1 (s.stageCount p)
    ++ be1 (match s.entry p with
      | some e => e.stageCap
      | none => 0xFF)
    ++ be1 (s.failingInterlocks p)
    ++ be1 (match h.holdSince with
      | some t => s.secondsSince t
      | none => 0xFF)
    ++ be1 h.overCount
    ++ be1 (match h.recoveryDue with
      | some t => s.secondsUntil t
      | none => 0xFF)
    ++ be2 (match h.expected with
      | some i => min i 65534
      | none => 0xFFFF)
    ++ be2 (match (s.pocket p).meter.reading with
      | some r => r.current
      | none => 0xFFFF)
    ++ flagByte h.suspended ++ be1 h.outputsByte

/-- Bytes 94 to 109: the supply allocator's and the meter's items (R143, R155). -/
def State.statusSupply (s : State) (p : Pocket) : List Byte :=
  be1 (s.granted p)
    ++ (match s.requestOf p with
      | some r => be1 r.stage ++ be4 r.posted
      | none => be1 0 ++ be4 0)
    ++ be2 (match (s.pocket p).shedDue with
      | some t => s.secondsUntil t
      | none => 0xFFFF)
    ++ be4 (match (s.pocket p).meter.reading with
      | some r => r.power
      | none => 0xFFFFFFFF)
    ++ be4 (s.pocket p).meter.cycleEnergy

/-- Bytes 110 to 114: the fault list's and the sample buffers' items (R170, R187). -/
def statusLists (f : FaultList) (b : SampleBuffers) : List Byte :=
  be1 f.records.length ++ be1 f.trips ++ flagByte f.full
    ++ be1 (bufferStateCode b.x.state + 4 * bufferStateCode b.y.state + 16 * (if b.overrun then 1 else 0))
    ++ be1 (16 * b.x.records.length + b.y.records.length)

/-- The pocket status record (R191). -/
def State.pocketStatus (s : State) (p : Pocket) : List Byte :=
  let x := s.pocket p
  be1 (pocketCode p) ++ s.statusCycle p ++ resultBytes x.ce.result ++ s.statusDrum p ++ statusRevolution x.rcu
    ++ statusMoisture x.me ++ s.statusTangle p ++ s.statusHeat p ++ s.statusSupply p ++ statusLists x.fl x.sb
    ++ be1 x.ce.program.length ++ x.ce.program.flatMap encodeEntry

/-! ## READ_FAULTS (R170) -/

/-- A fault record in the order of R158, with its present condition after it (R188). -/
def State.faultBytes (s : State) (p : Pocket) (r : FaultRecord) : List Byte :=
  be1 (faultKindCode r.kind) ++ be1 (faultClassCode (classOfFault r.kind)) ++ optionalItem be1 r.phase ++ be4 r.first ++ be4 r.last
    ++ be1 r.count ++ optionalItem be1 r.detail ++ flagByte (s.conditionPresent p r.kind)

/-- The READ_FAULTS payload. -/
def State.faultsReport (s : State) (p : Pocket) : List Byte :=
  let f := (s.pocket p).fl
  be4 s.secondsCount ++ flagByte f.full ++ be1 f.records.length ++ f.records.flatMap (s.faultBytes p)
    ++ flagByte s.ps.storeInvalid ++ flagByte s.sm.senseFault

/-! ## READ_SUPPLY (R143) -/

/-- A grant list entry: pocket, stage, rating. -/
def grantBytes (g : Grant) : List Byte := be1 (pocketCode g.pocket) ++ be1 g.stage ++ be2 g.rating

/-- A pending list entry: pocket, stage, post time. -/
def requestBytes (r : StageRequest) : List Byte := be1 (pocketCode r.pocket) ++ be1 r.stage ++ be4 r.posted

/-- The level source: 0 FOLLOW_LINES, 1 forced. -/
def State.levelSource (s : State) : Nat := if s.sa.forced.isSome then 1 else 0

/-- The shed hold time remaining of a pocket in whole seconds. -/
def State.shedRemaining (s : State) (p : Pocket) : Option Nat := (s.pocket p).shedDue.map s.secondsUntil

/-- The READ_SUPPLY payload. -/
def State.supplyReport (s : State) : List Byte :=
  be1 s.levelLines ++ optionalItem be1 s.sa.debounced ++ be1 s.levelSource ++ optionalItem be1 s.sa.forced
    ++ optionalItem be1 s.levelInForce ++ be4 s.ceiling
    ++ [0, 1, 2, 3, 4, 5, 6, 7].flatMap (fun l => be4 (s.shared (SharedItem.ceiling l)))
    ++ be1 (classCode (s.classOf .A)) ++ be1 (classCode (s.classOf .B)) ++ be1 (s.shared SharedItem.basis)
    ++ be2 (s.shared SharedItem.guard) ++ be4 s.committed ++ be4 (ratedSum s.sa.grants)
    ++ be1 s.sa.grants.length ++ s.sa.grants.flatMap grantBytes
    ++ be1 s.sa.requests.length ++ s.sa.requests.flatMap requestBytes
    ++ optionalItem be2 (s.shedRemaining .A) ++ optionalItem be2 (s.shedRemaining .B)
    ++ be4 s.sa.updateCount ++ be1 (conditionCode s.sm.condition) ++ flagByte s.sm.senseFault

/-! ## READ_METER (R155) -/

/-- Ic, e and P of a pocket's latest supply update, each absent before the first. -/
def readingBytes (m : PocketMeter) : List Byte :=
  optionalItem be2 (m.reading.map (·.current)) ++ optionalItem be1 (m.reading.map (·.energized))
    ++ optionalItem be4 (m.reading.map (·.power))

/-- A pocket's energy residual and counters. -/
def energyBytes (m : PocketMeter) : List Byte := be2 m.residual ++ be4 m.cycleEnergy ++ be4 m.totalEnergy

/-- The READ_METER payload. The phase factor, thresholds and hysteresis are those of the working profile, from the write on
(notes/assumptions/40.md). -/
def State.meterReport (s : State) : List Byte :=
  be2 (s.sm.sample.getD 0) ++ optionalItem be2 s.sm.held ++ optionalItem be2 s.sm.updateVoltage ++ flagByte s.sm.senseFault
    ++ be1 (conditionCode s.sm.condition) ++ be1 s.sm.lowRun ++ be1 s.sm.highRun ++ be1 s.sm.bandRun
    ++ readingBytes s.a.meter ++ readingBytes s.b.meter ++ energyBytes s.a.meter ++ energyBytes s.b.meter
    ++ be2 (s.shared SharedItem.phaseFactor) ++ be2 (s.shared SharedItem.lowThreshold)
    ++ be2 (s.shared SharedItem.highThreshold) ++ be1 (s.shared SharedItem.voltageHysteresis)

/-! ## READ_PROFILE (R195) -/

/-- The pockets whose state a WRITE_PROFILE of an item depends on: its own pocket, or both for a shared item (R193). -/
def itemPockets (n : Nat) : List Pocket := if n / 256 = 1 then [.A] else if n / 256 = 2 then [.B] else [.A, .B]

/-- The number names a ceiling table entry or a priority class, which WRITE_PROFILE may not write (R194). -/
def notByWriteProfile (n : Nat) : Bool :=
  (SharedItem.ceiling 0 ≤ n && n ≤ SharedItem.ceiling 7) || n == itemNumber .A PocketItem.priorityClass
    || n == itemNumber .B PocketItem.priorityClass

/-- The pocket state condition of R193 holds for a write of the item. -/
def State.statesAllowWrite (s : State) (n : Nat) : Bool := (itemPockets n).all (fun p => (s.pocket p).ce.writable)

/-- Whether a WRITE_PROFILE of the item would be accepted at this moment (R195). -/
def State.writability (s : State) (n : Nat) : Nat :=
  if notByWriteProfile n then 3 else if s.ps.saving then 2 else if s.statesAllowWrite n then 0 else 1

/-- The READ_PROFILE payload for an item. -/
def State.profileReport (s : State) (r : ItemRow) : List Byte :=
  be2 r.number ++ be4 (s.shared r.number) ++ be4 r.default ++ be4 r.least ++ be4 r.greatest ++ be1 (s.writability r.number)
    ++ flagByte s.ps.unsaved ++ flagByte s.ps.saving ++ be1 (saveResultCode s.ps.lastSave) ++ flagByte s.ps.storeInvalid

end Sys2Proof.Machine
end

