-- ==== Sys2Proof/Machine/Actions.lean ====
section
/-! DEFINITION. What the owning blocks do with the requests that reach them (check 6 of R178): one action per request code of
R179, each answering a status, the payload of an OK reply, and the state. -/

namespace Sys2Proof.Machine

/-- What a request comes to: the reply's status and payload, and the state after it. -/
structure Reaction where
  state : State
  status : Status
  payload : List Byte
  deriving DecidableEq, Repr

/-- The request is refused: nothing changes and the reply has no payload (R178). -/
def State.refuse (s : State) (status : Status) : Reaction := { state := s, status := status, payload := [] }

/-- The request is carried out. -/
def State.ok (s : State) (payload : List Byte) : Reaction := { state := s, status := .ok, payload := payload }

/-- A byte of a payload whose length has been checked. -/
def byteAt (payload : List Byte) (i : Nat) : Nat := (payload.getD i 0#8).toNat

/-! ## The cycle engine's requests (R4) -/

/-- An accepted START (R5) with the program as clamped: the cycle engine's items, and what it has the other blocks reset (R43,
R44, R62, R78, R85, R92, R97, R98, R154), then PROVING. -/
def State.acceptStart (p : Pocket) (program : List PhaseEntry) (s : State) : State :=
  s.onCe p (fun c =>
      { c with program := program, index := some 1, phaseTicks := 0, runSince := none, earlierSeconds := 0, begun := false,
               phasesCompleted := 0, hotExit := false, lastDryEnd := none, lastPhaseEnd := none, endReason := none,
               result := none })
    |>.onMe p (fun m =>
      { m with s16 := none, index := none, lastW := none, lastM := none, lastA := none, hold := 0, taperCap := none,
               dryNotice := none })
    |>.onTm p (fun t =>
      { t with score := 0, flag := false, reference := none, lastDeviation := none, lastContactLength := none, relief := false,
               reversalNotice := false })
    |>.onRcu p (fun r => { r with slipRun := 0 })
    |>.onDmc p (fun d => { d with restartCount := 0, lastRetry := none, reversalCount := 0 })
    |>.onMeter p (fun m => { m with cycleEnergy := 0 })
    |>.enterProving p

/-- The OK payload of START: the count, then each entry's temperature and stage cap as stored (R2, R179). -/
def startReply (program : List PhaseEntry) : List Byte :=
  be1 program.length ++ program.flatMap (fun e => be1 e.temperature ++ be1 e.stageCap)

/-- START (R2, R4, R5): the state, the door, the ranges. -/
def State.actStart (p : Pocket) (payload : List Byte) (s : State) : Reaction :=
  if (s.pocket p).ce.state != .idle then s.refuse .busy
  else if !(s.pocket p).lines.doorClosed then s.refuse .interlock
  else
    match decodeProgram payload with
    | none => s.refuse .range
    | some es =>
      let program := es.map (clampEntry (s.item p PocketItem.maximumExhaust) (s.stageCount p))
      (s.acceptStart p program).ok (startReply program)

/-- The cycle states in which STOP and HALT are accepted (R4). -/
def CycleState.stoppable : CycleState → Bool
  | .proving | .running | .paused => true
  | _ => false

/-- PAUSE (R14). -/
def State.actPause (p : Pocket) (s : State) : Reaction :=
  match (s.pocket p).ce.state with
  | .proving | .running => (s.enterPaused p .pause).ok []
  | _ => s.refuse .busy

/-- RESUME (R16). -/
def State.actResume (p : Pocket) (s : State) : Reaction :=
  if (s.pocket p).ce.state != .paused then s.refuse .busy
  else if !(s.pocket p).lines.doorClosed then s.refuse .interlock
  else (s.enterProving p).ok []

/-- STOP (R17): mode 0 is COOL, 1 is NOW (section 10.7). -/
def State.actStop (p : Pocket) (mode : Nat) (s : State) : Reaction :=
  if !(s.pocket p).ce.state.stoppable then s.refuse .busy
  else if 2 ≤ mode then s.refuse .range
  else if mode = 0 && (s.pocket p).ce.state == .running then (s.stopCool p).ok []
  else (s.enterWindDown p .windingDown .stopped).ok []

/-- The minutes field of an entry is raised, to at most 240 (R19). -/
def PhaseEntry.raised (minutes : Nat) (e : PhaseEntry) : PhaseEntry := { e with minutes := min 240 (e.minutes + minutes) }

/-- A program with its current entry raised; the others stay as they are (R19). -/
def raiseEntry (i minutes : Nat) (program : List PhaseEntry) : List PhaseEntry :=
  program.modify (i - 1) (·.raised minutes)

/-- The minutes field of the current entry, 0 without one. -/
def State.entryMinutes (s : State) (p : Pocket) : Nat :=
  match s.entry p with
  | some e => e.minutes
  | none => 0

/-- ADD_TIME (R19): the reply carries the minutes actually added. -/
def State.actAddTime (p : Pocket) (minutes : Nat) (s : State) : Reaction :=
  if (s.pocket p).ce.state != .running && (s.pocket p).ce.state != .paused then s.refuse .busy
  else if minutes = 0 || 240 < minutes then s.refuse .range
  else
    let s1 := s.onCe p (fun c => { c with program := raiseEntry (c.index.getD 1) minutes c.program })
    s1.ok (be1 (s1.entryMinutes p - s.entryMinutes p))

/-- HALT (R18). -/
def State.actHalt (p : Pocket) (s : State) : Reaction :=
  if !(s.pocket p).ce.state.stoppable then s.refuse .busy
  else (s.enterWindDown p .windingDown .halted).ok []

/-! ## Shed holds (R141, R142) -/

/-- A SHED of a pocket for a number of seconds (R141). -/
def State.shed (p : Pocket) (secs : Nat) (s : State) : State :=
  ((s.removeAll p).setShed p (some (s.now + seconds secs))
    |>.postIf (0 < s.granted p || (s.requestOf p).isSome) (.heatCurtailed p)).evaluate

/-- SHED (R141): the reply carries the hold time set. -/
def State.actShed (p : Pocket) (minutes : Nat) (s : State) : Reaction :=
  if minutes = 0 || 240 < minutes then s.refuse .range
  else (s.shed p (minutes * 60)).ok (be2 (minutes * 60))

/-- A shed hold ends (R142). -/
def State.endHold (p : Pocket) (s : State) : State := (s.setShed p none).evaluate

/-- RESTORE (R142): the reply carries the time that remained. -/
def State.actRestore (p : Pocket) (s : State) : Reaction :=
  match (s.pocket p).shedDue with
  | some t => (s.endHold p).ok (be2 (s.secondsUntil t))
  | none => s.ok (be2 0)

/-! ## Samples and faults (R186, R168) -/

/-- The payload of FETCH_SAMPLES for a buffer (R186). -/
def samplesReply (n : BufferName) (b : SampleBuffers) : List Byte :=
  be1 (bufferCode n) ++ flagByte b.overrun ++ be1 (b.buffer n).records.length ++ (b.buffer n).records.flatMap encodeRecord

/-- FETCH_SAMPLES (R186). -/
def State.actFetchSamples (p : Pocket) (s : State) : Reaction :=
  match (s.pocket p).sb.older with
  | some n => (s.onSb p (·.fetched n)).ok (samplesReply n (s.pocket p).sb)
  | none => s.refuse .empty

/-- CLEAR_FAULT (R23, R168): removed, remaining, TRIP records remaining, and the list-full flag as it stood. -/
def State.actClearFault (p : Pocket) (s : State) : Reaction :=
  if (s.pocket p).ce.faultWindDown then s.refuse .busy
  else
    let before := (s.pocket p).fl
    let s1 := s.clearFaults p
    let after := (s1.pocket p).fl
    s1.ok (be1 (before.records.length - after.records.length) ++ be1 after.records.length ++ be1 after.trips ++ flagByte before.full)

/-! ## Reads (R143, R155, R170, R191, R195) -/

/-- READ_PROFILE (R195). -/
def State.actReadProfile (number : Nat) (s : State) : Reaction :=
  match itemRow? number with
  | some r => s.ok (s.profileReport r)
  | none => s.refuse .range

/-! ## Events (R182, R183) -/

/-- READ_EVENTS (R182): the latch as it stands, and the latch emptied. -/
def State.actReadEvents (q : Port) (s : State) : Reaction :=
  (s.setPort q { s.port q with latch := 0#24 }).ok (be3 (s.port q).latch.toNat)

/-- SET_EVENT_MASK (R183): kinds the new mask does not admit leave the latch. -/
def State.actSetEventMask (q : Port) (set : Nat) (s : State) : Reaction :=
  if 262144 ≤ set then s.refuse .range
  else
    let mask := BitVec.ofNat 24 set
    let latch := (s.port q).latch &&& admitted mask
    (s.setPort q { s.port q with mask := mask, latch := latch }).ok (be3 mask.toNat ++ be3 latch.toNat)

/-! ## Supply level, ceilings and classes (R122, R123, R124) -/

/-- The level source becomes `forced`: LEVEL_CHANGE where the level in force changes, and an evaluation (R122). -/
def State.setSource (forced : Option Nat) (s : State) : State :=
  let s1 := { s with sa := { s.sa with forced := forced } }
  (s1.postIf (s1.levelInForce != s.levelInForce) .levelChange).evaluate

/-- SET_LEVEL (R122): 0..7 forces a level, 0xFF is FOLLOW_LINES. -/
def State.actSetLevel (level : Nat) (s : State) : Reaction :=
  if level = 255 then
    let s1 := s.setSource none
    s1.ok (be1 s1.levelSource ++ be1 (s1.levelInForce.getD 255))
  else if 7 < level then s.refuse .range
  else
    let s1 := s.setSource (some level)
    s1.ok (be1 s1.levelSource ++ be1 (s1.levelInForce.getD 255))

/-- An accepted write: the item's value in the working profile, and the unsaved flag (R194). -/
def State.writeItem (number value : Nat) (s : State) : State :=
  { s with ps := { s.ps with profile := s.ps.profile.write number value, unsaved := true } }

/-- WRITE_CEILING (R123): BUSY while SAVING before the ranges; a value above 300,000 W is stored as 300,000 W. -/
def State.actWriteCeiling (level watts : Nat) (s : State) : Reaction :=
  if s.ps.saving then s.refuse .busy
  else if 7 < level || watts % 10 ≠ 0 then s.refuse .range
  else
    let s1 := s.writeItem (SharedItem.ceiling level) (min watts 300000)
    (if s.levelInForce == some level then s1.evaluate else s1).ok (be4 (min watts 300000))

/-- SET_CLASS (R124): BUSY while SAVING, whatever the class field. -/
def State.actSetClass (p : Pocket) (cls : Nat) (s : State) : Reaction :=
  if s.ps.saving then s.refuse .busy
  else if 2 < cls then s.refuse .range
  else (s.writeItem (itemNumber p PocketItem.priorityClass) cls).evaluate.ok (be1 cls)

/-! ## The profile (R194, R197) -/

/-- WRITE_PROFILE, its checks in the order of R194. -/
def State.actWriteProfile (number value : Nat) (s : State) : Reaction :=
  match itemRow? number with
  | none => s.refuse .range
  | some r =>
    if notByWriteProfile number then s.refuse .denied
    else if s.ps.saving then s.refuse .busy
    else if !s.statesAllowWrite number then s.refuse .busy
    else if !r.admits value then s.refuse .range
    else if !(s.ps.profile.write number value).jointlyValid then s.refuse .range
    else (s.writeItem number value).ok (be2 number ++ be4 value)

/-- SAVE_PROFILE (R197): SAVING begins, and the stored check is made invalid (R196; notes/assumptions/14.md). -/
def State.actSaveProfile (s : State) : Reaction :=
  if s.ps.saving then s.refuse .busy
  else State.ok { s with ps := { s.ps with saving := true, check := ~~~ checkOf s.ps.image.bytes } } []

end Sys2Proof.Machine
end

