-- ==== Sys2Proof/Machine/Links.lean ====
section
/-! DEFINITION. The link ports: the table of requests (R179), the checks of R178, the taking of a request (R177), the receiver
(R176) and the frame of a reply (R175). -/

namespace Sys2Proof.Machine

/-! ## The requests (R179) -/

/-- The requests the controller knows. -/
inductive Request where
  | start | pause | resume | stop | addTime | halt | shed | restore | fetchSamples | clearFault
  | readPocket | readFaults | readSupply | readMeter | readProfile | readEvents | setEventMask
  | setLevel | writeCeiling | setClass | writeProfile | saveProfile
  deriving DecidableEq, Repr

/-- The codes of R179. -/
def Request.code : Request → Byte
  | .start => 0x10#8 | .pause => 0x11#8 | .resume => 0x12#8 | .stop => 0x13#8 | .addTime => 0x14#8
  | .halt => 0x20#8 | .shed => 0x21#8 | .restore => 0x22#8 | .fetchSamples => 0x30#8 | .clearFault => 0x31#8
  | .readPocket => 0x40#8 | .readFaults => 0x41#8 | .readSupply => 0x42#8 | .readMeter => 0x43#8 | .readProfile => 0x44#8
  | .readEvents => 0x50#8 | .setEventMask => 0x51#8 | .setLevel => 0x60#8 | .writeCeiling => 0x61#8 | .setClass => 0x62#8
  | .writeProfile => 0x63#8 | .saveProfile => 0x64#8

/-- All requests, in the order of R179. -/
def allRequests : List Request :=
  [.start, .pause, .resume, .stop, .addTime, .halt, .shed, .restore, .fetchSamples, .clearFault, .readPocket, .readFaults,
   .readSupply, .readMeter, .readProfile, .readEvents, .setEventMask, .setLevel, .writeCeiling, .setClass, .writeProfile,
   .saveProfile]

/-- The request a code names, if any. -/
def requestOfCode (code : Byte) : Option Request := allRequests.find? (fun r => r.code == code)

/-- The payload has the length R179 gives for the code; for START 9..65 bytes and 1 + 8 × its count byte (R178, check 2). -/
def Request.lengthFits (payload : List Byte) : Request → Bool
  | .start => 9 ≤ payload.length && payload.length ≤ 65 && payload.length == 1 + 8 * byteAt payload 0
  | .pause | .resume | .readSupply | .readMeter | .readEvents | .saveProfile => payload.length == 0
  | .stop | .addTime | .halt | .restore | .fetchSamples | .clearFault | .readPocket | .readFaults | .setLevel =>
    payload.length == 1
  | .shed | .readProfile | .setClass => payload.length == 2
  | .setEventMask => payload.length == 3
  | .writeCeiling => payload.length == 5
  | .writeProfile => payload.length == 6

/-- The port may send the code at all (R178, check 3; the Ports column of R179). -/
def Request.portMay (q : Port) : Request → Bool
  | .start | .pause | .resume | .stop | .addTime => q != .S
  | .halt | .shed | .restore | .setLevel | .writeCeiling | .setClass | .writeProfile | .saveProfile => q == .S
  | .fetchSamples | .clearFault | .readPocket | .readFaults | .readSupply | .readMeter | .readProfile | .readEvents
  | .setEventMask => true

/-- The request's first payload byte names a pocket (R179). -/
def Request.namesPocket : Request → Bool
  | .halt | .shed | .restore | .fetchSamples | .clearFault | .readPocket | .readFaults | .setClass => true
  | _ => false

/-- From port A or B the request is limited to the own pocket (R179). -/
def Request.ownOnly : Request → Bool
  | .fetchSamples | .clearFault => true
  | _ => false

/-- The own pocket of port A and of port B. -/
def ownPocket : Port → Option Pocket
  | .A => some .A
  | .B => some .B
  | .S => none

/-- The pocket a request acts on: the one it names, or the own pocket. -/
def Request.subject (q : Port) (payload : List Byte) (r : Request) : Option Pocket :=
  if r.namesPocket then pocketOfByte (payload.getD 0 0#8) else ownPocket q

/-- Checks 2 to 5 of R178: the status of the first that fails. -/
def Request.linkRefusal (q : Port) (payload : List Byte) (r : Request) : Option Status :=
  if !r.lengthFits payload then some .length
  else if !r.portMay q then some .denied
  else if r.namesPocket && (r.subject q payload).isNone then some .range
  else if r.ownOnly && (ownPocket q).isSome && r.subject q payload != ownPocket q then some .denied
  else none

/-- The owning block's action on a request that has passed the checks of the link (R178, check 6). -/
def State.actOn (r : Request) (q : Port) (p : Pocket) (payload : List Byte) (s : State) : Reaction :=
  match r with
  | .start => s.actStart p payload
  | .pause => s.actPause p
  | .resume => s.actResume p
  | .stop => s.actStop p (byteAt payload 0)
  | .addTime => s.actAddTime p (byteAt payload 0)
  | .halt => s.actHalt p
  | .shed => s.actShed p (byteAt payload 1)
  | .restore => s.actRestore p
  | .fetchSamples => s.actFetchSamples p
  | .clearFault => s.actClearFault p
  | .readPocket => s.ok (s.pocketStatus p)
  | .readFaults => s.ok (s.faultsReport p)
  | .readSupply => s.ok s.supplyReport
  | .readMeter => s.ok s.meterReport
  | .readProfile => s.actReadProfile (beValue payload)
  | .readEvents => s.actReadEvents q
  | .setEventMask => s.actSetEventMask q (beValue payload)
  | .setLevel => s.actSetLevel (byteAt payload 0)
  | .writeCeiling => s.actWriteCeiling (byteAt payload 0) (beValue (payload.drop 1))
  | .setClass => s.actSetClass p (byteAt payload 1)
  | .writeProfile => s.actWriteProfile (beValue (payload.take 2)) (beValue (payload.drop 2))
  | .saveProfile => s.actSaveProfile

/-- What a request of a known code comes to (R178, checks 2 to 6). -/
def State.respond (r : Request) (q : Port) (payload : List Byte) (s : State) : Reaction :=
  match r.linkRefusal q payload with
  | some status => s.refuse status
  | none => s.actOn r q ((r.subject q payload).getD .A) payload

/-! ## Taking a request (R177) -/

/-- The port enters REPLYING: the receiver is off, and the reply carries the request's code with the top bit set and its tag. -/
def State.enterReplying (q : Port) (code tag : Byte) (r : Reaction) : State :=
  r.state.setPort q { r.state.port q with
    receiver := .off, reply := some { code := code ||| 0x80#8, tag := tag, status := r.status, payload := r.payload } }

/-- The port takes no request: its receiver is off while REPLYING, and the port is silent until the end of start-up (R177,
R184). -/
def State.deaf (s : State) (q : Port) : Bool := s.mode != .operating || (s.port q).receiver == .off

/-- A request of a known code is taken, unless the receiver is off, where its characters are lost (R177, R184). -/
def State.request (r : Request) (q : Port) (tag : Byte) (payload : List Byte) (s : State) : State :=
  if s.deaf q then s else State.enterReplying q r.code tag (s.respond r q payload)

/-- A request whose code is not known is taken: UNKNOWN, and nothing else (R178, check 1). -/
def State.unknownRequest (q : Port) (code tag : Byte) (s : State) : State :=
  if s.deaf q then s else State.enterReplying q code tag (s.refuse .unknown)

/-- The receiver's state replaced. -/
def State.setReceiver (q : Port) (r : Receiver) (s : State) : State := s.setPort q { s.port q with receiver := r }

/-- The body of a frame whose check has matched is taken as a request. A body holds a code and a tag at least (R175). -/
def State.takeBody (q : Port) (body : List Byte) (s : State) : State :=
  match body with
  | code :: tag :: payload =>
    match requestOfCode code with
    | some r => s.request r q tag payload
    | none => s.unknownRequest q code tag
  | _ => s.setReceiver q .hunt

/-! ## The receiver (R176) -/

/-- One byte arrives at a port (R176, R177). -/
def State.receiveByte (q : Port) (b : Byte) (s : State) : State :=
  match (s.port q).receiver with
  | .off => s
  | .hunt => if b = 0x7E#8 then s.setReceiver q .length else s
  | .length =>
    if 2 ≤ b.toNat && b.toNat ≤ 242 then s.setReceiver q (.body b.toNat [] (checkByte checkStart b)) else s.setReceiver q .hunt
  | .body wanted got check =>
    if wanted ≤ 1 then s.setReceiver q (.check (got ++ [b]) (checkByte check b) none)
    else s.setReceiver q (.body (wanted - 1) (got ++ [b]) (checkByte check b))
  | .check got check none => s.setReceiver q (.check got check (some b))
  | .check got check (some high) => if high ++ b = check then s.takeBody q got else s.setReceiver q .hunt

/-- Bytes arrive at a port, one after another; the gap of R176 is measured from the last of them. -/
def State.receive (q : Port) (bs : List Byte) (s : State) : State :=
  let s1 := bs.foldl (fun t b => t.receiveByte q b) s
  if bs.isEmpty then s1 else s1.setPort q { s1.port q with lastCharacter := s1.now }

/-- A frame is being assembled: LENGTH, BODY or CHECK. -/
def Receiver.assembling : Receiver → Bool
  | .off | .hunt => false
  | .length | .body _ _ _ | .check _ _ _ => true

/-- The frame being assembled is discarded: HUNT. In HUNT, or while the receiver is off, nothing changes (R176). -/
def State.discardFrame (q : Port) (s : State) : State :=
  if (s.port q).receiver.assembling then s.setReceiver q .hunt else s

/-! ## The frame of a request (R175, section 10.7) -/

/-- The bytes of a request's frame from the length to the end of the payload, over which the check is worked. -/
def requestChecked (code tag : Byte) (payload : List Byte) : List Byte := be1 (2 + payload.length) ++ [code, tag] ++ payload

/-- The whole frame of a request. -/
def requestFrame (code tag : Byte) (payload : List Byte) : List Byte :=
  [0x7E#8] ++ requestChecked code tag payload ++ be2 (checkOf (requestChecked code tag payload)).toNat

/-- The command of a request. -/
def Request.command (q : Port) (tag : Byte) (payload : List Byte) : Request → Instr
  | .start => .start q tag payload
  | .pause => .pause q tag payload
  | .resume => .resume q tag payload
  | .stop => .stop q tag payload
  | .addTime => .addTime q tag payload
  | .halt => .halt q tag payload
  | .shed => .shed q tag payload
  | .restore => .restore q tag payload
  | .fetchSamples => .fetchSamples q tag payload
  | .clearFault => .clearFault q tag payload
  | .readPocket => .readPocket q tag payload
  | .readFaults => .readFaults q tag payload
  | .readSupply => .readSupply q tag payload
  | .readMeter => .readMeter q tag payload
  | .readProfile => .readProfile q tag payload
  | .readEvents => .readEvents q tag payload
  | .setEventMask => .setEventMask q tag payload
  | .setLevel => .setLevel q tag payload
  | .writeCeiling => .writeCeiling q tag payload
  | .setClass => .setClass q tag payload
  | .writeProfile => .writeProfile q tag payload
  | .saveProfile => .saveProfile q tag payload

/-! ## The frame of a reply (R175, section 10.7) -/

/-- The bytes of a reply's frame from the length to the end of the payload, over which the check is worked. -/
def Reply.checked (r : Reply) : List Byte :=
  be1 (3 + r.payload.length) ++ [r.code, r.tag] ++ be1 (statusCode r.status) ++ r.payload

/-- The whole frame of a reply. -/
def Reply.frame (r : Reply) : List Byte := [0x7E#8] ++ r.checked ++ be2 (checkOf r.checked).toNat

end Sys2Proof.Machine
end

