-- ==== Sys2Proof/Machine/Requests.lean ====
section
/-! DEFINITION. The meanings of the 22 requests of R179 and of a request of an unknown code: each is taken at its port (R177),
passes the checks of R178 and reaches the action of its owning block (Actions.lean). -/

namespace Sys2Proof.Machine

/-- What a command answers: the next state, always, since the spec stops the part at no command. -/
abbrev Result := Host.Outcome State Fault Refusal

/-- START (R4, R5: the state, the door and the ranges are checked, then the clamped program is stored and the pocket enters PROVING). -/
def execStart (q : Port) (tag : Byte) (payload : List Byte) (s : State) : Result :=
  .next (s.request .start q tag payload)

/-- PAUSE (R14). -/
def execPause (q : Port) (tag : Byte) (payload : List Byte) (s : State) : Result :=
  .next (s.request .pause q tag payload)

/-- RESUME (R16). -/
def execResume (q : Port) (tag : Byte) (payload : List Byte) (s : State) : Result :=
  .next (s.request .resume q tag payload)

/-- STOP (R17). -/
def execStop (q : Port) (tag : Byte) (payload : List Byte) (s : State) : Result :=
  .next (s.request .stop q tag payload)

/-- ADD_TIME (R19). -/
def execAddTime (q : Port) (tag : Byte) (payload : List Byte) (s : State) : Result :=
  .next (s.request .addTime q tag payload)

/-- HALT (R18). -/
def execHalt (q : Port) (tag : Byte) (payload : List Byte) (s : State) : Result :=
  .next (s.request .halt q tag payload)

/-- SHED (R141). -/
def execShed (q : Port) (tag : Byte) (payload : List Byte) (s : State) : Result :=
  .next (s.request .shed q tag payload)

/-- RESTORE (R142). -/
def execRestore (q : Port) (tag : Byte) (payload : List Byte) (s : State) : Result :=
  .next (s.request .restore q tag payload)

/-- FETCH_SAMPLES (R186). -/
def execFetchSamples (q : Port) (tag : Byte) (payload : List Byte) (s : State) : Result :=
  .next (s.request .fetchSamples q tag payload)

/-- CLEAR_FAULT (R168, R23). -/
def execClearFault (q : Port) (tag : Byte) (payload : List Byte) (s : State) : Result :=
  .next (s.request .clearFault q tag payload)

/-- READ_POCKET (R191). -/
def execReadPocket (q : Port) (tag : Byte) (payload : List Byte) (s : State) : Result :=
  .next (s.request .readPocket q tag payload)

/-- READ_FAULTS (R170). -/
def execReadFaults (q : Port) (tag : Byte) (payload : List Byte) (s : State) : Result :=
  .next (s.request .readFaults q tag payload)

/-- READ_SUPPLY (R143). -/
def execReadSupply (q : Port) (tag : Byte) (payload : List Byte) (s : State) : Result :=
  .next (s.request .readSupply q tag payload)

/-- READ_METER (R155). -/
def execReadMeter (q : Port) (tag : Byte) (payload : List Byte) (s : State) : Result :=
  .next (s.request .readMeter q tag payload)

/-- READ_PROFILE (R195). -/
def execReadProfile (q : Port) (tag : Byte) (payload : List Byte) (s : State) : Result :=
  .next (s.request .readProfile q tag payload)

/-- READ_EVENTS (R182). -/
def execReadEvents (q : Port) (tag : Byte) (payload : List Byte) (s : State) : Result :=
  .next (s.request .readEvents q tag payload)

/-- SET_EVENT_MASK (R183). -/
def execSetEventMask (q : Port) (tag : Byte) (payload : List Byte) (s : State) : Result :=
  .next (s.request .setEventMask q tag payload)

/-- SET_LEVEL (R122). -/
def execSetLevel (q : Port) (tag : Byte) (payload : List Byte) (s : State) : Result :=
  .next (s.request .setLevel q tag payload)

/-- WRITE_CEILING (R123). -/
def execWriteCeiling (q : Port) (tag : Byte) (payload : List Byte) (s : State) : Result :=
  .next (s.request .writeCeiling q tag payload)

/-- SET_CLASS (R124). -/
def execSetClass (q : Port) (tag : Byte) (payload : List Byte) (s : State) : Result :=
  .next (s.request .setClass q tag payload)

/-- WRITE_PROFILE (R194). -/
def execWriteProfile (q : Port) (tag : Byte) (payload : List Byte) (s : State) : Result :=
  .next (s.request .writeProfile q tag payload)

/-- SAVE_PROFILE (R197). -/
def execSaveProfile (q : Port) (tag : Byte) (payload : List Byte) (s : State) : Result :=
  .next (s.request .saveProfile q tag payload)

/-- UNKNOWN_CODE (R178): a taken request whose code is not known is answered UNKNOWN and changes nothing else. -/
def execUnknownCode (q : Port) (code tag : Byte) (_payload : List Byte) (s : State) : Result :=
  .next (s.unknownRequest q code tag)

end Sys2Proof.Machine
end

