-- ==== Sys2Proof/Machine/DrumTimers.lean ====
section
/-! DEFINITION. The timers of the drum motion controller (R30 to R37, R93). A timer's command takes the clock to its expiry
(notes/assumptions/2.md) and does nothing where the timer does not run (notes/assumptions/4.md). -/

namespace Sys2Proof.Machine

/-- A timer that runs only in one motion state. -/
def DrumMotion.timerIn (d : DrumMotion) (m : MotionState) (t : Option Ticks) : Option Ticks := if d.state == m then t else none

/-- The end of the DCLR pulse with DRVF as it is found (R30, R41): in ACCEL a DRVF still asserted is a drive fault, and otherwise
the run output is asserted unless the lockout holds it. -/
def State.endPulse (p : Pocket) (drvf : Bool) (s : State) : State :=
  let s1 := (s.onLines p (fun l => { l with drvf := drvf })).onDmc p (fun d => { d with pulseDue := none })
  if (s.pocket p).dmc.state == .accel then (if drvf then s1.failSegment p .drive else s1.readyOutput p) else s1

/-- DCLR_PULSE_END (R30). -/
def execDclrPulseEnd (p : Pocket) (drvf : Bool) (s : State) : Result :=
  .next (s.whenOperating (fun s =>
    match (s.pocket p).dmc.pulseDue with
    | some t => (s.reach t).endPulse p drvf
    | none => s))

/-- LOCKOUT_END (R31): the waiting run output is asserted. -/
def execLockoutEnd (p : Pocket) (s : State) : Result :=
  .next (s.whenOperating (fun s =>
    match (s.pocket p).dmc.timerIn .accel (s.pocket p).dmc.lockoutDue with
    | some t => (s.reach t).assertOutput p
    | none => s))

/-- ACCEL_TIMEOUT (R32): a stall in ACCEL. -/
def execAccelTimeout (p : Pocket) (s : State) : Result :=
  .next (s.whenOperating (fun s =>
    match (s.pocket p).dmc.timerIn .accel (s.pocket p).dmc.accelDue with
    | some t => (s.reach t).failSegment p .stall
    | none => s))

/-- A FORWARD-only run is renewed: the pattern in force has a reverse run of 0 too, and the latched speed (R33). -/
def State.renews (s : State) (p : Pocket) : Bool :=
  (s.pocket p).dmc.latched.reverseRun = 0 && (s.patternToLatch p).reverseRun = 0
    && (s.patternToLatch p).speed == (s.pocket p).dmc.latched.speed

/-- A renewal (R33): the pattern in force is latched and the segment timer restarts at 0. -/
def State.renewRun (p : Pocket) (s : State) : State :=
  s.onDmc p (fun d =>
    { d with latched := s.patternToLatch p, segmentSince := some s.now,
             minimumRunDue := some (s.now + seconds (s.item p PocketItem.minimumRun)) })

/-- A segment completed at its full run time (R33): the tangle-reversal count returns to 0 (R44) and relief ends (R97); the run
is renewed, or ends in COAST with purpose ALTERNATE. -/
def State.fullRun (p : Pocket) (s : State) : State :=
  let s1 := (s.onDmc p (fun d => { d with reversalCount := 0 })).onTm p (fun t => { t with relief := false })
  (if s.renews p then s1.renewRun p else s1.toCoast p .alternate).applyCap p

/-- When the segment timer reaches the latched run time, in RUN (R33). -/
def DrumMotion.fullRunDue (d : DrumMotion) : Option Ticks :=
  (d.timerIn .run d.segmentSince).map (fun t => t + seconds d.runTime)

/-- FULL_RUN (R33). -/
def execFullRun (p : Pocket) (s : State) : Result :=
  .next (s.whenOperating (fun s =>
    match (s.pocket p).dmc.fullRunDue with
    | some t => (s.reach t).fullRun p
    | none => s))

/-- STALL_TIMEOUT (R34): a stall in RUN. -/
def execStallTimeout (p : Pocket) (s : State) : Result :=
  .next (s.whenOperating (fun s =>
    match (s.pocket p).dmc.timerIn .run (s.pocket p).dmc.stallDue with
    | some t => (s.reach t).failSegment p .stall
    | none => s))

/-- The earlier of two times. -/
def earlier : Option Ticks → Option Ticks → Option Ticks
  | some t, some u => some (min t u)
  | some t, none => some t
  | none, u => u

/-- When COAST ends: the earlier of the quiet time and the coast time (R35). -/
def DrumMotion.coastEnd (d : DrumMotion) : Option Ticks := d.timerIn .coast (earlier d.quietDue d.coastDue)

/-- The end of the coast (R36): STOPPED, which may end a wind-down (R21), or DWELL. -/
def State.endCoast (p : Pocket) (s : State) : State :=
  if (s.pocket p).dmc.purpose == some .stop then (s.enterStopped p).finishWindDown p else s.enterDwell p

/-- COAST_END (R36). -/
def execCoastEnd (p : Pocket) (s : State) : Result :=
  .next (s.whenOperating (fun s =>
    match (s.pocket p).dmc.coastEnd with
    | some t => (s.reach t).endCoast p
    | none => s))

/-- The end of the dwell (R37): ACCEL in the direction of R30, with DOOR closed. With DOOR open no ACCEL is entered (R39). -/
def State.endDwell (p : Pocket) (s : State) : State :=
  if (s.pocket p).lines.doorClosed then s.enterAccel p (s.directionAfterDwell p)
  else s.onDmc p (fun d => { d with dwellDue := none })

/-- DWELL_END (R37). -/
def execDwellEnd (p : Pocket) (s : State) : Result :=
  .next (s.whenOperating (fun s =>
    match (s.pocket p).dmc.timerIn .dwell (s.pocket p).dmc.dwellDue with
    | some t => (s.reach t).endDwell p
    | none => s))

/-- MINIMUM_RUN_REACHED (R93): a flag already set requests an early reversal. -/
def execMinimumRunReached (p : Pocket) (s : State) : Result :=
  .next (s.whenOperating (fun s =>
    match (s.pocket p).dmc.timerIn .run (s.pocket p).dmc.minimumRunDue with
    | some t => ((s.reach t).onDmc p (fun d => { d with minimumRunDue := none })).considerReversal p
    | none => s))

end Sys2Proof.Machine
end

