-- ==== Sys2Proof/Machine/Lines.lean ====
section
/-! DEFINITION. The switches of a pocket (DOOR, AIRF, HLIM), the drive fault, and the airflow timers (R6, R7, R8, R39, R41,
R115). A line command at the level the line already has is no change, and has no effect (notes/assumptions/4.md). -/

namespace Sys2Proof.Machine

/-- DOOR opening at work: the drum is stopped (R39), a PROVING or RUNNING pocket enters PAUSED (R14), and the door interlock
takes E to 0 (R107). -/
def State.openDoor (p : Pocket) (s : State) : State :=
  let s1 := s.haltDrum p
  match (s1.pocket p).ce.state with
  | .proving | .running => s1.enterPaused p .door
  | _ => s1.dropE p

/-- DOOR_OPEN (R39). -/
def execDoorOpen (p : Pocket) (s : State) : Result :=
  .next (if (s.pocket p).lines.doorClosed then
    (s.onLines p (fun l => { l with doorClosed := false })).whenOperating (·.openDoor p)
  else s)

/-- DOOR closing at work: a pending start held in STOPPED is taken (R29), and the door interlock passes (R107, R108). -/
def State.closeDoor (p : Pocket) (s : State) : State :=
  (if (s.pocket p).dmc.state == .stopped && (s.pocket p).dmc.pendingStart then s.enterAccel p .forward else s).followE p

/-- DOOR_CLOSE (R29). -/
def execDoorClose (p : Pocket) (s : State) : Result :=
  .next (if (s.pocket p).lines.doorClosed then s
  else (s.onLines p (fun l => { l with doorClosed := true })).whenOperating (·.closeDoor p))

/-- AIRF closing at work: where the blower is demanded, the 1 s of continuous closure begins (R6). -/
def State.closeAirflow (p : Pocket) (s : State) : State :=
  if (s.pocket p).ce.blowerDemand then s.onCe p (fun c => { c with closureDue := some (s.now + seconds 1) }) else s

/-- AIRF_CLOSE (R6). -/
def execAirfClose (p : Pocket) (s : State) : Result :=
  .next (if (s.pocket p).lines.airfClosed then s
  else (s.onLines p (fun l => { l with airfClosed := true })).whenOperating (·.closeAirflow p))

/-- Proving, or running: where a loss of proof starts the loss timer (R8). -/
def CycleState.watchesAirflow : CycleState → Bool
  | .proving | .running => true
  | _ => false

/-- AIRF opening at work: airflow is unproven at once, the 10 s loss timer starts in PROVING and RUNNING if it had been proven,
and the airflow interlock takes E to 0 (R6, R8, R107). -/
def State.openAirflow (p : Pocket) (s : State) : State :=
  (s.onCe p (fun c =>
    { c with airflowProven := false, closureDue := none,
             lossDue := if c.airflowProven && c.state.watchesAirflow then some (s.now + seconds 10) else c.lossDue })).dropE p

/-- AIRF_OPEN (R8). -/
def execAirfOpen (p : Pocket) (s : State) : Result :=
  .next (if (s.pocket p).lines.airfClosed then
    (s.onLines p (fun l => { l with airfClosed := false })).whenOperating (·.openAirflow p)
  else s)

/-- Airflow becomes proven (R6): a running loss timer is cancelled (R8); the first proof in PROVING asks the drum motion
controller to start (R7); the airflow interlock passes. -/
def State.proveAirflow (p : Pocket) (s : State) : State :=
  let first := (s.pocket p).ce.state == .proving && (s.pocket p).ce.provingDue.isSome
  let s1 := s.onCe p (fun c => { c with airflowProven := true, closureDue := none, lossDue := none, provingDue := none })
  (if first then s1.startRequest p else s1).followE p

/-- AIRFLOW_PROVEN (R7): the 1 s of closure is complete. -/
def execAirflowProven (p : Pocket) (s : State) : Result :=
  .next (s.whenOperating (fun s =>
    match (s.pocket p).ce.closureDue with
    | some t => (s.reach t).proveAirflow p
    | none => s))

/-- PROVING_TIMEOUT (R6): no proof within 10 s of the PROVING entry. -/
def execProvingTimeout (p : Pocket) (s : State) : Result :=
  .next (s.whenOperating (fun s =>
    match (s.pocket p).ce.provingDue with
    | some t => ((s.reach t).onCe p (fun c => { c with provingDue := none })).report p .airflowFail none
    | none => s))

/-- AIRFLOW_LOSS_TIMEOUT (R8): a lost proof is not restored within 10 s. -/
def execAirflowLossTimeout (p : Pocket) (s : State) : Result :=
  .next (s.whenOperating (fun s =>
    match (s.pocket p).ce.lossDue with
    | some t => ((s.reach t).onCe p (fun c => { c with lossDue := none })).report p .airflowFail none
    | none => s))

/-- HLIM_OPEN (R115): E falls to 0 at once and HIGH_LIMIT is reported. -/
def execHlimOpen (p : Pocket) (s : State) : Result :=
  .next (if (s.pocket p).lines.hlimClosed then
    (s.onLines p (fun l => { l with hlimClosed := false })).whenOperating (fun t => (t.dropE p).report p .highLimit none)
  else s)

/-- HLIM_CLOSE (R115): the interlock passes again; a trip is not ended. -/
def execHlimClose (p : Pocket) (s : State) : Result :=
  .next (if (s.pocket p).lines.hlimClosed then s
  else (s.onLines p (fun l => { l with hlimClosed := true })).whenOperating (·.followE p))

/-- DRVF is examined: in ACCEL from the end of the DCLR pulse, and in RUN (R41). -/
def DrumMotion.examinesDrive (d : DrumMotion) : Bool :=
  match d.state with
  | .run => true
  | .accel => d.pulseDue.isNone
  | _ => false

/-- DRVF_ASSERT (R41): where it is examined, a drive fault is taken (R42). -/
def execDrvfAssert (p : Pocket) (s : State) : Result :=
  .next ((s.onLines p (fun l => { l with drvf := true })).whenOperating (fun t =>
    if (t.pocket p).dmc.examinesDrive then t.failSegment p .drive else t))

end Sys2Proof.Machine
end

