-- ==== Sys2Proof/Machine/LinkEvents.lean ====
section
/-! DEFINITION. What else a receiver and a transmitter meet (R174, R176, R177). The characters of a command are those received
since the port's last command. -/

namespace Sys2Proof.Machine

/-- FRAME_CHECK_FAIL (R176): the characters up to and with the check that fails; the receiver discards the frame by itself. -/
def execFrameCheckFail (q : Port) (chars : List Byte) (s : State) : Result := .next (s.whenOperating (·.receive q chars))

/-- CHARACTER_ERROR (R174, R176): after the characters, one that is not delivered; a frame being assembled is discarded. -/
def execCharacterError (q : Port) (chars : List Byte) (s : State) : Result := .next (s.whenOperating (fun s => (s.receive q chars).discardFrame q))

/-- FRAME_GAP_TIMEOUT (R176): after the characters, a gap of 3 ms, which ends a frame being assembled and has no effect in
HUNT. -/
def execFrameGapTimeout (q : Port) (chars : List Byte) (s : State) : Result :=
  .next (s.whenOperating (fun s =>
    let s1 := s.receive q chars
    if (s1.port q).receiver.assembling then (s1.reach ((s1.port q).lastCharacter + millis 3)).discardFrame q else s1))

/-- FRAME_LENGTH_INVALID (R176): the characters up to and with a length byte outside 2..242; the receiver discards it by
itself. -/
def execFrameLengthInvalid (q : Port) (chars : List Byte) (s : State) : Result := .next (s.whenOperating (·.receive q chars))

/-- REPLY_DONE (R177): the last character has been sent; the port leaves REPLYING and its receiver enters HUNT. -/
def execReplyDone (q : Port) (s : State) : Result :=
  .next (s.whenOperating (fun s =>
    if (s.port q).reply.isSome then s.setPort q { s.port q with receiver := .hunt, reply := none } else s))

end Sys2Proof.Machine
end

