-- ==== Sys2Proof/Machine/Measurement.lean ====
section
/-! DEFINITION. The measurement inputs of a pocket (IDX, TCH, WET): R32, R34, R35, R48 to R56. Each edge carries the ticks
passed since the command before it (notes/assumptions/3.md). -/

namespace Sys2Proof.Machine

/-- The stall timeout in ticks; the item is carried in units of 0.1 s (R192). -/
def State.stallTicks (s : State) (p : Pocket) : Ticks := s.item p PocketItem.stallTimeout * 1000

/-- Entry to RUN at an IDX edge in ACCEL after the run output asserted (R32): the segment timer from 0, the stall timeout from
the edge, the first window opened (R50); with settle revolutions 0 the restart attempt count is reset (R43); the cycle engine
and the motion interlock follow (R46). -/
def State.enterRun (p : Pocket) (s : State) : State :=
  let s1 := (s.onDmc p (fun d =>
      { d with state := .run, accelDue := none, segmentSince := some s.now,
               minimumRunDue := some (s.now + seconds (s.item p PocketItem.minimumRun)), lastEdge := some s.now,
               stallDue := some (s.now + s.stallTicks p) })).openWindow p
  let s2 := if s.item p PocketItem.settleRevolutions = 0 then s1.resetRestarts p else s1
  (s2.drumReachedRun p).followE p

/-- An IDX edge in RUN: the last period and the stall timeout (R34, R35), and the window close (R51). -/
def State.edgeInRun (p : Pocket) (s : State) : State :=
  (s.onDmc p (fun d =>
    { d with lastPeriod := (match d.lastEdge with
               | some t => some (s.now - t)
               | none => d.lastPeriod),
             lastEdge := some s.now, stallDue := some (s.now + s.stallTicks p) })).closeWindow p

/-- A rising IDX edge (R32, R35, R51). In ACCEL before the run output, in STOPPED and in DWELL it is ignored. -/
def State.indexEdge (p : Pocket) (s : State) : State :=
  match (s.pocket p).dmc.state with
  | .accel => if (s.pocket p).dmc.runOutput then s.enterRun p else s
  | .run => s.edgeInRun p
  | .coast => s.onDmc p (fun d => { d with quietDue := some (s.now + d.quietTime) })
  | .stopped | .dwell => s

/-- IDX_EDGE (R51). -/
def execIdxEdge (p : Pocket) (after : Ticks) (s : State) : Result :=
  .next ((s.elapse after).whenOperating (·.indexEdge p))

/-- The tach edge mode counts an edge (R49, R53): RISING (0) rising edges only, BOTH (1) every edge. -/
def State.countsTach (s : State) (p : Pocket) (rising : Bool) : Bool := rising || s.item p PocketItem.tachEdgeMode == 1

/-- A counted TCH edge raises the tach edge counter of the open window (R53, R56). -/
def RevolutionCounter.countTach (r : RevolutionCounter) : RevolutionCounter :=
  { r with window := r.window.map (fun w => { w with tachEdges := min (w.tachEdges + 1) counterLimit }) }

/-- TCH_EDGE (R53). -/
def execTchEdge (p : Pocket) (after : Ticks) (rising : Bool) (s : State) : Result :=
  .next ((s.elapse after).whenOperating (fun t => if t.countsTach p rising then t.onRcu p (·.countTach) else t))

/-- WET rising (R54): while a window is open the contact filter begins following a pulse. -/
def State.wetRises (p : Pocket) (s : State) : State :=
  if (s.pocket p).rcu.window.isSome then s.onRcu p (fun r => { r with pulse := some { since := s.now, accepted := false } })
  else s

/-- WET_RISE (R54). DESIGN CHOICE: the command is a change of the level at which WET is sampled (R48): the tick it comes in is the
first one sampled high (notes/assumptions/33.md). -/
def execWetRise (p : Pocket) (after : Ticks) (s : State) : Result :=
  .next (
    let s1 := s.elapse after
    if (s1.pocket p).lines.wet then s1
    else (s1.onLines p (fun l => { l with wet := true })).whenOperating (·.wetRises p))

/-- The pulse the filter follows ends (R54): the ticks of an accepted contact go to the open window's contact timer, a pulse not
yet qualified is rejected. -/
def RevolutionCounter.endPulse (now : Ticks) (r : RevolutionCounter) : RevolutionCounter :=
  { r with window := r.window.map (fun w => { w with contactTicks := contactTimeAt now w r.pulse }), pulse := none }

/-- WET falling (R54): a pulse of the minimum width has qualified by its end. -/
def State.wetFalls (p : Pocket) (s : State) : State :=
  (s.settlePulse p).onRcu p (·.endPulse s.now)

/-- WET_FALL (R54). DESIGN CHOICE: the command is a change of the level at which WET is sampled (R48): the tick it comes in is the
first one sampled low, and a WET_RISE in that same tick begins another pulse (notes/assumptions/33.md). -/
def execWetFall (p : Pocket) (after : Ticks) (s : State) : Result :=
  .next (
    let s1 := s.elapse after
    if (s1.pocket p).lines.wet then (s1.onLines p (fun l => { l with wet := false })).whenOperating (·.wetFalls p)
    else s1)

/-- CONTACT_QUALIFIED (R54): the pulse being followed has reached the minimum width. -/
def execContactQualified (p : Pocket) (s : State) : Result :=
  .next (s.whenOperating (fun s =>
    match (s.pocket p).rcu.pulse with
    | some u => if u.accepted then s else (s.reach (u.since + s.contactWidth p)).onRcu p (·.qualify)
    | none => s))

end Sys2Proof.Machine
end

