-- ==== Sys2Proof/Machine/Messages.lean ====
section
/-! DEFINITION. The messages between blocks: the dry condition (R79), the early reversal request (R45, R95) and the fault report
(R164). -/

namespace Sys2Proof.Machine

/-- The pocket is RUNNING in the HEAT_DRY phase of a given index (R79). -/
def State.inDryPhase (s : State) (p : Pocket) (phase : Nat) : Bool :=
  (s.pocket p).ce.state == .running && (s.pocket p).ce.index == some phase && (s.entry p).any (fun e => e.kind == .heatDry)

/-- DRY_CONDITION (R79): ends the HEAT_DRY phase whose record met the condition, or is discarded. A notice that stands for another
phase is not touched. -/
def execDryCondition (p : Pocket) (phase : Nat) (s : State) : Result :=
  .next (s.whenOperating (fun s =>
    let s1 := s.onMe p (fun m => { m with dryNotice := if m.dryNotice = some phase then none else m.dryNotice })
    if s.inDryPhase p phase then s1.endPhase p .dry else s1))

/-- An early reversal is taken: in RUN, with the latched tangle response ON and the latched reverse run above 0 (R45). -/
def DrumMotion.takesReversal (d : DrumMotion) : Bool := d.state == .run && d.latched.response && 0 < d.latched.reverseRun

/-- The consecutive tangle-reversal count rises from 2 to 3 (R95): TANGLE_PERSIST is reported and posted, and relief is in force
with its cap (R96, R101). -/
def State.tanglePersists (p : Pocket) (s : State) : State :=
  ((s.onTm p (fun t => { t with relief := true })).report p .tanglePersist none |>.post (.tanglePersist p)).applyCap p

/-- An early reversal that is taken (R45). -/
def State.reverseEarly (p : Pocket) (s : State) : State :=
  let s1 := (s.onDmc p (fun d => { d with reversalCount := min 255 (d.reversalCount + 1) })).toCoast p .alternate
  if (s.pocket p).dmc.reversalCount = 2 then s1.tanglePersists p else s1

/-- EARLY_REVERSAL (R45): ignored outside RUN and where the latched pattern does not allow it. -/
def execEarlyReversal (p : Pocket) (s : State) : Result :=
  .next (s.whenOperating (fun s =>
    let s1 := s.onTm p (fun t => { t with reversalNotice := false })
    if (s.pocket p).dmc.takesReversal then s1.reverseEarly p else s1))

/-- FAULT_REPORT (R164): the pocket's fault list takes the report and hands on its effects. -/
def execFaultReport (p : Pocket) (kind : FaultKind) (detail : Option Nat) (s : State) : Result :=
  .next (s.whenOperating (·.report p kind detail))

end Sys2Proof.Machine
end

