-- ==== Sys2Proof/Machine/CycleTimers.lean ====
section
/-! DEFINITION. The timers of the cycle engine (R11, R12, R15, R21). A timer's command takes the clock to its expiry
(notes/assumptions/2.md) and does nothing where the timer does not run (notes/assumptions/4.md). -/

namespace Sys2Proof.Machine

/-- When the phase elapsed time reaches minutes × 60 s, while the pocket is RUNNING (R11, R12). -/
def State.phaseDue (s : State) (p : Pocket) : Option Ticks :=
  match (s.pocket p).ce.state, (s.pocket p).ce.runSince, s.entry p with
  | .running, some t, some e => some (t + (seconds (e.minutes * 60) - (s.pocket p).ce.phaseTicks))
  | _, _, _ => none

/-- The exhaust reading is at or below the exit temperature × 10 (R12). -/
def State.cooled (s : State) (p : Pocket) (e : PhaseEntry) : Bool := s.exhaustReading p ≤ (e.temperature : Int) * 10

/-- The reason of an end at minutes × 60 s (R11, R12). -/
def State.timeReason (s : State) (p : Pocket) (e : PhaseEntry) : PhaseEndReason :=
  match e.kind with
  | .heatTimed | .tumble => .time
  | .heatDry => .timeLimit
  | .cool => if s.cooled p e then .coolTemp else .time

/-- The phase ends at its time. -/
def State.phaseTimeEnds (p : Pocket) (s : State) : State :=
  match s.entry p with
  | some e => s.endPhase p (s.timeReason p e)
  | none => s

/-- PHASE_TIME_EXPIRED (R11). -/
def execPhaseTimeExpired (p : Pocket) (s : State) : Result :=
  .next (s.whenOperating (fun s =>
    match s.phaseDue p with
    | some t => (s.reach t).phaseTimeEnds p
    | none => s))

/-- PURGE_END (R15): the blower is no longer demanded, so airflow is unproven and its interlock fails (R6, R107). -/
def execPurgeEnd (p : Pocket) (s : State) : Result :=
  .next (s.whenOperating (fun s =>
    match (s.pocket p).ce.purgeDue with
    | some t => ((s.reach t).onCe p (fun c => { c.blowerEnds with purgeDue := none })).dropE p
    | none => s))

/-- When the pause timer reaches 30 min, while PAUSED (R15). -/
def CycleEngine.pauseDue (c : CycleEngine) : Option Ticks :=
  if c.state == .paused then c.pause.map (fun e => e.2 + seconds 1800) else none

/-- PAUSE_TIMEOUT (R15). -/
def execPauseTimeout (p : Pocket) (s : State) : Result :=
  .next (s.whenOperating (fun s =>
    match (s.pocket p).ce.pauseDue with
    | some t => (s.reach t).enterWindDown p .windingDown .pauseTimeout
    | none => s))

/-- When the run-on reaches 120 s (R21). -/
def CycleEngine.runOnDue (c : CycleEngine) : Option Ticks := c.runOnSince.map (fun t => t + seconds 120)

/-- RUN_ON_TIMEOUT (R21). -/
def execRunOnTimeout (p : Pocket) (s : State) : Result :=
  .next (s.whenOperating (fun s =>
    match (s.pocket p).ce.runOnDue with
    | some t => (s.reach t).endRunOn p
    | none => s))

end Sys2Proof.Machine
end

