-- ==== Sys2Proof/Machine/Meter.lean ====
section
/-! DEFINITION. The meter's two rhythms as named operations: the voltage sample with the supply condition (R146 to R149), the
powers and energies of a supply update (R145, R151, R153, R154), the heater checks (R109 to R116) and the regulator (R102 to
R104). -/

namespace Sys2Proof.Machine

/-! ## The voltage sample (R146 to R149) -/

/-- A run after a sample: raised by a sample of its class, saturating at 255, and set to 0 by any other (R148). -/
def nextRun (hit : Bool) (run : Nat) : Nat := if hit then min 255 (run + 1) else 0

/-- The supply condition after a sample, from the three runs (R148). -/
def nextCondition (low high band : Nat) (c : SupplyCondition) : SupplyCondition :=
  if 5 ≤ low then .low else if 5 ≤ high then .high else if 41 ≤ band then .normal else c

/-- The meter after a voltage sample of a class (R146, R147, R148). -/
def SupplyMeter.take (v : Nat) (cls : SampleClass) (m : SupplyMeter) : SupplyMeter :=
  let low := nextRun (cls == .lowSide) m.lowRun
  let high := nextRun (cls == .highSide) m.highRun
  let band := nextRun (cls == .band) m.bandRun
  { m with sample := some v, held := if isSenseFault v then m.held else some v, senseFault := isSenseFault v, lowRun := low,
           highRun := high, bandRun := band, condition := nextCondition low high band m.condition }

/-- A voltage sample is taken: VSENSE_FAULT, the runs, the condition, SUPPLY_CONDITION at each change of either, and both
pockets' E follow the supply interlock (R107, R147, R148, R149). -/
def State.takeSample (v : Nat) (s : State) : State :=
  let m := s.sm.take v (s.classifyVoltage v)
  ({ s with sm := m }.postIf (m.senseFault != s.sm.senseFault || m.condition != s.sm.condition) .supplyCondition)
    |>.followE .A |>.followE .B

/-- A voltage reading, 0..6,000 decivolts (R145). -/
def voltageReading (v : Nat) : Nat := min v 6000

/-- A current reading: a value above 10,000 is read as 10,000 (R145). -/
def currentReading (i : Nat) : Nat := min i 10000

/-! ## Power and energy (R151, R153, R154) -/

/-- The voltage P is worked with: the update's own, or the held voltage when that is a sense-fault reading (R147, R151). -/
def State.powerVoltage (s : State) (vd : Nat) : Nat := if isSenseFault vd then s.sm.held.getD 0 else vd

/-- P = Vd × Ic × F / 1,000,000, truncated (R151). -/
def State.powerOf (s : State) (vd ic : Nat) : Nat := s.powerVoltage vd * ic * s.shared SharedItem.phaseFactor / 1000000

/-- The largest value of an energy counter (R153, R154). -/
def energyLimit : Nat := 4294967295

/-- One supply update's energy (R153, R154): P into the residual, and each whole Wh of 14,400 out of it into the counters. -/
def PocketMeter.accumulate (power : Nat) (inCycle : Bool) (m : PocketMeter) : PocketMeter :=
  let wh := (m.residual + power) / 14400
  { m with residual := (m.residual + power) % 14400, totalEnergy := min energyLimit (m.totalEnergy + wh),
           cycleEnergy := if inCycle then min energyLimit (m.cycleEnergy + wh) else m.cycleEnergy }

/-- A pocket's readings of an update: Ic, e and P, and the energy (R145, R151, R153). -/
def State.meterPocket (p : Pocket) (vd ic : Nat) (s : State) : State :=
  let power := s.powerOf vd ic
  s.onMeter p (fun m =>
    { m.accumulate power (s.pocket p).ce.inCycle with
        reading := some { current := ic, energized := (s.pocket p).hsc.energized, power := power } })

/-- The estimator stores the two temperature samples as delivered (R65). -/
def State.storeSamples (p : Pocket) (exhaust inlet : Int) (s : State) : State :=
  s.onMe p (fun m => { m with exhaust := some exhaust, inlet := some inlet })

/-! ## The heater checks (R109 to R116) -/

/-- What the current checks of a pocket work from, all at the moment of the readings (R110, R117). -/
structure CheckInputs where
  energized : Nat
  current : Nat
  expected : Option Nat
  suspended : Bool
  deriving DecidableEq, Repr

/-- Iexp (R109); none at a sense-fault update (R147). -/
def State.expectedCurrent (s : State) (p : Pocket) (vd : Nat) : Option Nat :=
  if isSenseFault vd then none
  else some (s.ratingSum p (s.pocket p).hsc.energized * 1000000 / (vd * s.shared SharedItem.phaseFactor))

/-- The checks are suspended: less than 1 s after the last change of E, or a condition other than NORMAL, or a sense-fault
reading (R110, R147). -/
def State.checksSuspended (s : State) (p : Pocket) (vd : Nat) : Bool :=
  s.now < (s.pocket p).hsc.lastChange + seconds 1 || s.sm.condition != .normal || isSenseFault vd

/-- The inputs of a pocket's current checks at the readings. -/
def State.checkInputs (s : State) (p : Pocket) (vd ic : Nat) : CheckInputs :=
  { energized := (s.pocket p).hsc.energized, current := ic, expected := s.expectedCurrent p vd,
    suspended := s.checksSuspended p vd }

/-- The upper current limit (R109). -/
def upperLimit (iexp tolerance : Nat) : Nat := iexp * (100 + tolerance) / 100

/-- The lower current limit (R109). -/
def lowerLimit (iexp tolerance : Nat) : Nat := iexp * (100 - tolerance) / 100

/-- The overcurrent comparison (R111); false where no expected current is worked (notes/assumptions/21.md). -/
def CheckInputs.overHolds (tolerance : Nat) (c : CheckInputs) : Bool :=
  1 ≤ c.energized && (match c.expected with
    | some i => upperLimit i tolerance < c.current
    | none => false)

/-- The stuck-on comparison (R113). -/
def CheckInputs.stuckHolds (limit : Nat) (c : CheckInputs) : Bool := c.energized == 0 && limit < c.current

/-- The underload comparison (R114). -/
def CheckInputs.underHolds (tolerance : Nat) (c : CheckInputs) : Bool :=
  1 ≤ c.energized && (match c.expected with
    | some i => c.current < lowerLimit i tolerance
    | none => false)

/-- A check's timer after an update, in ms: 0 where suspended or where the comparison does not hold, and 250 ms more where it
holds, standing at its configured time (R110). -/
def nextTimer (suspended holds : Bool) (limit timer : Nat) : Nat :=
  if suspended || !holds then 0 else min limit (timer + 250)

/-- A check is armed again at an update, not suspended, at which its comparison does not hold (R118). -/
def nextArmed (suspended holds armed : Bool) : Bool := armed || (!suspended && !holds)

/-- The overload time in ms. -/
def State.overloadTime (s : State) (p : Pocket) : Nat := s.item p PocketItem.overloadTime

/-- The underload time in ms. -/
def State.underloadTime (s : State) (p : Pocket) : Nat := s.item p PocketItem.underloadTime * 1000

/-- The three comparisons of an update are made, and what they leave in the heat stage controller (R110, R118, R119). -/
def State.compareCurrents (p : Pocket) (c : CheckInputs) (s : State) : State :=
  let tolerance := s.item p PocketItem.currentTolerance
  let high := c.overHolds tolerance
  let stuck := c.stuckHolds (s.item p PocketItem.offCurrentLimit)
  let low := c.underHolds tolerance
  s.onHsc p (fun h =>
    { h with expected := c.expected, suspended := c.suspended, overHolds := high, underHolds := low,
             overTimer := nextTimer c.suspended high (s.overloadTime p) h.overTimer,
             stuckTimer := nextTimer c.suspended stuck (s.overloadTime p) h.stuckTimer,
             underTimer := nextTimer c.suspended low (s.underloadTime p) h.underTimer,
             stuckArmed := nextArmed c.suspended stuck h.stuckArmed,
             underArmed := nextArmed c.suspended low h.underArmed })

/-- An overcurrent check is taken (R111, R112): the count rises; at 1 and 2 a recovery of 5 s begins, at 3 the pocket trips. E
falls to 0 at once in each case. -/
def State.takeOvercurrent (p : Pocket) (e : Nat) (s : State) : State :=
  let count := min 3 ((s.pocket p).hsc.overCount + 1)
  let s1 := s.onHsc p (fun h =>
    { h.withEnergized s.now 0 with
        overCount := count, overTimer := 0, recoveryDue := if count < 3 then some (s.now + seconds 5) else h.recoveryDue })
  if count < 3 then s1 else s1.report p .heaterOvercurrent (some e)

/-- A stuck-on check is taken (R113): SAFE opens and the pocket trips. -/
def State.takeStuckOn (p : Pocket) (s : State) : State :=
  (s.onHsc p (fun h => { h with safe := false, stuckArmed := false })).report p .heaterStuckOn none

/-- An underload check is taken (R114). -/
def State.takeUnderload (p : Pocket) (e : Nat) (s : State) : State :=
  (s.onHsc p (fun h => { h with underArmed := false })).report p .heaterUnderload (some e)

/-- Step 2 of R117: the current checks. Each is taken at the update at which its timer reaches its configured time (R110). -/
def State.currentChecks (p : Pocket) (c : CheckInputs) (s : State) : State :=
  let s1 := s.compareCurrents p c
  let h := (s1.pocket p).hsc
  if s.overloadTime p ≤ h.overTimer then s1.takeOvercurrent p c.energized
  else if s.overloadTime p ≤ h.stuckTimer && h.stuckArmed then s1.takeStuckOn p
  else if s.underloadTime p ≤ h.underTimer && h.underArmed then s1.takeUnderload p c.energized
  else s1

/-- Step 1 of R117, the exhaust sample (R116). -/
def State.checkExhaust (p : Pocket) (t : Int) (s : State) : State :=
  if inSenseRange t then s.onHsc p (fun h => { h with exhaustArmed := true })
  else if (s.pocket p).hsc.exhaustArmed then
    (s.onHsc p (fun h => { h with exhaustArmed := false })).report p .sensorExhaust none
  else s

/-- Step 1 of R117, the inlet sample (R116). -/
def State.checkInlet (p : Pocket) (t : Int) (s : State) : State :=
  if inSenseRange t then s.onHsc p (fun h => { h with inletArmed := true })
  else if (s.pocket p).hsc.inletArmed then
    (s.onHsc p (fun h => { h with inletArmed := false })).report p .sensorInlet none
  else s

/-- Steps 1 and 2 of R117 for a pocket. DESIGN CHOICE: of two samples out of range at one update the exhaust sample is reported
first, so that the record of the inlet sample, made after the trip, carries no phase (R116, R158; notes/assumptions/35.md). -/
def State.heaterChecks (p : Pocket) (exhaust inlet : Int) (c : CheckInputs) (s : State) : State :=
  ((s.checkExhaust p exhaust).checkInlet p inlet).currentChecks p c

/-! ## The regulator (R102 to R104) -/

/-- The lower threshold in 0.1 °C (R102). -/
def lowerThreshold (target hb : Nat) : Int := (target : Int) * 10 - hb

/-- The upper threshold (R102). -/
def upperThreshold (target hb : Nat) : Int := (target : Int) * 10 + hb

/-- The cut threshold (R102). -/
def cutThreshold (target hb : Nat) : Int := (target : Int) * 10 + 3 * hb

/-- L and E become 0 at once (R102). -/
def State.cutHeat (p : Pocket) (s : State) : State := s.setLevel p 0

/-- The stage interval since the last change of L has passed (R103). -/
def State.levelDue (s : State) (p : Pocket) : Bool :=
  s.passed (s.pocket p).hsc.lastLevelChange (seconds (s.item p PocketItem.stageInterval))

/-- A regulator step (R103). -/
def State.stepLevel (p : Pocket) (te : Int) (target hb : Nat) (s : State) : State :=
  let l := (s.pocket p).hsc.level
  if !s.levelDue p then s
  else if upperThreshold target hb ≤ te then s.setLevel p (l - 1)
  else if te ≤ lowerThreshold target hb && l < s.effectiveCap p then
    (if l < s.granted p then s.setLevel p (l + 1)
     else if (s.requestOf p).isNone && (s.pocket p).shedDue.isNone then s.postRequest p (s.granted p + 1)
     else s)
  else s

/-- Step 3 of R117: the regulator acts with the exhaust sample of the update, while the pocket is RUNNING on a heat phase (R102,
R104). -/
def State.regulate (p : Pocket) (te : Int) (s : State) : State :=
  match s.entry p with
  | some e =>
    let hb := s.item p PocketItem.hysteresis
    if !s.heating p then s
    else if !inSenseRange te then (s.cutHeat p).withdraw p
    else if cutThreshold e.temperature hb ≤ te then (s.cutHeat p).withdraw p
    else if lowerThreshold e.temperature hb < te then (s.stepLevel p te e.temperature hb).withdraw p
    else s.stepLevel p te e.temperature hb
  | none => s

end Sys2Proof.Machine
end

