-- ==== Sys2Proof/Machine/Supply.lean ====
section
/-! DEFINITION. SUPPLY_UPDATE and VOLTAGE_SAMPLE (R145, R146). -/

namespace Sys2Proof.Machine

/-- VOLTAGE_SAMPLE (R146): one sample each 50 ms. -/
def execVoltageSample (v : Nat) (s : State) : Result :=
  .next (s.whenOperating (fun s =>
    let s1 := s.reach s.sm.nextSample
    ({ s1 with sm := { s1.sm with nextSample := s1.sm.nextSample + millis 50 } }).takeSample (voltageReading v)))

/-- The start of an update: the clock, the next update's time, the update count (R127, R145) and Vd (R155). -/
def State.beginUpdate (vd : Nat) (s : State) : State :=
  let s1 := s.reach s.sm.nextUpdate
  { s1 with sm := { s1.sm with nextUpdate := s1.sm.nextUpdate + millis 250, updateVoltage := some vd },
            sa := { s1.sa with updateCount := (s1.sa.updateCount + 1) % 4294967296 } }

/-- The readings of an update are stored: the meter's for each pocket, and the samples (R145, R65). -/
def State.storeReadings (r : Readings) (s : State) : State :=
  let vd := voltageReading r.voltage
  (((s.meterPocket .A vd (currentReading r.currentA)).meterPocket .B vd (currentReading r.currentB)).storeSamples .A r.exhaustA
    r.inletA).storeSamples .B r.exhaustB r.inletB

/-- The evaluation of each supply update while the basis is METERED (R131). -/
def State.meteredEvaluation (s : State) : State := if s.metered then s.evaluate else s

/-- COOL_TEMP (R12): a COOL phase of at least 60 s whose exhaust reading is at or below the exit temperature. -/
def State.coolTempEnd (p : Pocket) (s : State) : State :=
  match s.entry p with
  | some e =>
    if (s.pocket p).ce.state == .running && e.kind == .cool && 60 ≤ s.phaseElapsed p && s.cooled p e then s.endPhase p .coolTemp
    else s
  | none => s

/-- The exhaust may end the run-on: from 30 s on, with the latest sample in range, no SENSOR_EXHAUST listed, and the reading at
or below the purge temperature × 10 (R21). -/
def State.runOnCooled (s : State) (p : Pocket) : Bool :=
  (match (s.pocket p).ce.runOnSince with
    | some t => t + seconds 30 ≤ s.now
    | none => false)
  && inSenseRange (s.exhaustReading p) && !(s.pocket p).fl.holds .sensorExhaust
  && s.exhaustReading p ≤ (s.item p PocketItem.purgeTemperature : Int) * 10

/-- The run-on's end at a supply update (R21). -/
def State.runOnExhaustEnd (p : Pocket) (s : State) : State := if s.runOnCooled p then s.endRunOn p else s

/-- The end of the first supply update after a grant: a hold that has run out by then asks for its release (R106), for the stage then
on top. `fresh` tells that the grant came before this update; one that came in it waits for the next (notes/assumptions/28.md). -/
def State.endFreshGrant (p : Pocket) (fresh : Bool) (s : State) : State :=
  if fresh then
    let s1 := s.onHsc p (fun h => { h with askedStage := none })
    if s1.holdRanOut p then s1.releaseTop p else s1
  else s

/-- A pocket's grants so far are no longer fresh (R106). -/
def State.clearFresh (p : Pocket) (s : State) : State := s.onHsc p (fun h => { h with freshGrant := false })

/-- A supply update (R145): readings, the checks and the regulators of both pockets (R117), the cycle engine's two ends that wait
for an update (R12, R21), and the holds that waited for its end (R106). Where the rules give no order between two blocks, pocket
A stands before pocket B (notes/assumptions/8.md). -/
def State.supplyUpdate (r : Readings) (s : State) : State :=
  let vd := voltageReading r.voltage
  let freshA := (s.pocket .A).hsc.freshGrant
  let freshB := (s.pocket .B).hsc.freshGrant
  let s1 := (((s.clearFresh .A).clearFresh .B).beginUpdate vd).storeReadings r
  let inA := s1.checkInputs .A vd (currentReading r.currentA)
  let inB := s1.checkInputs .B vd (currentReading r.currentB)
  let s2 := ((s1.heaterChecks .A r.exhaustA r.inletA inA).heaterChecks .B r.exhaustB r.inletB inB).meteredEvaluation
  let s3 := (s2.regulate .A r.exhaustA).regulate .B r.exhaustB
  let s4 := (((s3.coolTempEnd .A).coolTempEnd .B).runOnExhaustEnd .A).runOnExhaustEnd .B
  (s4.endFreshGrant .A freshA).endFreshGrant .B freshB

/-- SUPPLY_UPDATE (R145): one update each 250 ms. -/
def execSupplyUpdate (r : Readings) (s : State) : Result := .next (s.whenOperating (·.supplyUpdate r))

end Sys2Proof.Machine
end

