-- ==== Sys2Proof/Machine/HeatTimers.lean ====
section
/-! DEFINITION. The timers of the heat stage controller, the supply allocator and the sample buffers (R106, R108, R111, R121,
R142, R185), and the level lines. A timer's command takes the clock to its expiry (notes/assumptions/2.md) and does nothing where
the timer does not run (notes/assumptions/4.md). -/

namespace Sys2Proof.Machine

/-- RELEASE_HOLD_EXPIRED (R106): the allocator is asked to release the top stage (R137). Between a grant and the end of the first
supply update after it no release is asked for (notes/assumptions/28.md). -/
def execReleaseHoldExpired (p : Pocket) (s : State) : Result :=
  .next (s.whenOperating (fun s =>
    match s.holdDue p with
    | some t => if (s.pocket p).hsc.freshGrant then s else (s.reach t).askRelease p
    | none => s))

/-- When E may rise: the end of the stage interval since its last rise, which lies long ago where it is none (R108, R120). -/
def State.riseTime (s : State) (p : Pocket) : Ticks :=
  match (s.pocket p).hsc.lastRise with
  | some t => t + seconds (s.item p PocketItem.stageInterval)
  | none => s.now

/-- ENERGIZE_STEP (R108): the target stands above E and the stage interval has passed; E rises by one. -/
def execEnergizeStep (p : Pocket) (s : State) : Result :=
  .next (s.whenOperating (fun s =>
    if (s.pocket p).hsc.energized < s.heatTarget p then (s.reach (s.riseTime p)).riseE p else s))

/-- RECOVERY_END (R111): the recovery interlock passes again, and E follows. -/
def execRecoveryEnd (p : Pocket) (s : State) : Result :=
  .next (s.whenOperating (fun s =>
    match (s.pocket p).hsc.recoveryDue with
    | some t => ((s.reach t).onHsc p (fun h => { h with recoveryDue := none })).followE p
    | none => s))

/-- SHED_HOLD_EXPIRED (R142). -/
def execShedHoldExpired (p : Pocket) (s : State) : Result :=
  .next (s.whenOperating (fun s =>
    match (s.pocket p).shedDue with
    | some t => (s.reach t).endHold p
    | none => s))

/-- FLUSH_TIMER_EXPIRED (R185): the FILLING buffer becomes READY. -/
def execFlushTimerExpired (p : Pocket) (s : State) : Result :=
  .next (s.whenOperating (fun s =>
    match (s.pocket p).sb.flushDue with
    | some t => ((s.reach t).onSb p (fun b => { b with flushDue := none })).flushSamples p
    | none => s))

/-- The level line value: LVL0 is the least significant, and an asserted line counts 1 (R121). -/
def levelOfLines (lvl2 lvl1 lvl0 : Bool) : Nat := 4 * lvl2.toNat + 2 * lvl1.toNat + lvl0.toNat

/-- The stability timer starts from 0 (R121). -/
def State.startStability (s : State) : State := { s with sa := { s.sa with stabilityDue := some (s.now + millis 500) } }

/-- LEVEL_LINES_CHANGE (R121): each change of the level line value restarts the stability timer. -/
def execLevelLinesChange (lvl2 lvl1 lvl0 : Bool) (s : State) : Result :=
  .next (if levelOfLines lvl2 lvl1 lvl0 = s.levelLines then s
  else ({ s with levelLines := levelOfLines lvl2 lvl1 lvl0 }).whenOperating (·.startStability))

/-- The stability timer reaches 500 ms (R121): a level line value that differs from the debounced level becomes it, which under
FOLLOW_LINES changes the level in force, posts LEVEL_CHANGE and evaluates (R122). -/
def State.debounce (s : State) : State :=
  let s1 := { s with sa := { s.sa with stabilityDue := none } }
  if s.sa.debounced = some s.levelLines then s1
  else
    let s2 := { s1 with sa := { s1.sa with debounced := some s.levelLines } }
    if s.sa.forced.isNone then (s2.post .levelChange).evaluate else s2

/-- LEVEL_DEBOUNCE_EXPIRED (R121). -/
def execLevelDebounceExpired (s : State) : Result :=
  .next (s.whenOperating (fun s =>
    match s.sa.stabilityDue with
    | some t => (s.reach t).debounce
    | none => s))

end Sys2Proof.Machine
end

