-- ==== Sys2Proof/Machine/Store.lean ====
section
/-! DEFINITION. The end of a save (R198), reset, start-up and the loss of power (R199, R200). -/

namespace Sys2Proof.Machine

/-- The profile store at the end of a save (R198). The image is the working profile's; after a STORE_ERROR its check fails
(notes/assumptions/22.md). -/
def ProfileStore.endSave (matched : Bool) (f : ProfileStore) : ProfileStore :=
  { f with saving := false, lastSave := some (if matched then .ok else .storeError), unsaved := !matched,
           storeInvalid := !matched, image := f.profile,
           check := if matched then checkOf f.profile.bytes else ~~~ checkOf f.profile.bytes }

/-- SAVE_DONE (R198), with whether the image read back matches and its check passes. -/
def execSaveDone (matched : Bool) (s : State) : Result :=
  .next (s.whenOperating (fun s =>
    if s.ps.saving then ({ s with ps := s.ps.endSave matched }).post .saveDone else s))

/-- RESET_ASSERT (R199): every output deasserted, every block's state lost but the store. A save that is interrupted leaves the
check failing (R198), as SAVE_PROFILE has made it. -/
def execResetAssert (s : State) : Result := .next (s.clear .held s.ps.lost)

/-- RESET_RELEASE (R199): the working profile is loaded. -/
def execResetRelease (s : State) : Result :=
  .next (match s.mode with
    | .held => s.clear .loading s.ps.load
    | .off | .loading | .operating => s)

/-- The end of the profile load at a port (R184). -/
def PortState.live (port : Port) (x : PortState) : PortState :=
  { x with receiver := .hunt, reply := none, mask := defaultMask port, latch := EventKind.restarted.set }

/-- HLIM is examined at the end of the load: an open HLIM is taken as an opening (R115, R200). -/
def State.examineLimit (p : Pocket) (s : State) : State :=
  if (s.pocket p).lines.hlimClosed then s else s.report p .highLimit none

/-- The end of start-up (R200): the ports open, SAFE is asserted, the stability timer and the meter's rhythms start, the first
voltage sample is taken, HLIM is examined. DESIGN CHOICE: within this step the ports open with RESTARTED in their latches (R184), then
the first sample (R147) and an open HLIM (R115) post what they post, which joins RESTARTED there (notes/assumptions/36.md). -/
def State.endLoad (vsup : Nat) (s : State) : State :=
  let s1 := { s with mode := .operating, loadedAt := s.now, portA := s.portA.live .A, portB := s.portB.live .B,
                     portS := s.portS.live .S,
                     sm := { s.sm with nextSample := s.now + millis 50, nextUpdate := s.now + millis 250 } }
  let s2 := (s1.onHsc .A (fun h => { h with safe := true })).onHsc .B (fun h => { h with safe := true })
  ((s2.startStability.takeSample (voltageReading vsup)).examineLimit .A).examineLimit .B

/-- PROFILE_LOAD_DONE (R200), with the first voltage sample. -/
def execProfileLoadDone (vsup : Nat) (s : State) : Result :=
  .next (match s.mode with
    | .loading => s.endLoad vsup
    | .off | .held | .operating => s)

/-- POWER_LOSS (R198, R199): everything is lost but the store. -/
def execPowerLoss (s : State) : Result := .next (s.clear .off s.ps.lost)

end Sys2Proof.Machine
end

