-- ==== Sys2Proof/Machine/Dispatch.lean ====
section
/-! DEFINITION. The meaning of a command: one arm for each constructor of Instr, each one call of its meaning. -/

namespace Sys2Proof.Machine

def exec (i : Instr) (s : State) : Host.Outcome State Fault Refusal :=
  match i with
  | .start port tag payload => Sys2Proof.Machine.execStart port tag payload s
  | .pause port tag payload => Sys2Proof.Machine.execPause port tag payload s
  | .resume port tag payload => Sys2Proof.Machine.execResume port tag payload s
  | .stop port tag payload => Sys2Proof.Machine.execStop port tag payload s
  | .addTime port tag payload => Sys2Proof.Machine.execAddTime port tag payload s
  | .halt port tag payload => Sys2Proof.Machine.execHalt port tag payload s
  | .shed port tag payload => Sys2Proof.Machine.execShed port tag payload s
  | .restore port tag payload => Sys2Proof.Machine.execRestore port tag payload s
  | .fetchSamples port tag payload => Sys2Proof.Machine.execFetchSamples port tag payload s
  | .clearFault port tag payload => Sys2Proof.Machine.execClearFault port tag payload s
  | .readPocket port tag payload => Sys2Proof.Machine.execReadPocket port tag payload s
  | .readFaults port tag payload => Sys2Proof.Machine.execReadFaults port tag payload s
  | .readSupply port tag payload => Sys2Proof.Machine.execReadSupply port tag payload s
  | .readMeter port tag payload => Sys2Proof.Machine.execReadMeter port tag payload s
  | .readProfile port tag payload => Sys2Proof.Machine.execReadProfile port tag payload s
  | .readEvents port tag payload => Sys2Proof.Machine.execReadEvents port tag payload s
  | .setEventMask port tag payload => Sys2Proof.Machine.execSetEventMask port tag payload s
  | .setLevel port tag payload => Sys2Proof.Machine.execSetLevel port tag payload s
  | .writeCeiling port tag payload => Sys2Proof.Machine.execWriteCeiling port tag payload s
  | .setClass port tag payload => Sys2Proof.Machine.execSetClass port tag payload s
  | .writeProfile port tag payload => Sys2Proof.Machine.execWriteProfile port tag payload s
  | .saveProfile port tag payload => Sys2Proof.Machine.execSaveProfile port tag payload s
  | .unknownCode port code tag payload => Sys2Proof.Machine.execUnknownCode port code tag payload s
  | .frameCheckFail port chars => Sys2Proof.Machine.execFrameCheckFail port chars s
  | .characterError port chars => Sys2Proof.Machine.execCharacterError port chars s
  | .frameGapTimeout port chars => Sys2Proof.Machine.execFrameGapTimeout port chars s
  | .replyDone port => Sys2Proof.Machine.execReplyDone port s
  | .doorOpen p => Sys2Proof.Machine.execDoorOpen p s
  | .doorClose p => Sys2Proof.Machine.execDoorClose p s
  | .airfClose p => Sys2Proof.Machine.execAirfClose p s
  | .airfOpen p => Sys2Proof.Machine.execAirfOpen p s
  | .airflowProven p => Sys2Proof.Machine.execAirflowProven p s
  | .provingTimeout p => Sys2Proof.Machine.execProvingTimeout p s
  | .airflowLossTimeout p => Sys2Proof.Machine.execAirflowLossTimeout p s
  | .hlimOpen p => Sys2Proof.Machine.execHlimOpen p s
  | .hlimClose p => Sys2Proof.Machine.execHlimClose p s
  | .drvfAssert p => Sys2Proof.Machine.execDrvfAssert p s
  | .idxEdge p after => Sys2Proof.Machine.execIdxEdge p after s
  | .tchEdge p after rising => Sys2Proof.Machine.execTchEdge p after rising s
  | .contactQualified p => Sys2Proof.Machine.execContactQualified p s
  | .dryCondition p phase => Sys2Proof.Machine.execDryCondition p phase s
  | .earlyReversal p => Sys2Proof.Machine.execEarlyReversal p s
  | .faultReport p kind detail => Sys2Proof.Machine.execFaultReport p kind detail s
  | .dclrPulseEnd p drvf => Sys2Proof.Machine.execDclrPulseEnd p drvf s
  | .lockoutEnd p => Sys2Proof.Machine.execLockoutEnd p s
  | .accelTimeout p => Sys2Proof.Machine.execAccelTimeout p s
  | .fullRun p => Sys2Proof.Machine.execFullRun p s
  | .stallTimeout p => Sys2Proof.Machine.execStallTimeout p s
  | .coastEnd p => Sys2Proof.Machine.execCoastEnd p s
  | .dwellEnd p => Sys2Proof.Machine.execDwellEnd p s
  | .minimumRunReached p => Sys2Proof.Machine.execMinimumRunReached p s
  | .phaseTimeExpired p => Sys2Proof.Machine.execPhaseTimeExpired p s
  | .purgeEnd p => Sys2Proof.Machine.execPurgeEnd p s
  | .pauseTimeout p => Sys2Proof.Machine.execPauseTimeout p s
  | .runOnTimeout p => Sys2Proof.Machine.execRunOnTimeout p s
  | .supplyUpdate r => Sys2Proof.Machine.execSupplyUpdate r s
  | .voltageSample v => Sys2Proof.Machine.execVoltageSample v s
  | .releaseHoldExpired p => Sys2Proof.Machine.execReleaseHoldExpired p s
  | .energizeStep p => Sys2Proof.Machine.execEnergizeStep p s
  | .recoveryEnd p => Sys2Proof.Machine.execRecoveryEnd p s
  | .shedHoldExpired p => Sys2Proof.Machine.execShedHoldExpired p s
  | .flushTimerExpired p => Sys2Proof.Machine.execFlushTimerExpired p s
  | .levelLinesChange lvl2 lvl1 lvl0 => Sys2Proof.Machine.execLevelLinesChange lvl2 lvl1 lvl0 s
  | .levelDebounceExpired => Sys2Proof.Machine.execLevelDebounceExpired s
  | .saveDone readBackMatches => Sys2Proof.Machine.execSaveDone readBackMatches s
  | .resetAssert => Sys2Proof.Machine.execResetAssert s
  | .resetRelease => Sys2Proof.Machine.execResetRelease s
  | .profileLoadDone vsup => Sys2Proof.Machine.execProfileLoadDone vsup s
  | .frameLengthInvalid port chars => Sys2Proof.Machine.execFrameLengthInvalid port chars s
  | .wetRise p after => Sys2Proof.Machine.execWetRise p after s
  | .wetFall p after => Sys2Proof.Machine.execWetFall p after s
  | .powerLoss => Sys2Proof.Machine.execPowerLoss s

end Sys2Proof.Machine
end

