-- ==== Sys2Proof/Machine/Due.lean ====
section
/-! DEFINITION. What happens on an empty queue: the commands that fall due by the clock and the messages on their way
(notes/assumptions/1.md). -/

namespace Sys2Proof.Machine

/-- A command at the time its timer names, where the timer runs. -/
def dueAt (t : Option Ticks) (c : Instr) : List (Ticks × Instr) :=
  match t with
  | some t => [(t, c)]
  | none => []

/-- A command that may come now, where a condition holds. -/
def dueNow (s : State) (b : Bool) (c : Instr) : List (Ticks × Instr) := if b then [(s.now, c)] else []

/-- The messages of a pocket that are on their way (R79, R93). -/
def State.dueMessages (s : State) (p : Pocket) : List (Ticks × Instr) :=
  (match (s.pocket p).me.dryNotice with
    | some i => [(s.now, .dryCondition p i)]
    | none => [])
  ++ dueNow s (s.pocket p).tm.reversalNotice (.earlyReversal p)

/-- The timers of a pocket's cycle engine. -/
def State.dueCycle (s : State) (p : Pocket) : List (Ticks × Instr) :=
  let c := (s.pocket p).ce
  dueAt c.closureDue (.airflowProven p) ++ dueAt c.provingDue (.provingTimeout p) ++ dueAt c.lossDue (.airflowLossTimeout p)
    ++ dueAt (s.phaseDue p) (.phaseTimeExpired p) ++ dueAt c.purgeDue (.purgeEnd p) ++ dueAt c.pauseDue (.pauseTimeout p)
    ++ dueAt c.runOnDue (.runOnTimeout p)

/-- The timers of a pocket's drum motion controller, but the DCLR pulse, whose end reads DRVF. -/
def State.dueDrum (s : State) (p : Pocket) : List (Ticks × Instr) :=
  let d := (s.pocket p).dmc
  dueAt (d.timerIn .accel d.lockoutDue) (.lockoutEnd p) ++ dueAt (d.timerIn .accel d.accelDue) (.accelTimeout p)
    ++ dueAt d.fullRunDue (.fullRun p) ++ dueAt (d.timerIn .run d.stallDue) (.stallTimeout p) ++ dueAt d.coastEnd (.coastEnd p)
    ++ dueAt (d.timerIn .dwell d.dwellDue) (.dwellEnd p) ++ dueAt (d.timerIn .run d.minimumRunDue) (.minimumRunReached p)

/-- The end of the pulse a pocket's contact filter follows toward the minimum width (R54). -/
def State.contactDue (s : State) (p : Pocket) : Option Ticks :=
  match (s.pocket p).rcu.pulse with
  | some u => if u.accepted then none else some (u.since + s.contactWidth p)
  | none => none

/-- The remaining timers of a pocket. -/
def State.dueHeat (s : State) (p : Pocket) : List (Ticks × Instr) :=
  dueAt (s.contactDue p) (.contactQualified p)
    ++ dueAt (if (s.pocket p).hsc.freshGrant then none else s.holdDue p) (.releaseHoldExpired p)
    ++ dueAt (if (s.pocket p).hsc.energized < s.heatTarget p then some (s.riseTime p) else none) (.energizeStep p)
    ++ dueAt (s.pocket p).hsc.recoveryDue (.recoveryEnd p) ++ dueAt (s.pocket p).shedDue (.shedHoldExpired p)
    ++ dueAt (s.pocket p).sb.flushDue (.flushTimerExpired p)

/-- Everything of a pocket that falls due by itself. -/
def State.duePocket (s : State) (p : Pocket) : List (Ticks × Instr) :=
  s.dueMessages p ++ s.dueCycle p ++ s.dueDrum p ++ s.dueHeat p

/-- The gap that ends a frame being assembled at a port (R176). -/
def State.dueGap (s : State) (q : Port) : List (Ticks × Instr) :=
  dueAt (if (s.port q).receiver.assembling then some ((s.port q).lastCharacter + millis 3) else none) (.frameGapTimeout q [])

/-- Everything that falls due by itself. -/
def State.due (s : State) : List (Ticks × Instr) :=
  s.duePocket .A ++ s.duePocket .B ++ s.dueGap .A ++ s.dueGap .B ++ s.dueGap .S ++ dueAt s.sa.stabilityDue .levelDebounceExpired

/-- The earliest of a list, the first of those at one time. -/
def earliest : List (Ticks × Instr) → Option (Ticks × Instr)
  | [] => none
  | e :: es =>
    match earliest es with
    | some f => if f.1 < e.1 then some f else some e
    | none => some e

/-- A reading from outside is due, and the clock waits for the command that carries it: a voltage sample, a supply update, or
DRVF at the end of a DCLR pulse (notes/assumptions/16.md). -/
def State.waitsForReading (s : State) : Bool :=
  s.sm.nextSample ≤ s.now || s.sm.nextUpdate ≤ s.now || (s.a.dmc.pulseDue.any (· ≤ s.now)) || (s.b.dmc.pulseDue.any (· ≤ s.now))

/-- The empty queue at work: what is due is done, else the clock waits for a reading that is due, else one tick passes. -/
def State.workOn (s : State) : Result :=
  match earliest s.due with
  | some (t, c) => if t ≤ s.now then exec c s else if s.waitsForReading then .next s else .next (s.elapse 1)
  | none => if s.waitsForReading then .next s else .next (s.elapse 1)

/-- The empty queue (notes/assumptions/1.md): the time base runs while the profile is loading; nothing happens without power and
in reset (notes/assumptions/25.md). -/
def State.idleStep (s : State) : Result :=
  match s.mode with
  | .operating => s.workOn
  | .loading => .next (s.elapse 1)
  | .off | .held => .next s

end Sys2Proof.Machine
end

