-- ==== Sys2Proof/Safety.lean ====
section
/-! DEFINITION. What counts as a sound state, in the terms that claims use: the laws that the rules state "at all times" (R31, R101,
R107, R113, R126, R127, R131, R165, R177, R181, R185), the output lines, and what a step may leave alone. -/

namespace Sys2Proof.Machine

/-! ## Heat (R101, R107) -/

/-- A pocket's energized count does not exceed the target of R107: min(L, g) while every interlock passes, and 0 while one fails. -/
def HeatAllowed (s : State) : Prop := ∀ p, (s.pocket p).hsc.energized ≤ s.heatTarget p

/-! ## The supply account (R126, R127, R131) -/

/-- The stages of a pocket on the grant list, in the list's order. -/
def State.grantedStages (s : State) (p : Pocket) : List Nat := (grantsOf s.sa.grants p).map (·.stage)

/-- A pocket's pending requests. -/
def State.requestsOf (s : State) (p : Pocket) : List StageRequest := s.sa.requests.filter (fun r => r.pocket == p)

/-- The allocator's law for a pocket: its entries are its stages 1..g in increasing order with g at most its effective cap, it has
at most one pending request, which is for stage g + 1 and within the cap, L is at most g, and it has neither entries nor a request
while it is not RUNNING on a heat phase or is under a shed hold (R101, R105, R126, R127). -/
def AllotmentHolds (s : State) (p : Pocket) : Prop :=
  s.grantedStages p = (List.range (s.granted p)).map (· + 1)
  ∧ s.granted p ≤ s.effectiveCap p
  ∧ (s.requestsOf p).length ≤ 1
  ∧ (∀ r ∈ s.requestsOf p, r.stage = s.granted p + 1 ∧ r.stage ≤ s.effectiveCap p)
  ∧ (s.pocket p).hsc.level ≤ s.granted p
  ∧ ((s.heating p = false ∨ (s.pocket p).shedDue ≠ none) → s.granted p = 0 ∧ s.requestsOf p = [])

/-- The supply account: the law of each pocket, and committed power within the ceiling in force (R131). -/
def AccountHolds (s : State) : Prop := AllotmentHolds s .A ∧ AllotmentHolds s .B ∧ s.committed ≤ s.ceiling

/-- The level lines and the two levels that come from them or from SET_LEVEL are levels 0 to 7 (R121, R122). -/
def LevelsHold (s : State) : Prop :=
  s.levelLines ≤ 7 ∧ (∀ l, s.sa.debounced = some l → l ≤ 7) ∧ (∀ l, s.sa.forced = some l → l ≤ 7)

/-! ## The drum (R31) -/

/-- A run output is asserted only when the opposite one has been off for at least 2 s, and a lockout wait ends no sooner (R31). -/
def LockoutKept (s : State) : Prop :=
  ∀ p, ((s.pocket p).dmc.runOutput = true → (s.pocket p).dmc.oppositeOff + seconds 2 ≤ s.now)
    ∧ (∀ t, (s.pocket p).dmc.lockoutDue = some t → (s.pocket p).dmc.oppositeOff + seconds 2 ≤ t)

/-! ## Faults (R113, R158, R165) -/

/-- A list of fault records as R158 and R162 allow it: at most six, each kind once, counts of 1..255. -/
def FaultListHolds (f : FaultList) : Prop :=
  f.records.length ≤ 6 ∧ (f.records.map (·.kind)).Nodup ∧ ∀ r ∈ f.records, 1 ≤ r.count ∧ r.count ≤ 255

/-- A TRIP record is listed exactly while the pocket is FAULTED (R165), SAFE is deasserted exactly while HEATER_STUCK_ON is listed
(R113), and before the end of start-up the list is empty and SAFE is off (R173, R120). -/
def FaultsAgree (s : State) : Prop :=
  ∀ p, FaultListHolds (s.pocket p).fl
    ∧ (0 < (s.pocket p).fl.trips ↔ (s.pocket p).ce.state = .faulted)
    ∧ (s.mode = .operating → ((s.pocket p).hsc.safe = false ↔ (s.pocket p).fl.holds .heaterStuckOn = true))
    ∧ (s.mode ≠ .operating → (s.pocket p).fl.records = [] ∧ (s.pocket p).hsc.safe = false)

/-! ## Sample buffers (R185) -/

/-- A buffer by its state (R185): FREE is empty, FILLING holds fewer than twelve records, READY 1 to 12. -/
def BufferHolds (b : Buffer) : Prop :=
  match b.state with
  | .free => b.records = []
  | .filling => b.records.length < 12
  | .ready => 1 ≤ b.records.length ∧ b.records.length ≤ 12

/-- The buffers of a pocket: each by its state, at most one FILLING, and a flush timer only beside a FILLING buffer that holds a
record (R185). -/
def BuffersHold (s : State) : Prop :=
  ∀ p, BufferHolds (s.pocket p).sb.x ∧ BufferHolds (s.pocket p).sb.y
    ∧ ¬ ((s.pocket p).sb.x.state = .filling ∧ (s.pocket p).sb.y.state = .filling)
    ∧ ((s.pocket p).sb.flushDue.isSome = true → (s.pocket p).sb.fillingHeld.isSome = true)

/-! ## Links (R177, R180, R181, R183) -/

/-- An event set that the controller sends: bits 18 to 23 are 0 (R180). -/
def eventBits : EventSet := 0x03FFFF#24

/-- The ports: a port with a reply has its receiver off (R177); a latch holds only kinds its mask admits (R181, R183); masks and
latches are sets of the eighteen kinds (R180, R183). -/
def PortsHold (s : State) : Prop :=
  ∀ q, ((s.port q).reply.isSome = true → (s.port q).receiver = .off)
    ∧ (s.port q).latch &&& admitted (s.port q).mask = (s.port q).latch
    ∧ (s.port q).mask &&& eventBits = (s.port q).mask

/-! ## Output lines of a pocket (00_scope.md, "Lines of each pocket") -/

/-- BLWR (R40). -/
def State.blwr (s : State) (p : Pocket) : Bool := (s.pocket p).ce.blowerDemand

/-- Every output line of a pocket is deasserted, and SPD is at LOW (R199). -/
def State.outputsOff (s : State) (p : Pocket) : Prop :=
  (s.pocket p).dmc.fwd = false ∧ (s.pocket p).dmc.rev = false ∧ (s.pocket p).dmc.dclr = false ∧ s.blwr p = false
    ∧ (∀ n, (s.pocket p).hsc.ht n = false) ∧ (s.pocket p).hsc.safe = false ∧ (s.pocket p).dmc.speed = .low

/-! ## What a command may leave alone -/

/-- A request's reply is the only thing that a port keeps of it: the state with port `q` REPLYING. -/
def State.answered (q : Port) (code tag : Byte) (status : Status) (payload : List Byte) (s : State) : State :=
  s.setPort q { s.port q with
    receiver := .off, reply := some { code := code ||| 0x80#8, tag := tag, status := status, payload := payload } }

/-- Nothing shared changed but the allocator and the ports: queue, mode, clock, level lines, meter and profile store. -/
def SameShared (s t : State) : Prop :=
  t.pending = s.pending ∧ t.mode = s.mode ∧ t.now = s.now ∧ t.loadedAt = s.loadedAt ∧ t.levelLines = s.levelLines
    ∧ t.sm = s.sm ∧ t.ps = s.ps

/-- A pocket unchanged but for its heat stage controller. -/
def SameButHeat (x y : PocketState) : Prop := { y with hsc := x.hsc } = x

/-- The allocator unchanged but for its two lists. -/
def SameButLists (x y : Allocator) : Prop := { y with grants := x.grants, requests := x.requests } = x

/-- A port unchanged but for its event latch. -/
def SameButLatch (x y : PortState) : Prop := { y with latch := x.latch } = x

/-- No port changed but in its latch. -/
def SamePortsButLatches (s t : State) : Prop := ∀ q, SameButLatch (s.port q) (t.port q)

/-- What an evaluation may change (R131, R140): the two lists, both heat stage controllers, and the latches; the cycle engine, the
drum, the revolution counter, the estimator, the tangle monitor, the buffers, the fault list, the meter, the shed holds and the
lines of both pockets stand. -/
def OnlyAccountMoved (s t : State) : Prop :=
  SameShared s t ∧ (∀ p, SameButHeat (s.pocket p) (t.pocket p)) ∧ SameButLists s.sa t.sa ∧ SamePortsButLatches s t

/-- Besides pocket `p`'s own part, no more has changed than an evaluation may change: the two lists, the other pocket's heat stage
controller, and the latches. -/
def OnlyPocketAndAccount (p : Pocket) (s t : State) : Prop :=
  SameShared s t ∧ SameButHeat (s.pocket (otherPocket p)) (t.pocket (otherPocket p)) ∧ SameButLists s.sa t.sa
    ∧ SamePortsButLatches s t

/-- Besides pocket `p`'s own part, only the event latches may have changed. -/
def OnlyPocketAndLatches (p : Pocket) (s t : State) : Prop :=
  SameShared s t ∧ t.pocket (otherPocket p) = s.pocket (otherPocket p) ∧ t.sa = s.sa ∧ SamePortsButLatches s t

/-- Nothing but pocket `p`'s own part has changed. -/
def OnlyPocket (p : Pocket) (s t : State) : Prop := t = s.setPocket p (t.pocket p)

/-- What a change of the cycle state or of the motion state leaves alone in a pocket: the lines, the buffers, the fault list, the
meter and the shed hold. -/
def SameRecords (x y : PocketState) : Prop :=
  y.lines = x.lines ∧ y.sb = x.sb ∧ y.fl = x.fl ∧ y.meter = x.meter ∧ y.shedDue = x.shedDue

/-- Every latch holds what it held, and `k` where its port's mask admits it (R181). -/
def LatchesGain (k : EventKind) (s t : State) : Prop :=
  ∀ q, ((s.port q).post k).latch &&& (t.port q).latch = ((s.port q).post k).latch

/-- A port takes requests: the controller is at work and the receiver is on (R177, R184). -/
def State.hears (s : State) (q : Port) : Prop := s.mode = .operating ∧ (s.port q).receiver ≠ .off

/-- The port of a pocket's own controller. -/
def ownPort : Pocket → Port
  | .A => .A
  | .B => .B

/-! ## A coast and a stop of the drum (R31, R35, R38, R39) -/

/-- The drum motion controller as COAST is entered from ACCEL or RUN at `now`, with `coast` the coast time in ticks (R35): both run
outputs off, the off time of an output that was asserted the present one and the other off time as it stood (R31), the quiet time 1.5
times the last period and at least 1 s, the segment's timers idle, the rest as it stood. -/
def coastBegun (purpose : CoastPurpose) (now coast : Ticks) (d : DrumMotion) : DrumMotion :=
  { d with
      state := .coast, purpose := some purpose, runOutput := false,
      forwardOff := if d.runOutput = true ∧ d.direction = .forward then now else d.forwardOff,
      reverseOff := if d.runOutput = true ∧ d.direction = .reverse then now else d.reverseOff,
      segmentSince := none, minimumRunDue := none, lockoutDue := none, accelDue := none, stallDue := none,
      quietDue := some (now + (match d.lastPeriod with
        | some t => max 10000 (t * 3 / 2)
        | none => 10000)),
      coastDue := some (now + coast) }

/-- What a stop leaves of a pocket's drum and window, with `coast` the coast time in ticks: from ACCEL and RUN a COAST with purpose
STOP and the window discarded; in COAST the purpose; from DWELL, STOPPED at once; in STOPPED nothing. But for the pending start
nothing else of the drum changes. -/
def DrumHalted (now coast : Ticks) (x y : PocketState) : Prop :=
  ((x.dmc.state = .accel ∨ x.dmc.state = .run) →
    y.dmc = { coastBegun .stop now coast x.dmc with pendingStart := y.dmc.pendingStart }
    ∧ y.rcu = { x.rcu with window := none, pulse := none })
  ∧ (x.dmc.state = .coast →
      y.dmc = { x.dmc with purpose := some .stop, pendingStart := y.dmc.pendingStart } ∧ y.rcu = x.rcu)
  ∧ (x.dmc.state = .dwell →
      y.dmc = { x.dmc with state := .stopped, purpose := none, dwellDue := none, pendingStart := y.dmc.pendingStart }
      ∧ y.rcu = x.rcu)
  ∧ (x.dmc.state = .stopped → y.dmc = { x.dmc with pendingStart := y.dmc.pendingStart } ∧ y.rcu = x.rcu)

/-- The coast time of a pocket in ticks. -/
def State.coastTicks (s : State) (p : Pocket) : Ticks := seconds (s.item p PocketItem.coastTime)

/-! ## Leaving a cycle state (R14, R20, R22) -/

/-- The state with other lists. -/
def State.relisted (gs : List Grant) (rs : List StageRequest) (s : State) : State :=
  { s with sa := { s.sa with grants := gs, requests := rs } }

/-- The allocator has evaluated without pocket `p` (R131, R139): `p`'s entries and its pending request out of the lists of `s`, the lists of
`t`, the other pocket and what the evaluation posted are those of the evaluation. Beside it `p`'s own part and the latches may differ. -/
def EvaluatedWithout (p : Pocket) (s t : State) : Prop :=
  ∃ x : State, x = s.relisted (s.sa.grants.filter (fun g => g.pocket ≠ p)) (s.sa.requests.filter (fun r => r.pocket ≠ p))
    ∧ OnlyPocketAndLatches p x.evaluate t ∧ ∀ q, (x.evaluate.port q).latch &&& (t.port q).latch = (x.evaluate.port q).latch

/-- The pocket has given its heat up (R139): no energized stage, no grant list entry, no pending request, L at 0 where an entry was lost
(R105), and the allocator has evaluated for the other pocket. -/
def HeatGivenUp (p : Pocket) (s t : State) : Prop :=
  (t.pocket p).hsc.energized = 0 ∧ t.granted p = 0 ∧ t.requestOf p = none
  ∧ (0 < s.granted p → (t.pocket p).hsc.level = 0) ∧ EvaluatedWithout p s t

/-- What every way out of a turning cycle does beside the cycle engine's own items: heat given up, the drum stopped with its pending
start cancelled, a dry notice on its way dropped, and with the segment's end in ACCEL or RUN an early reversal on its way. -/
def CycleLeft (p : Pocket) (s t : State) : Prop :=
  HeatGivenUp p s t ∧ DrumHalted s.now (s.coastTicks p) (s.pocket p) (t.pocket p) ∧ (t.pocket p).dmc.pendingStart = false
  ∧ (t.pocket p).me = { (s.pocket p).me with dryNotice := none }
  ∧ (t.pocket p).tm = { (s.pocket p).tm with
      reversalNotice := if (s.pocket p).dmc.state = .accel ∨ (s.pocket p).dmc.state = .run then false
        else (s.pocket p).tm.reversalNotice }
  ∧ OnlyPocketAndAccount p s t

/-- The entry to PAUSED (R14). -/
def EnteredPaused (cause : PauseCause) (p : Pocket) (s t : State) : Prop :=
  (t.pocket p).ce = { (s.pocket p).ce with
      state := .paused, pause := some (cause, s.now), purgeDue := some (s.now + seconds 30), provingDue := none, lossDue := none,
      phaseTicks := s.phaseTicks p, runSince := none }
  ∧ CycleLeft p s t ∧ SameRecords (s.pocket p) (t.pocket p) ∧ LatchesGain (.paused p) s t

/-- The entry to a wind-down, in WINDING_DOWN or in FAULTED, with its end reason (R20, R22); `x` holds the pocket before, `now` and
`ticks` the clock and the phase's ticks. -/
def WindDownBegun (state : CycleState) (reason : CycleEndReason) (now ticks : Ticks) (x y : PocketState) : Prop :=
  y.ce = { x.ce with
      state := state, endReason := some reason, windingDown := true, pause := none, purgeDue := none, provingDue := none,
      lossDue := none, runOnSince := some now, phaseTicks := ticks, runSince := none,
      closureDue :=
        if x.ce.blowerDemand then x.ce.closureDue else if x.lines.airfClosed then some (now + seconds 1) else none }

/-- The entry to WINDING_DOWN (R20). -/
def EnteredWindDown (reason : CycleEndReason) (p : Pocket) (s t : State) : Prop :=
  WindDownBegun .windingDown reason s.now (s.phaseTicks p) (s.pocket p) (t.pocket p) ∧ CycleLeft p s t
  ∧ SameRecords (s.pocket p) (t.pocket p) ∧ (∀ q, (s.port q).latch &&& (t.port q).latch = (s.port q).latch)

/-! ## Trips (R22) -/

/-- The cycle engine's response to a trip, by its state (R22). -/
def TripResponse (now ticks : Ticks) (x y : PocketState) : Prop :=
  match x.ce.state with
  | .proving | .running | .paused => WindDownBegun .faulted .fault now ticks x y
  | .windingDown => y.ce = { x.ce with state := .faulted, endReason := some .fault }
  | .faulted => y.ce = x.ce
  | .idle => y.ce = { x.ce with state := .faulted }

/-- A pocket takes a TRIP: the response of R22, from a cycle the drum stopped and the heat given up, and FAULT posted. -/
def Tripped (p : Pocket) (s t : State) : Prop :=
  TripResponse s.now (s.phaseTicks p) (s.pocket p) (t.pocket p)
  ∧ ((s.pocket p).ce.state.stoppable = true → CycleLeft p s t)
  ∧ ((s.pocket p).ce.state.stoppable = false →
      (t.pocket p).dmc = (s.pocket p).dmc ∧ (t.pocket p).rcu = (s.pocket p).rcu ∧ (t.pocket p).me = (s.pocket p).me
      ∧ (t.pocket p).tm = (s.pocket p).tm ∧ OnlyPocketAndLatches p s t)
  ∧ LatchesGain (.fault p) s t

/-- The lines, the buffers, the meter and the shed hold of a pocket stand. -/
def SameRecordsButFaults (x y : PocketState) : Prop :=
  y.lines = x.lines ∧ y.sb = x.sb ∧ y.meter = x.meter ∧ y.shedDue = x.shedDue

/-- What a fault list is after a report (R160 to R163): a repeat changes its record alone; a new record joins the tail while there
is room, or in the place of the oldest WARNING; of a full list of trips a HEATER_STUCK_ON alone takes the place of the head. -/
def ListTakes (phase : Option Nat) (now : Nat) (k : FaultKind) (detail : Option Nat) (f g : FaultList) : Prop :=
  let r : FaultRecord := { kind := k, phase := phase, first := now, last := now, count := 1,
                           detail := if hasDetail k then detail else none }
  if f.holds k then
    g.full = f.full ∧ g.records.length = f.records.length
    ∧ ∀ (i : Nat) (x : FaultRecord), f.records[i]? = some x →
        g.records[i]? = some (if x.kind = k then
          { x with last := now, count := min 255 (x.count + 1), detail := if hasDetail k then detail else x.detail } else x)
  else if f.records.length < 6 then g = { f with records := f.records ++ [r] }
  else if ∃ x ∈ f.records, isTrip x.kind = false then
    ∃ (before after : List FaultRecord) (w : FaultRecord), f.records = before ++ w :: after ∧ isTrip w.kind = false
      ∧ (∀ x ∈ before, isTrip x.kind = true) ∧ g = { f with records := before ++ after ++ [r] }
  else if k = .heaterStuckOn then g = { records := f.records.tail ++ [r], full := true }
  else g = { f with full := true }

/-! ## What a supply update carries (R145) -/

/-- The exhaust sample for a pocket. -/
def exhaustOf (r : Readings) : Pocket → Int
  | .A => r.exhaustA
  | .B => r.exhaustB

/-- The inlet sample for a pocket. -/
def inletOf (r : Readings) : Pocket → Int
  | .A => r.inletA
  | .B => r.inletB

/-- The current for a pocket; a reading above 10,000 is read as 10,000. -/
def currentOf (r : Readings) : Pocket → Nat
  | .A => min r.currentA 10000
  | .B => min r.currentB 10000

/-! ## E and its target (R108) -/

/-- E follows its target at the clock: it falls to a lower target at once, rises by one stage toward a higher one where the stage
interval since its last rise has passed, and stands otherwise. Nothing else of the heat stage controller changes. -/
def FollowsTarget (now interval : Ticks) (target : Nat) (x y : HeatStages) : Prop :=
  (target < x.energized → y = { x with energized := target, lastChange := now })
  ∧ (x.energized = target → y = x)
  ∧ (x.energized < target → (∃ t, x.lastRise = some t ∧ now < t + interval) → y = x)
  ∧ (x.energized < target → ¬ (∃ t, x.lastRise = some t ∧ now < t + interval) →
      y = { x with energized := x.energized + 1, lastRise := some now, lastChange := now })

/-- The stage interval of a pocket in ticks. -/
def State.stageTicks (s : State) (p : Pocket) : Ticks := seconds (s.item p PocketItem.stageInterval)

/-! ## An evaluation, move by move (R130 to R136) -/

/-- The grant list and the pending list. -/
abbrev Lists := List Grant × List StageRequest

/-- A stage of rating `w` fits beside a grant list (R130). -/
def FitsBeside (s : State) (gs : List Grant) (w : Nat) : Prop :=
  s.shared SharedItem.guard < s.ceiling ∧ s.committedOf gs + w ≤ s.ceiling - s.shared SharedItem.guard

/-- CRITICAL stands before HIGH, and HIGH before LOW (R124). -/
def classRank : PriorityClass → Nat
  | .critical => 0
  | .high => 1
  | .low => 2

/-- A class is higher than another. -/
def higherClass (c d : PriorityClass) : Prop := classRank c < classRank d

/-- Shedding takes an entry of pocket `p` (R135): it has one, and the other pocket has none, or is of a higher class, or is of the
same class and the most recently granted entry of all is one of `p`. -/
def ShedsFrom (s : State) (gs : List Grant) (p : Pocket) : Prop :=
  (∃ g ∈ gs, g.pocket = p)
  ∧ ((∀ g ∈ gs, g.pocket = p) ∨ higherClass (s.classOf (otherPocket p)) (s.classOf p)
      ∨ (s.classOf p = s.classOf (otherPocket p) ∧ ∃ g, gs.getLast? = some g ∧ g.pocket = p))

/-- A pocket loses its most recently granted entry, and its pending request with it (R134, R135, R136). -/
def EntryLost (p : Pocket) (a b : Lists) : Prop :=
  ∃ (before after : List Grant) (g : Grant), a.1 = before ++ g :: after ∧ g.pocket = p ∧ (∀ x ∈ after, x.pocket ≠ p)
    ∧ b.1 = before ++ after ∧ b.2 = a.2.filter (fun r => r.pocket ≠ p)

/-- The request served first (R133): of the highest class on the list, and of those the nearest to the head. -/
def ServedFirst (s : State) (rs : List StageRequest) (r : StageRequest) : Prop :=
  ∃ before after : List StageRequest, rs = before ++ r :: after
    ∧ (∀ q ∈ before, higherClass (s.classOf r.pocket) (s.classOf q.pocket))
    ∧ (∀ q ∈ after, ¬ higherClass (s.classOf q.pocket) (s.classOf r.pocket))

/-- One move of an evaluation: above the ceiling one entry is shed (R135); else the request served first is granted where it fits
(R133), and a CRITICAL one that does not fit takes one entry of the other pocket where that pocket's class is lower and the request
would fit without all its entries (R134). -/
def EvaluationMove (s : State) (a b : Lists) : Prop :=
  (s.ceiling < s.committedOf a.1 ∧ ∃ p, ShedsFrom s a.1 p ∧ EntryLost p a b)
  ∨ (s.committedOf a.1 ≤ s.ceiling ∧ ∃ r, ServedFirst s a.2 r
      ∧ ((FitsBeside s a.1 (s.rating r.pocket r.stage)
            ∧ b = (a.1 ++ [{ pocket := r.pocket, stage := r.stage, rating := s.rating r.pocket r.stage }],
                   a.2.filter (fun q => q.pocket ≠ r.pocket)))
        ∨ (¬ FitsBeside s a.1 (s.rating r.pocket r.stage) ∧ s.classOf r.pocket = .critical
            ∧ s.classOf (otherPocket r.pocket) ≠ .critical
            ∧ FitsBeside s (a.1.filter (fun g => g.pocket = r.pocket)) (s.rating r.pocket r.stage)
            ∧ EntryLost (otherPocket r.pocket) a b)))

/-- `n` moves of an evaluation, one after another. -/
def EvaluationMoves (s : State) : Nat → Lists → Lists → Prop
  | 0, a, b => a = b
  | n + 1, a, b => ∃ c, EvaluationMove s a c ∧ EvaluationMoves s n c b

/-- The release hold of a pocket in ticks. -/
def State.holdTicks (s : State) (p : Pocket) : Ticks := seconds (s.item p PocketItem.releaseHold)

/-- A release hold has run out at the clock, and no grant holds its request back (R106). -/
def HoldRanOut (now holdTicks : Ticks) (x : HeatStages) : Prop :=
  (∃ t, x.holdSince = some t ∧ t + holdTicks ≤ now) ∧ x.freshGrant = false

/-- A heat stage controller told that its granted count went from `g` to `h` (R105, R106, R140): a loss lowers L to it and E to its
target at once, a gain leaves both and is a fresh grant, and in both the release hold is considered afresh. A hold that has run out
by a loss and runs on over it has asked for the stage `g` that has gone. -/
def ToldOfGrants (now holdTicks : Ticks) (target g h : Nat) (x y : HeatStages) : Prop :=
  let hold := if h ≤ x.level then none else if x.holdSince = none then some now else x.holdSince
  (h = g → y = x)
  ∧ (g < h → y = { x with
      freshGrant := true, holdSince := hold,
      askedStage := if h ≤ x.level ∨ x.holdSince = none then none else x.askedStage })
  ∧ (h < g →
      y = { x with
        level := min x.level h, lastLevelChange := if h < x.level then some now else x.lastLevelChange, holdSince := hold,
        energized := min x.energized target, lastChange := if target < x.energized then now else x.lastChange,
        askedStage := y.askedStage }
      ∧ ((h ≤ x.level ∨ x.holdSince = none) → y.askedStage = none)
      ∧ (x.level < h → HoldRanOut now holdTicks x → x.askedStage = none → y.askedStage = some g)
      ∧ (x.level < h → x.holdSince ≠ none → ¬ (HoldRanOut now holdTicks x ∧ x.askedStage = none) →
          y.askedStage = x.askedStage))

/-- A pocket's pending request is withdrawn and the allocator evaluates; without one nothing happens (R136). -/
def Withdrawn (p : Pocket) (s t : State) : Prop :=
  (s.requestOf p = none → t = s)
  ∧ (s.requestOf p ≠ none → t = (s.relisted s.sa.grants (s.sa.requests.filter (fun r => r.pocket ≠ p))).evaluate)

/-- An effective cap has been handed to the allocator (R101, R138): below the granted count the entries above it and the pending
request leave the lists, L falls to the count left, and the allocator evaluates; at the granted count a pending request is withdrawn
with an evaluation; otherwise the lists, the level and the other pocket stand. -/
def CapHanded (p : Pocket) (s t : State) : Prop :=
  let without : List StageRequest := s.sa.requests.filter (fun r => r.pocket ≠ p)
  (t.effectiveCap p < s.granted p →
    ∃ x : State, t = x.evaluate ∧ x.pocket (otherPocket p) = s.pocket (otherPocket p)
      ∧ x.sa = { s.sa with grants := s.sa.grants.filter (fun g => g.pocket ≠ p ∨ g.stage ≤ t.effectiveCap p),
                           requests := without }
      ∧ (x.pocket p).hsc.level =
          if x.granted p < s.granted p then min (s.pocket p).hsc.level (x.granted p) else (s.pocket p).hsc.level)
  ∧ (t.effectiveCap p = s.granted p → s.requestOf p ≠ none →
      ∃ x : State, t = x.evaluate ∧ x.pocket (otherPocket p) = s.pocket (otherPocket p)
        ∧ x.sa = { s.sa with requests := without } ∧ (x.pocket p).hsc.level = (s.pocket p).hsc.level)
  ∧ ((s.granted p < t.effectiveCap p ∨ (t.effectiveCap p = s.granted p ∧ s.requestOf p = none)) →
      t.sa = s.sa ∧ (t.pocket p).hsc.level = (s.pocket p).hsc.level ∧ t.pocket (otherPocket p) = s.pocket (otherPocket p))

/-! ## Sample buffers that become READY (R185) -/

/-- A buffer becomes READY with the records it holds: the flush timer goes idle, the other buffer becomes FILLING if it is FREE, and
the buffer that became READY first is the older one. -/
def MadeReady (n : BufferName) (x y : SampleBuffers) : Prop :=
  y.buffer n = { x.buffer n with state := .ready } ∧ y.flushDue = none ∧ y.overrun = x.overrun
  ∧ ((x.buffer n.other).state = .free → y.buffer n.other = { x.buffer n.other with state := .filling })
  ∧ ((x.buffer n.other).state ≠ .free → y.buffer n.other = x.buffer n.other)
  ∧ ((x.buffer n.other).state = .ready → y.olderReady = n.other)
  ∧ ((x.buffer n.other).state ≠ .ready → y.olderReady = n)

/-! ## Phases (R10, R13) -/

/-- The taper cap of an entry beside a dryness index (R82, R83). -/
def taperBeside (margin : Nat) (e : PhaseEntry) : Option Nat → Option Nat
  | some i => if e.kind = .heatDry ∧ 0 < margin ∧ e.dryness ≤ i + margin then some (max 1 (e.stageCap - 1)) else none
  | none => none

/-- A phase of a pocket has started at the clock (R10), with the cycle engine otherwise as `c`: elapsed time 0, the whole seconds of
the running time so far kept (notes/assumptions/9.md), the overcurrent count 0, the dry hold counter 0 for a HEAT_DRY phase, the last A
absent for a phase that is no heat phase (R84), and the taper against the new entry (R83). A phase that is no heat phase gives its heat
up; a heat phase keeps its grants up to the new effective cap (R138). The drum turns on. -/
def PhaseStarted (p : Pocket) (c : CycleEngine) (s t : State) : Prop :=
  (t.pocket p).ce = { c with earlierSeconds := s.totalRunning p, phaseTicks := 0, runSince := some s.now, begun := true }
  ∧ (t.pocket p).hsc.overCount = 0
  ∧ (∃ e, c.entry = some e
      ∧ (t.pocket p).me = { (s.pocket p).me with
          taperCap := taperBeside (s.item p PocketItem.taperMargin) e (s.pocket p).me.index,
          hold := if e.kind = .heatDry then 0 else (s.pocket p).me.hold,
          lastA := if e.kind = .heatTimed ∨ e.kind = .heatDry then (s.pocket p).me.lastA else none,
          dryNotice := none }
      ∧ ((e.kind = .cool ∨ e.kind = .tumble) → HeatGivenUp p s t)
      ∧ ((e.kind = .heatTimed ∨ e.kind = .heatDry) → CapHanded p s t))
  ∧ (t.pocket p).dmc = (s.pocket p).dmc ∧ (t.pocket p).rcu = (s.pocket p).rcu ∧ (t.pocket p).tm = (s.pocket p).tm
  ∧ SameRecords (s.pocket p) (t.pocket p) ∧ OnlyPocketAndAccount p s t

/-- The cycle engine's items of R13 at the end of a phase: index `i`, entry `e`. -/
def phaseCounted (i : Nat) (e : PhaseEntry) (reason : PhaseEndReason) (c : CycleEngine) : CycleEngine :=
  { c with phasesCompleted := c.phasesCompleted + 1, lastPhaseEnd := some (i, reason),
           lastDryEnd := if e.kind = .heatDry then some reason else c.lastDryEnd,
           hotExit := c.hotExit || decide (e.kind = .cool ∧ reason = .time) }

/-- A phase has ended with a reason (R13): counted and posted, then the next entry starts or the wind-down begins with reason
COMPLETE. -/
def PhaseEnded (i : Nat) (e : PhaseEntry) (reason : PhaseEndReason) (p : Pocket) (s t : State) : Prop :=
  LatchesGain (.phaseEnd p) s t
  ∧ (i < (s.pocket p).ce.program.length →
      PhaseStarted p { phaseCounted i e reason (s.pocket p).ce with index := some (i + 1) } s t)
  ∧ ((s.pocket p).ce.program.length ≤ i →
      WindDownBegun .windingDown .complete s.now (s.phaseTicks p)
        { s.pocket p with ce := phaseCounted i e reason (s.pocket p).ce } (t.pocket p)
      ∧ CycleLeft p s t ∧ SameRecords (s.pocket p) (t.pocket p))

end Sys2Proof.Machine
end

