-- ==== Sys2Proof/Certificates/Slice0/Obligations.lean ====
section
/-! DEFINITION. The statements for the provers, from the numbered rules of spec/. A statement of what a command does gives the next
state for every state and operands that meet its hypotheses, with what the command leaves alone; the names of the frames stand in
Safety.lean. -/

open Sys2Proof Sys2Proof.Machine

/-! ## The machine -/

/-- O1. A step takes the command at the front of the queue and runs it with the queue's rest (notes/assumptions/1.md). -/
def Obligations.StepRunsTheFrontCommand : Prop :=
  ∀ (c : Instr) (cs : List Instr) (s : State), step { s with pending := c :: cs } = exec c { s with pending := cs }

/-- O2. The model's choice for an empty queue (notes/assumptions/1.md, 16.md, 25.md): at work, what has fallen due is done, the
earliest first; while nothing has fallen due the clock waits for a reading that is due, or one tick passes; during the profile load
the time base runs; in reset and without power nothing happens. -/
def Obligations.EmptyQueueWorksByTheClock : Prop :=
  ∀ s : State, s.pending = [] →
    ((s.mode = .off ∨ s.mode = .held) → step s = .next s)
    ∧ (s.mode = .loading → step s = .next (s.elapse 1))
    ∧ (s.mode = .operating → (∀ e ∈ s.due, s.now < e.1) →
        step s = .next (if s.waitsForReading then s else s.elapse 1))
    ∧ (s.mode = .operating → (∃ e ∈ s.due, e.1 ≤ s.now) →
        ∃ d ∈ s.due, (∀ e ∈ s.due, d.1 ≤ e.1) ∧ step s = exec d.2 s)

/-- O3. The state right after reset meets every invariant of Safety.lean, and its profile is in range and jointly valid (R192,
R194; the values are those of R26, R47, R64, R85, R98, R120, R144, R156, R173, R184 and R185; the lines' levels, the store's contents
and the items no rule names are the model's choice, notes/assumptions/5.md, 6.md, 26.md). -/
def Obligations.ResetStateIsSound : Prop :=
  HeatAllowed State.reset ∧ AccountHolds State.reset ∧ LevelsHold State.reset ∧ LockoutKept State.reset ∧ FaultsAgree State.reset
  ∧ BuffersHold State.reset ∧ PortsHold State.reset
  ∧ State.reset.ps.profile.inRange = true ∧ State.reset.ps.profile.jointlyValid = true

/-! ## Reset, start-up and the store (R196 to R200) -/

/-- The blocks at their start-up values, with every output line deasserted; the store's image and check, the lines and the queue
stand. -/
def BlocksCleared (s t : State) : Prop :=
  (∀ p, t.pocket p = .startUp (s.pocket p).lines ∧ t.outputsOff p)
  ∧ (∀ q, t.port q = .silent q ∧ (t.port q).attn = false ∧ (t.port q).directionLine = false)
  ∧ t.sa = .startUp ∧ t.sm = .startUp ∧ t.now = 0 ∧ t.loadedAt = 0 ∧ t.pending = s.pending ∧ t.levelLines = s.levelLines
  ∧ t.ps.image = s.ps.image ∧ t.ps.check = s.ps.check ∧ t.ps.saving = false ∧ t.ps.lastSave = none

/-- RESET and the loss of power take every block to its start-up values and deassert every output; the store alone is kept
(R199). -/
def ResetAndPowerLossClearTheBlocks : Prop :=
  ∀ s : State,
    (∃ t, exec .resetAssert s = .next t ∧ t.mode = .held ∧ BlocksCleared s t)
    ∧ (∃ t, exec .powerLoss s = .next t ∧ t.mode = .off ∧ BlocksCleared s t)

/-- At the release of RESET the working profile is loaded: the stored image where the store's check passes, every default with
STORE_INVALID and the unsaved flag where it fails (R199), with the three conditions of a passing check (R196). -/
def ReleaseLoadsTheProfile : Prop :=
  ∀ s : State, s.mode = .held →
    ∃ t, exec .resetRelease s = .next t ∧ t.mode = .loading ∧ BlocksCleared s t
    ∧ ((s.ps.check = checkOf s.ps.image.bytes ∧ s.ps.image.inRange = true ∧ s.ps.image.jointlyValid = true) →
        t.ps.profile = s.ps.image ∧ t.ps.storeInvalid = false ∧ t.ps.unsaved = false)
    ∧ (¬ (s.ps.check = checkOf s.ps.image.bytes ∧ s.ps.image.inRange = true ∧ s.ps.image.jointlyValid = true) →
        t.ps.profile = defaultProfile ∧ t.ps.storeInvalid = true ∧ t.ps.unsaved = true)

/-- O4. RESET, the loss of power and the release of RESET (R199): every block at its start-up values and every output deasserted, the
store kept, and the working profile loaded from it at the release. The model's choices in this: RESET is taken from any mode, power
off included (notes/assumptions/6.md), the clock stands at 0 after each of the three (7.md), the lockout and the settle time run from
the release (24.md), and the items that no rule names, such as the end reason and the latched pattern, have the values of 26.md. -/
def Obligations.ResetClearsAndReleaseLoads : Prop := ResetAndPowerLossClearTheBlocks ∧ ReleaseLoadsTheProfile

/-- O5. The end of the profile load (R200, R184): the ports hear, each latch holds RESTARTED, alone where the first sample is in the
sense range and HLIM is closed in both pockets; SAFE is asserted; the stability timer and the meter's rhythms run from that moment; the
first voltage sample is taken and the condition stays LOW; the ceiling is 0 W; an open HLIM is reported as HIGH_LIMIT, and a closed one
leaves the list empty and the pocket IDLE. Everything else is as start-up leaves it: the drum, the revolution counter, the estimator,
the tangle monitor, the buffers, the meters, the grants and the requests. That the events of a first sample out of range and of an open
HLIM join RESTARTED is the model's choice (notes/assumptions/36.md). -/
def Obligations.LoadDoneOpensTheController : Prop :=
  ∀ (cs : List Instr) (la lb : PocketLines) (level vsup v : Nat) (f : ProfileStore) (n : Ticks) (s : State),
    s = { State.startUp cs .loading la lb level f with now := n } → v = min vsup 6000 →
    ∃ t, exec (.profileLoadDone vsup) s = .next t ∧ t.mode = .operating ∧ t.now = n ∧ t.loadedAt = n ∧ t.secondsCount = 0 ∧ t.ps = f
    ∧ t.pending = cs ∧ t.levelLines = level
    ∧ (∀ q, t.port q = { s.port q with
          receiver := .hunt, mask := defaultMask q, reply := none, latch := (t.port q).latch }
        ∧ EventKind.restarted.set &&& (t.port q).latch = EventKind.restarted.set ∧ (t.port q).attn = true
        ∧ (0 < v → v < 6000 → la.hlimClosed = true → lb.hlimClosed = true → (t.port q).latch = EventKind.restarted.set))
    ∧ t.sm = { s.sm with
        sample := some v, held := if v = 0 ∨ v = 6000 then none else some v, senseFault := decide (v = 0 ∨ v = 6000),
        lowRun := t.sm.lowRun, highRun := t.sm.highRun, bandRun := t.sm.bandRun,
        nextSample := n + millis 50, nextUpdate := n + millis 250 }
    ∧ t.sm.condition = .low
    ∧ t.sa = { s.sa with stabilityDue := some (n + millis 500) } ∧ t.levelInForce = none ∧ t.ceiling = 0
    ∧ ∀ p, t.pocket p = { s.pocket p with
          hsc := { (s.pocket p).hsc with safe := true }, fl := (t.pocket p).fl, ce := (t.pocket p).ce }
        ∧ ((s.pocket p).lines.hlimClosed = true → (t.pocket p).fl = .startUp ∧ (t.pocket p).ce = .startUp)
        ∧ ((s.pocket p).lines.hlimClosed = false →
            (t.pocket p).fl.records.map (·.kind) = [.highLimit] ∧ (t.pocket p).ce = { CycleEngine.startUp with state := .faulted })

/-- O6. A save (R197, R198): SAVE_PROFILE outside SAVING begins it with the stored check failing, in SAVING it is BUSY; its end
writes the working profile as the image, with a passing check and STORE_INVALID absent where the read-back matches, and a failing
check, STORE_INVALID present and the unsaved flag set where it does not; SAVE_DONE is posted, also while port S is REPLYING. That the
old image stands during SAVING, and that the image becomes the working profile for both results, is the model's choice
(notes/assumptions/22.md). -/
def Obligations.SaveRunsAndEnds : Prop :=
  ∀ (s : State) (tag : Byte) (matched : Bool),
    (s.hears .S → s.ps.saving = true → exec (.saveProfile .S tag []) s = .next (s.answered .S 0x64#8 tag .busy []))
    ∧ (s.hears .S → s.ps.saving = false →
        ∃ f, exec (.saveProfile .S tag []) s = .next ({ s with ps := f }.answered .S 0x64#8 tag .ok [])
          ∧ f = { s.ps with saving := true, check := f.check } ∧ f.checkPasses = false)
    ∧ (s.mode = .operating → s.ps.saving = true →
        ∃ f, exec (.saveDone matched) s = .next ({ s with ps := f }.post .saveDone)
          ∧ f = { s.ps with saving := false, image := s.ps.profile, check := f.check, unsaved := !matched,
                            storeInvalid := !matched, lastSave := some (if matched then .ok else .storeError) }
          ∧ (matched = true → f.check = checkOf f.image.bytes) ∧ (matched = false → f.checkPasses = false))

/-! ## The links (R175 to R184) -/

/-- The port after characters that came to nothing: only the time of the last character moves. -/
def Stamped (q : Port) (s : State) : State := s.setPort q { s.port q with lastCharacter := s.now }

/-- O7. A frame written as R175 and section 10.7 say, of any code, tag and payload of up to 240 bytes, brings its port in HUNT to the
receiver's CHECK state with that code, tag and payload as the body, and the second check byte takes the request (R176, R177): a known
code as its request, any other as an unknown one. That the request is taken inside the bytes received, without the time of a
character, is the model's choice (notes/assumptions/13.md). -/
def Obligations.WellFormedFrameIsTaken : Prop :=
  ∀ (q : Port) (s : State) (code tag : Byte) (payload : List Byte),
    s.hears q → (s.port q).receiver = .hunt → payload.length ≤ 240 →
    ∃ (check : CheckWord) (high : Byte) (u : State),
      s.receive q (requestFrame code tag payload) = u.setPort q { u.port q with lastCharacter := u.now }
      ∧ (∀ r, requestOfCode code = some r →
          u = (s.setReceiver q (.check (code :: tag :: payload) check (some high))).request r q tag payload)
      ∧ (requestOfCode code = none →
          u = (s.setReceiver q (.check (code :: tag :: payload) check (some high))).unknownRequest q code tag)

/-- O8. A discarded frame leaves no trace (R176): with a wrong check, with a length byte outside 2..242, cut short at any place by a
character error or by a gap of 3 ms. The receiver is in HUNT again, and nothing else has changed but the time of the last
character and, for the gap, the clock. In HUNT an error or a gap alone does nothing.
The clock stands at the expiry of a timer whose command comes (the model's choice, notes/assumptions/2.md). -/
def Obligations.DiscardedFramesLeaveNoTrace : Prop :=
  ∀ (q : Port) (s : State) (code tag : Byte) (payload : List Byte),
    s.hears q → (s.port q).receiver = .hunt → payload.length ≤ 240 →
    (∀ w : CheckWord, w ≠ checkOf (requestChecked code tag payload) →
      exec (.frameCheckFail q ([0x7E#8] ++ requestChecked code tag payload ++ be2 w.toNat)) s = .next (Stamped q s))
    ∧ (∀ b : Byte, (b.toNat < 2 ∨ 242 < b.toNat) → exec (.frameLengthInvalid q [0x7E#8, b]) s = .next (Stamped q s))
    ∧ (∀ n, 1 ≤ n → n < (requestFrame code tag payload).length →
      exec (.characterError q ((requestFrame code tag payload).take n)) s = .next (Stamped q s)
      ∧ exec (.frameGapTimeout q ((requestFrame code tag payload).take n)) s = .next ((Stamped q s).reach (s.now + millis 3)))
    ∧ exec (.characterError q []) s = .next s ∧ exec (.frameGapTimeout q []) s = .next s

/-- REPLY_DONE at a port of the controller at work (R177): with a reply held the port leaves REPLYING, its receiver enters HUNT, and
nothing else changes; without one nothing does. -/
def RepliesEnd : Prop :=
  ∀ (q : Port) (s : State), s.mode = .operating →
    ((s.port q).reply ≠ none → exec (.replyDone q) s = .next (s.setPort q { s.port q with receiver := .hunt, reply := none }))
    ∧ ((s.port q).reply = none → exec (.replyDone q) s = .next s)

/-- A request that a port hears puts it into REPLYING, where every further request is lost (R177, R178). -/
def RequestsAreTakenOneByOne : Prop :=
  ∀ (r : Request) (q : Port) (tag : Byte) (payload : List Byte) (s : State), s.hears q →
    ∃ (u : State) (reply : Reply), exec (r.command q tag payload) s = .next u
      ∧ (u.port q).reply = some reply ∧ reply.code = r.code ||| 0x80#8 ∧ reply.tag = tag
      ∧ (reply.status ≠ .ok → reply.payload = []) ∧ (u.port q).receiver = .off ∧ (u.port q).directionLine = true
      ∧ (∀ (r₂ : Request) (tag₂ : Byte) (payload₂ : List Byte), exec (r₂.command q tag₂ payload₂) u = .next u)
      ∧ (∀ code₂ tag₂ payload₂, exec (.unknownCode q code₂ tag₂ payload₂) u = .next u)
      ∧ exec (.replyDone q) u = .next (u.setPort q { u.port q with receiver := .hunt, reply := none })

/-- O9. A port answers one request at a time (R177, R178): a request that the port hears puts it into REPLYING, with its code's top
bit set, its tag, and an empty payload unless the status is OK; until REPLY_DONE every further request to that port is lost, and
REPLY_DONE, in every state at work with a reply held, brings the receiver to HUNT and changes nothing else; without a reply it does
nothing (the model's reading, notes/assumptions/4.md). That the direction line is asserted from the taking of the request on is its
reading of R177 (12.md). -/
def Obligations.OneRequestAtATime : Prop := RequestsAreTakenOneByOne ∧ RepliesEnd

/-- The first five checks of R178: what they refuse changes nothing but the port. -/
def LinkRefusals : Prop :=
  ∀ (q : Port) (tag : Byte) (payload : List Byte) (s : State), s.hears q →
    (∀ code, exec (.unknownCode q code tag payload) s = .next (s.answered q code tag .unknown []))
    ∧ ∀ r : Request,
      (r.lengthFits payload = false → exec (r.command q tag payload) s = .next (s.answered q r.code tag .length []))
      ∧ (r.lengthFits payload = true → r.portMay q = false →
          exec (r.command q tag payload) s = .next (s.answered q r.code tag .denied []))
      ∧ (r.lengthFits payload = true → r.portMay q = true → r.namesPocket = true → 2 ≤ byteAt payload 0 →
          exec (r.command q tag payload) s = .next (s.answered q r.code tag .range []))
      ∧ (∀ own p, r.lengthFits payload = true → r.ownOnly = true → ownPocket q = some own → byteAt payload 0 = pocketCode p →
          p ≠ own → exec (r.command q tag payload) s = .next (s.answered q r.code tag .denied []))

/-- The table of R179 but for START: request, code, payload length, ports, and whether the first payload byte names a pocket. -/
def requestTable : List (Request × Byte × Nat × List Port × Bool) :=
  [(.pause, 0x11#8, 0, [.A, .B], false), (.resume, 0x12#8, 0, [.A, .B], false), (.stop, 0x13#8, 1, [.A, .B], false),
   (.addTime, 0x14#8, 1, [.A, .B], false), (.halt, 0x20#8, 1, [.S], true), (.shed, 0x21#8, 2, [.S], true),
   (.restore, 0x22#8, 1, [.S], true), (.fetchSamples, 0x30#8, 1, [.A, .B, .S], true),
   (.clearFault, 0x31#8, 1, [.A, .B, .S], true), (.readPocket, 0x40#8, 1, [.A, .B, .S], true),
   (.readFaults, 0x41#8, 1, [.A, .B, .S], true), (.readSupply, 0x42#8, 0, [.A, .B, .S], false),
   (.readMeter, 0x43#8, 0, [.A, .B, .S], false), (.readProfile, 0x44#8, 2, [.A, .B, .S], false),
   (.readEvents, 0x50#8, 0, [.A, .B, .S], false), (.setEventMask, 0x51#8, 3, [.A, .B, .S], false),
   (.setLevel, 0x60#8, 1, [.S], false), (.writeCeiling, 0x61#8, 5, [.S], false), (.setClass, 0x62#8, 2, [.S], true),
   (.writeProfile, 0x63#8, 6, [.S], false), (.saveProfile, 0x64#8, 0, [.S], false)]

/-- The codes, payload lengths, ports and pocket bytes of the requests are those of R179, and no other code is known. -/
def RequestsAreThoseOfTheTable : Prop :=
  (∀ r code length ports names, (r, code, length, ports, names) ∈ requestTable →
    r.code = code ∧ requestOfCode code = some r ∧ r.namesPocket = names
    ∧ (∀ payload, r.lengthFits payload = true ↔ payload.length = length) ∧ (∀ q, r.portMay q = true ↔ q ∈ ports)
    ∧ (r.ownOnly = true ↔ r = .fetchSamples ∨ r = .clearFault))
  ∧ (∀ r, r ≠ .start → ∃ code length ports names, (r, code, length, ports, names) ∈ requestTable)
  ∧ Request.start.code = 0x10#8 ∧ requestOfCode 0x10#8 = some .start ∧ Request.start.namesPocket = false
  ∧ (∀ payload, Request.start.lengthFits payload = true ↔
      9 ≤ payload.length ∧ payload.length ≤ 65 ∧ payload.length = 1 + 8 * byteAt payload 0)
  ∧ (∀ q, Request.start.portMay q = true ↔ q = .A ∨ q = .B)
  ∧ (∀ code, code ≠ 0x10#8 → (∀ row ∈ requestTable, row.2.1 ≠ code) → requestOfCode code = none)

/-- O10. The first five checks of R178, in their order: what they refuse reaches no block and changes nothing but the port, which
answers UNKNOWN, LENGTH, DENIED, RANGE or DENIED with an empty payload. The codes, lengths and ports they go by are those of R179. -/
def Obligations.LinkRefusalsChangeNothing : Prop := LinkRefusals ∧ RequestsAreThoseOfTheTable

/-- READ_POCKET changes nothing but its port and answers the whole pocket status record of R191: 116 + 8n bytes for a program of n
entries, with the items named here at the bytes the table of R191 gives them; the last retry cause is 0xFF while the restart attempt
count is 0 (R47). The whole record rests on these choices of the model: the places of a few items (notes/assumptions/11.md), whole
seconds, truncated (23.md), byte 83 in a COOL or TUMBLE phase (37.md) and byte 56 before the first supply update (39.md). -/
def ReadPocketReportsTheStatus : Prop :=
  ∀ (q : Port) (tag : Byte) (p : Pocket) (s : State), s.hears q → (s.pocket p).ce.program.length ≤ 8 →
    ∃ b : List Byte,
      exec (.readPocket q tag (be1 (pocketCode p))) s = .next (s.answered q 0x40#8 tag .ok b) ∧ b = s.pocketStatus p
      ∧ b.length = 116 + 8 * (s.pocket p).ce.program.length
      ∧ byteAt b 0 = pocketCode p ∧ byteAt b 1 = cycleStateCode (s.pocket p).ce.state
      ∧ (b.drop 4).take 2 = be2 (s.phaseElapsed p) ∧ (b.drop 11).take 4 = be4 (s.timeRemaining p)
      ∧ (b.drop 15).take 14 = resultBytes (s.pocket p).ce.result
      ∧ byteAt b 29 = motionCode (s.pocket p).dmc.state ∧ byteAt b 30 = directionCode (s.pocket p).dmc.direction
      ∧ byteAt b 35 = (s.pocket p).dmc.restartCount % 256 ∧ ((s.pocket p).dmc.restartCount = 0 → byteAt b 36 = 255)
      ∧ (∀ c, (s.pocket p).dmc.restartCount ≠ 0 → (s.pocket p).dmc.lastRetry = some c → byteAt b 36 = retryCode c)
      ∧ byteAt b 37 = (s.pocket p).dmc.reversalCount % 256 ∧ byteAt b 39 = (s.pocket p).rcu.segmentRecords % 256
      ∧ byteAt b 51 = (s.pocket p).rcu.slipRun % 256 ∧ (b.drop 58).take 2 = be2 ((s.pocket p).me.index.getD 65535)
      ∧ byteAt b 66 = (s.pocket p).me.hold % 256
      ∧ byteAt b 69 = (s.pocket p).tm.score % 256 ∧ byteAt b 79 = (s.pocket p).hsc.level % 256
      ∧ byteAt b 80 = (s.pocket p).hsc.energized % 256 ∧ byteAt b 81 = s.effectiveCap p % 256
      ∧ byteAt b 82 = s.stageCount p % 256 ∧ byteAt b 84 = s.failingInterlocks p ∧ byteAt b 86 = (s.pocket p).hsc.overCount % 256
      ∧ byteAt b 94 = s.granted p % 256 ∧ (b.drop 106).take 4 = be4 (s.pocket p).meter.cycleEnergy
      ∧ byteAt b 110 = (s.pocket p).fl.records.length % 256 ∧ byteAt b 111 = (s.pocket p).fl.trips % 256
      ∧ byteAt b 115 = (s.pocket p).ce.program.length
      ∧ b.drop 116 = (s.pocket p).ce.program.flatMap encodeEntry

/-- The other reads change nothing but their port and answer with the whole of their items: READ_FAULTS those of R170 for each
record, oldest first, READ_SUPPLY those of R143, READ_METER those of R155, READ_PROFILE those of R195, with RANGE for a number that
names no item. Where the items stand in these four replies (notes/assumptions/11.md), the whole seconds, truncated, that they report
(23.md), and that READ_METER shows a written threshold, hysteresis or phase factor at once (40.md) are the model's choices. -/
def ReadsReportAndChangeNothing : Prop :=
  ∀ (q : Port) (tag : Byte) (s : State), s.hears q →
    (∀ p, ∃ b : List Byte,
      exec (.readFaults q tag (be1 (pocketCode p))) s = .next (s.answered q 0x41#8 tag .ok b) ∧ b = s.faultsReport p
      ∧ b.length = 8 + 16 * (s.pocket p).fl.records.length ∧ b.take 4 = be4 s.secondsCount
      ∧ (b.drop 4).take 2 = flagByte (s.pocket p).fl.full ++ be1 (s.pocket p).fl.records.length
      ∧ (b.drop 6).take (16 * (s.pocket p).fl.records.length) = (s.pocket p).fl.records.flatMap (s.faultBytes p)
      ∧ b.drop (b.length - 2) = flagByte s.ps.storeInvalid ++ flagByte s.sm.senseFault)
    ∧ (∃ b : List Byte, exec (.readSupply q tag []) s = .next (s.answered q 0x42#8 tag .ok b) ∧ b = s.supplyReport
      ∧ b.length = 71 + 4 * s.sa.grants.length + 6 * s.sa.requests.length ∧ b.take 1 = be1 s.levelLines
      ∧ (b.drop 8).take 4 = be4 s.ceiling ∧ (b.drop 49).take 4 = be4 s.committed
      ∧ (b.drop 58).take (4 * s.sa.grants.length) = s.sa.grants.flatMap grantBytes)
    ∧ (∃ b : List Byte, exec (.readMeter q tag []) s = .next (s.answered q 0x43#8 tag .ok b) ∧ b = s.meterReport
      ∧ b.length = 60 ∧ b.take 2 = be2 (s.sm.sample.getD 0)
      ∧ (b.drop 33).take 20 = energyBytes s.a.meter ++ energyBytes s.b.meter)
    ∧ (∀ number, number < 65536 →
        (itemRow? number = none →
          exec (.readProfile q tag (be2 number)) s = .next (s.answered q 0x44#8 tag .range []))
        ∧ (∀ row, itemRow? number = some row →
          ∃ b : List Byte, exec (.readProfile q tag (be2 number)) s = .next (s.answered q 0x44#8 tag .ok b)
            ∧ b = s.profileReport row
            ∧ b.length = 23 ∧ b.take 6 = be2 number ++ be4 (s.shared number) ∧ (b.drop 6).take 4 = be4 row.default
            ∧ (b.drop 10).take 8 = be4 row.least ++ be4 row.greatest))

/-- O11. The five reads (R191, R170, R143, R155, R195): each changes nothing but its port and answers with the state as it stands,
as a whole payload. What in these payloads is the model's choice and no rule: the places of the items in the four replies without a
layout and of a few items of READ_POCKET (notes/assumptions/11.md), times in whole seconds, truncated (23.md), byte 83 of the pocket
status, the stage cap, in a COOL or TUMBLE phase (37.md), its byte 56 before the first supply update (39.md), and that READ_METER shows
a written threshold, hysteresis or phase factor at once (40.md). -/
def Obligations.ReadsAnswerWithTheState : Prop := ReadPocketReportsTheStatus ∧ ReadsReportAndChangeNothing

/-- O12. READ_EVENTS (R182): the reply is the latch as it stands and the latch is emptied in the same step, so that ATTN falls; a
kind posted before the read is in the reply and gone from the latch, a kind posted after it enters the emptied latch and raises
ATTN. It is answered while the profile store is SAVING. -/
def Obligations.ReadEventsEmptiesTheLatch : Prop :=
  ∀ (q : Port) (tag : Byte) (s : State), s.hears q →
    ∃ u, exec (.readEvents q tag []) s = .next u
      ∧ u = (s.setPort q { s.port q with latch := 0#24 }).answered q 0x50#8 tag .ok (be3 (s.port q).latch.toNat)
      ∧ (u.port q).attn = false
      ∧ ∀ k : EventKind, k.set &&& admitted (s.port q).mask = k.set →
          ((u.post k).port q).latch = k.set ∧ ((u.post k).port q).attn = true
          ∧ ∃ v, exec (.readEvents q tag []) (s.post k) = .next v ∧ (v.port q).latch = 0#24 ∧ (v.port q).attn = false
            ∧ ∃ reply, (v.port q).reply = some reply ∧ reply.payload = be3 ((s.port q).latch ||| k.set).toNat

/-- O13. SET_EVENT_MASK (R183): a set with any of bits 18 to 23 is RANGE and changes nothing; any other replaces the mask, and kinds
that it does not admit leave the latch, RESTARTED never; the reply carries the mask and the latch so left; a later post is filtered
by the new mask. -/
def Obligations.SetEventMaskFiltersTheLatch : Prop :=
  ∀ (q : Port) (tag : Byte) (set : EventSet) (s : State), s.hears q →
    (262144 ≤ set.toNat →
      exec (.setEventMask q tag (be3 set.toNat)) s = .next (s.answered q 0x51#8 tag .range []))
    ∧ (set.toNat < 262144 →
      ∃ latch, exec (.setEventMask q tag (be3 set.toNat)) s =
          .next ((s.setPort q { s.port q with mask := set, latch := latch }).answered q 0x51#8 tag .ok
            (be3 set.toNat ++ be3 latch.toNat))
        ∧ latch = (s.port q).latch &&& (set ||| EventKind.restarted.set)
        ∧ (EventKind.restarted.set &&& (s.port q).latch = EventKind.restarted.set →
            EventKind.restarted.set &&& latch = EventKind.restarted.set)
        ∧ ∀ k : EventKind,
            ((({ s.port q with mask := set, latch := latch } : PortState).post k).latch
              = latch ||| (k.set &&& (set ||| EventKind.restarted.set))))

/-! ## Cycles (R4 to R26) -/

/-- An entry whose fields fit the bytes that carry them (R189). -/
def EntryFits (e : PhaseEntry) : Prop :=
  e.temperature < 256 ∧ e.minutes < 256 ∧ e.dryness < 65536 ∧ e.hold < 256 ∧ e.stageCap < 256 ∧ e.pattern < 256

/-- The payload of a START for a program (R179, R189). -/
def programPayload (es : List PhaseEntry) : List Byte := be1 es.length ++ es.flatMap encodeEntry

/-- O14. An accepted START (R5), with all its effects in one step: the program stored with the clamps of R2 (a heat phase's
temperature to the maximum exhaust target, its stage cap to the stage count), index 1, elapsed time 0, the cycle's counts and its
result cleared, the estimator unseeded, the cycle energy 0, the counts of R43, R44, R62 and R97 reset, the sample buffers kept, and
PROVING entered (R6); the reply OK carries the count and each entry's temperature and stage cap as stored. -/
def Obligations.StartBeginsACycle : Prop :=
  ∀ (p : Pocket) (tag : Byte) (es : List PhaseEntry) (s : State),
    s.hears (ownPort p) → (s.pocket p).ce.state = .idle → (s.pocket p).lines.doorClosed = true →
    1 ≤ es.length → es.length ≤ 8 → (∀ e ∈ es, EntryFits e ∧ e.inRange = true) →
    ∃ (program : List PhaseEntry) (x : PocketState),
      program = es.map (fun e => if e.kind = .heatTimed ∨ e.kind = .heatDry then
          { e with temperature := min e.temperature (s.item p PocketItem.maximumExhaust),
                   stageCap := min e.stageCap (s.stageCount p) }
        else e)
      ∧ exec (.start (ownPort p) tag (programPayload es)) s =
          .next ((s.setPocket p x).answered (ownPort p) 0x10#8 tag .ok
            (be1 es.length ++ program.flatMap (fun e => be1 e.temperature ++ be1 e.stageCap)))
      ∧ x.ce = { (s.pocket p).ce with
          state := .proving, program := program, index := some 1, phaseTicks := 0, runSince := none, earlierSeconds := 0,
          begun := false, phasesCompleted := 0, hotExit := false, lastDryEnd := none, lastPhaseEnd := none, endReason := none,
          result := none, airflowProven := false, provingDue := some (s.now + seconds 10),
          closureDue := if (s.pocket p).lines.airfClosed then some (s.now + seconds 1) else none,
          lossDue := none, purgeDue := none, pause := none }
      ∧ x.me = { Estimator.startUp with exhaust := (s.pocket p).me.exhaust, inlet := (s.pocket p).me.inlet }
      ∧ x.tm = TangleMonitor.startUp ∧ x.rcu = { (s.pocket p).rcu with slipRun := 0 }
      ∧ x.dmc = { (s.pocket p).dmc with restartCount := 0, lastRetry := none, reversalCount := 0 }
      ∧ x.meter = { (s.pocket p).meter with cycleEnergy := 0 }
      ∧ x.sb = (s.pocket p).sb ∧ x.fl = (s.pocket p).fl ∧ x.hsc = (s.pocket p).hsc ∧ x.lines = (s.pocket p).lines
      ∧ x.shedDue = (s.pocket p).shedDue

/-- The order of checks and the table of R4, as START, PAUSE, RESUME, STOP, ADD_TIME and HALT show them. -/
def CycleRequestChecks : Prop :=
  ∀ (p : Pocket) (tag : Byte) (s : State) (c : CycleState), (s.pocket p).ce.state = c →
    (s.hears (ownPort p) →
      (∀ payload, Request.lengthFits payload .start = true →
        (c ≠ .idle → exec (.start (ownPort p) tag payload) s = .next (s.answered (ownPort p) 0x10#8 tag .busy []))
        ∧ (c = .idle → (s.pocket p).lines.doorClosed = false →
            exec (.start (ownPort p) tag payload) s = .next (s.answered (ownPort p) 0x10#8 tag .interlock []))
        ∧ (c = .idle → (s.pocket p).lines.doorClosed = true → decodeProgram payload = none →
            exec (.start (ownPort p) tag payload) s = .next (s.answered (ownPort p) 0x10#8 tag .range [])))
      ∧ (¬ (c = .proving ∨ c = .running) →
          exec (.pause (ownPort p) tag []) s = .next (s.answered (ownPort p) 0x11#8 tag .busy []))
      ∧ (c ≠ .paused → exec (.resume (ownPort p) tag []) s = .next (s.answered (ownPort p) 0x12#8 tag .busy []))
      ∧ (c = .paused → (s.pocket p).lines.doorClosed = false →
          exec (.resume (ownPort p) tag []) s = .next (s.answered (ownPort p) 0x12#8 tag .interlock []))
      ∧ (∀ m, ¬ (c = .proving ∨ c = .running ∨ c = .paused) →
          exec (.stop (ownPort p) tag [m]) s = .next (s.answered (ownPort p) 0x13#8 tag .busy []))
      ∧ (∀ m : Byte, (c = .proving ∨ c = .running ∨ c = .paused) → 2 ≤ m.toNat →
          exec (.stop (ownPort p) tag [m]) s = .next (s.answered (ownPort p) 0x13#8 tag .range []))
      ∧ (∀ m, ¬ (c = .running ∨ c = .paused) →
          exec (.addTime (ownPort p) tag [m]) s = .next (s.answered (ownPort p) 0x14#8 tag .busy []))
      ∧ (∀ m : Byte, (c = .running ∨ c = .paused) → (m = 0#8 ∨ 240 < m.toNat) →
          exec (.addTime (ownPort p) tag [m]) s = .next (s.answered (ownPort p) 0x14#8 tag .range [])))
    ∧ (s.hears .S → ¬ (c = .proving ∨ c = .running ∨ c = .paused) →
        exec (.halt .S tag (be1 (pocketCode p))) s = .next (s.answered .S 0x20#8 tag .busy []))

/-- The range check of a program (R1, R2, R189): of each entry the fields that its kind uses, and a kind byte below 4. -/
def ProgramsAreCheckedByTheirKinds : Prop :=
  (∀ e : PhaseEntry, e.hold ≤ 255 →
    (e.inRange = true ↔ 1 ≤ e.minutes ∧ e.minutes ≤ 240 ∧ e.pattern ≤ 3
      ∧ ((e.kind = .heatTimed ∨ e.kind = .heatDry) →
          30 ≤ e.temperature ∧ e.temperature ≤ 90 ∧ 1 ≤ e.stageCap ∧ e.stageCap ≤ 6)
      ∧ (e.kind = .heatDry → 500 ≤ e.dryness ∧ e.dryness ≤ 1000 ∧ 1 ≤ e.hold)
      ∧ (e.kind = .cool → 25 ≤ e.temperature ∧ e.temperature ≤ 60)))
  ∧ (∀ es : List PhaseEntry, 1 ≤ es.length → es.length ≤ 8 → (∀ e ∈ es, EntryFits e) →
      ((∀ e ∈ es, e.inRange = true) → decodeProgram (programPayload es) = some es)
      ∧ ((∃ e ∈ es, e.inRange = false) → decodeProgram (programPayload es) = none))
  ∧ (∀ (payload : List Byte) (k : Nat), Request.lengthFits payload .start = true → k < byteAt payload 0 →
      4 ≤ byteAt payload (1 + 8 * k) → decodeProgram payload = none)

/-- O15. The order of checks and the table of R4: a request not accepted in the pocket's state is BUSY; with DOOR open START and
RESUME are INTERLOCK; a field out of range is RANGE; each such reply leaves everything but the port as it was. A program is in range by
the fields that each kind uses (R1), with a kind byte below 4 (R189). -/
def Obligations.CycleRequestsAreCheckedInOrder : Prop := CycleRequestChecks ∧ ProgramsAreCheckedByTheirKinds

/-- PAUSE in PROVING or RUNNING (R14): the entry to PAUSED with cause PAUSE, the phase frozen where it stood, heat given up,
the drum stopped, the purge and the pause timer begun, PAUSED posted; the other pocket is touched in its heat alone. -/
def PauseFreezesTheCycle : Prop :=
  ∀ (p : Pocket) (tag : Byte) (s : State), s.hears (ownPort p) →
    ((s.pocket p).ce.state = .proving ∨ (s.pocket p).ce.state = .running) →
    ∃ u, exec (.pause (ownPort p) tag []) s = .next (u.answered (ownPort p) 0x11#8 tag .ok [])
      ∧ EnteredPaused .pause p s u ∧ u.phaseTicks p = s.phaseTicks p

/-- O16. DOOR opening (R14, R39, R107): the drum is stopped in every state and no stage stays energized; a PROVING or RUNNING pocket
enters PAUSED with cause DOOR; in the other states the cycle engine is as it was and nothing but the pocket changes. A DOOR that is
open already does not open (notes/assumptions/4.md). -/
def Obligations.DoorOpeningStopsThePocket : Prop :=
  ∀ (p : Pocket) (s b : State), s.mode = .operating → b = s.onLines p (fun l => { l with doorClosed := false }) →
    ((s.pocket p).lines.doorClosed = false → exec (.doorOpen p) s = .next s)
    ∧ ((s.pocket p).lines.doorClosed = true →
        ∃ u, exec (.doorOpen p) s = .next u ∧ (u.pocket p).hsc.energized = 0
          ∧ (((s.pocket p).ce.state = .proving ∨ (s.pocket p).ce.state = .running) → EnteredPaused .door p b u)
          ∧ (¬ ((s.pocket p).ce.state = .proving ∨ (s.pocket p).ce.state = .running) →
              (u.pocket p).ce = (s.pocket p).ce ∧ (u.pocket p).me = (s.pocket p).me
              ∧ DrumHalted s.now (s.coastTicks p) (s.pocket p) (u.pocket p)
              ∧ (u.pocket p).dmc.pendingStart = (s.pocket p).dmc.pendingStart
              ∧ SameRecords (b.pocket p) (u.pocket p) ∧ OnlyPocket p b u))

/-- RESUME with DOOR closed (R16): PROVING again, the purge cancelled, the blower demanded, airflow to be proved anew from this
entry (R6); the phase and its elapsed time stand. -/
def ResumeProvesAirflowAnew : Prop :=
  ∀ (p : Pocket) (tag : Byte) (s : State), s.hears (ownPort p) → (s.pocket p).ce.state = .paused →
    (s.pocket p).lines.doorClosed = true →
    ∃ x, exec (.resume (ownPort p) tag []) s = .next ((s.setPocket p x).answered (ownPort p) 0x12#8 tag .ok [])
      ∧ x = { s.pocket p with ce := { (s.pocket p).ce with
          state := .proving, airflowProven := false, provingDue := some (s.now + seconds 10),
          closureDue := if (s.pocket p).lines.airfClosed then some (s.now + seconds 1) else none,
          lossDue := none, purgeDue := none, pause := none } }
      ∧ x.ce.blowerDemand = true ∧ (s.setPocket p x).phaseTicks p = s.phaseTicks p ∧ x.ce.index = (s.pocket p).ce.index

/-- O17. PAUSE in PROVING and RUNNING (R14), and RESUME in PAUSED with DOOR closed (R16). -/
def Obligations.PauseFreezesAndResumeProves : Prop := PauseFreezesTheCycle ∧ ResumeProvesAirflowAnew

/-- O18. The wind-downs that a request or the pause limit begin (R17, R18, R15, R20): STOP in mode NOW from RUNNING, in either mode
from PROVING and PAUSED, and in mode COOL from RUNNING where no COOL entry stands at a higher index, with reason STOPPED; HALT with
reason HALTED; 30 min in PAUSED with reason PAUSE_TIMEOUT.
The clock stands at the expiry of a timer whose command comes (the model's choice, notes/assumptions/2.md). -/
def Obligations.StopsBeginTheWindDown : Prop :=
  ∀ (p : Pocket) (tag : Byte) (s : State),
    (s.hears (ownPort p) → ((s.pocket p).ce.state = .proving ∨ (s.pocket p).ce.state = .paused) →
      ∀ m : Byte, m.toNat ≤ 1 →
        ∃ u, exec (.stop (ownPort p) tag [m]) s = .next (u.answered (ownPort p) 0x13#8 tag .ok [])
          ∧ EnteredWindDown .stopped p s u)
    ∧ (s.hears (ownPort p) → (s.pocket p).ce.state = .running →
        ∃ u, exec (.stop (ownPort p) tag [1#8]) s = .next (u.answered (ownPort p) 0x13#8 tag .ok [])
          ∧ EnteredWindDown .stopped p s u)
    ∧ (s.hears (ownPort p) → (s.pocket p).ce.state = .running → ∀ i, (s.pocket p).ce.index = some i →
        (∀ j e, i < j → entryAt (s.pocket p).ce.program j = some e → e.kind ≠ .cool) →
        ∃ u, exec (.stop (ownPort p) tag [0#8]) s = .next (u.answered (ownPort p) 0x13#8 tag .ok [])
          ∧ EnteredWindDown .stopped p s u)
    ∧ (s.hears .S → (s.pocket p).ce.state.stoppable = true →
        ∃ u, exec (.halt .S tag (be1 (pocketCode p))) s = .next (u.answered .S 0x20#8 tag .ok [])
          ∧ EnteredWindDown .halted p s u)
    ∧ (∀ cause t, s.mode = .operating → (s.pocket p).ce.state = .paused → (s.pocket p).ce.pause = some (cause, t) →
        ∃ u, exec (.pauseTimeout p) s = .next u ∧ EnteredWindDown .pauseTimeout p (s.reach (t + seconds 1800)) u)

/-- O19. STOP in mode COOL jumps to the first COOL entry after the current phase (R17): the phases between end SKIPPED, which is
posted once and recorded for the last of them, no phase is counted, a skipped HEAT_DRY entry leaves SKIPPED as the last HEAT_DRY end,
and the COOL entry starts as R10 gives: elapsed time 0, the running time kept in whole seconds (the part-second is dropped, the model's
reading, notes/assumptions/9.md), the overcurrent count 0, no taper, no last A, the heat given up and the dry hold counter as it was;
the pocket stays RUNNING and the drum turns on. -/
def Obligations.StopCoolJumpsToTheCoolPhase : Prop :=
  ∀ (p : Pocket) (tag : Byte) (s : State) (i j : Nat) (e : PhaseEntry),
    s.hears (ownPort p) → (s.pocket p).ce.state = .running → (s.pocket p).ce.index = some i → 1 ≤ i → i < j →
    entryAt (s.pocket p).ce.program j = some e → e.kind = .cool →
    (∀ k f, i < k → k < j → entryAt (s.pocket p).ce.program k = some f → f.kind ≠ .cool) →
    ∃ (u : State) (dry : Option PhaseEndReason),
      exec (.stop (ownPort p) tag [0#8]) s = .next (u.answered (ownPort p) 0x13#8 tag .ok [])
      ∧ PhaseStarted p { (s.pocket p).ce with lastPhaseEnd := some (j - 1, .skipped), index := some j, lastDryEnd := dry } s u
      ∧ ((∃ k f, i ≤ k ∧ k < j ∧ entryAt (s.pocket p).ce.program k = some f ∧ f.kind = .heatDry) → dry = some .skipped)
      ∧ ((∀ k f, i ≤ k → k < j → entryAt (s.pocket p).ce.program k = some f → f.kind ≠ .heatDry) →
          dry = (s.pocket p).ce.lastDryEnd)
      ∧ (u.pocket p).ce.state = .running ∧ u.totalRunning p = s.totalRunning p ∧ LatchesGain (.phaseEnd p) s u

/-- O20. ADD_TIME in RUNNING and PAUSED (R19): the current entry's minutes rise by the request's, to at most 240, the reply carries
what was added, and nothing else changes. -/
def Obligations.AddTimeRaisesTheCurrentEntry : Prop :=
  ∀ (p : Pocket) (tag m : Byte) (s : State) (i : Nat) (e : PhaseEntry),
    s.hears (ownPort p) → ((s.pocket p).ce.state = .running ∨ (s.pocket p).ce.state = .paused) →
    (s.pocket p).ce.index = some i → entryAt (s.pocket p).ce.program i = some e → 1 ≤ m.toNat → m.toNat ≤ 240 →
    exec (.addTime (ownPort p) tag [m]) s =
      .next ((s.onCe p (fun c =>
          { c with program := c.program.set (i - 1) { e with minutes := min 240 (e.minutes + m.toNat) } })).answered
        (ownPort p) 0x14#8 tag .ok (be1 (min 240 (e.minutes + m.toNat) - e.minutes)))

/-- The pattern in force, field by field, as it is latched (R28). -/
def PatternLatched (p : Pocket) (s : State) (l : LatchedPattern) : Prop :=
  l = { forwardRun := s.item p (PocketItem.forwardRun (s.pattern p)), reverseRun := s.item p (PocketItem.reverseRun (s.pattern p)),
        speed := if s.item p (PocketItem.speed (s.pattern p)) = 0 then .low else .high,
        response := decide (s.item p (PocketItem.tangleResponse (s.pattern p)) = 1) }

/-- ACCEL is entered at the clock of `s` (R29, R30), `x` the pocket before: the direction, the pattern in force latched, its speed on SPD,
the DCLR pulse of 100 ms begun, no run output, no timer running, and a segment without a last edge and without a last period (R35). The
two off times stand, as no output was asserted; one that was is off from now (R31). The counts of restarts and reversals stand; the
tangle monitor's score, flag and reference and the segment record count are reset (R92, R57). -/
def AccelEntered (dir : Direction) (p : Pocket) (s : State) (x y : PocketState) : Prop :=
  (∃ l, PatternLatched p s l ∧ y.dmc = { x.dmc with
      state := .accel, direction := dir, purpose := none, latched := l, speed := l.speed, runOutput := false, pendingStart := false,
      forwardOff := if x.dmc.runOutput = true ∧ x.dmc.direction = .forward then s.now else x.dmc.forwardOff,
      reverseOff := if x.dmc.runOutput = true ∧ x.dmc.direction = .reverse then s.now else x.dmc.reverseOff,
      lastEdge := none, lastPeriod := none, segmentSince := none, minimumRunDue := none, pulseDue := some (s.now + millis 100),
      lockoutDue := none, accelDue := none, stallDue := none, quietDue := none, coastDue := none, dwellDue := none })
  ∧ y.tm = { x.tm with score := 0, flag := false, reference := none, reversalNotice := false }
  ∧ y.rcu = { x.rcu with segmentRecords := 0 }

/-- O21. AIRF closing while the blower is demanded begins the 1 s of closure (R6); at its end airflow is proven, the loss timer and
the proving timer are cancelled, and the first proof in PROVING starts the drum, FORWARD (R7): a stopped drum at once with DOOR closed,
else as a pending start, as in a coast with purpose STOP (R29). The airflow interlock passes, and E follows its target (R107, R108).
Where no closure time runs nothing happens (the model's reading, notes/assumptions/4.md); the clock stands at the expiry (2.md). -/
def Obligations.AirflowIsProvenAndStartsTheDrum : Prop :=
  ∀ (p : Pocket) (s : State), s.mode = .operating →
    ((s.pocket p).lines.airfClosed = false →
      exec (.airfClose p) s = .next ((s.onLines p (fun l => { l with airfClosed := true })).onCe p (fun c =>
        { c with closureDue := if c.blowerDemand then some (s.now + seconds 1) else c.closureDue })))
    ∧ ((s.pocket p).ce.closureDue = none → exec (.airflowProven p) s = .next s)
    ∧ ∀ t b, (s.pocket p).ce.closureDue = some t → b = s.reach t →
        ∃ u, exec (.airflowProven p) s = .next u ∧ OnlyPocket p b u
          ∧ (u.pocket p).ce = { (s.pocket p).ce with
              airflowProven := true, closureDue := none, lossDue := none, provingDue := none }
          ∧ (u.pocket p).me = (s.pocket p).me ∧ SameRecords (s.pocket p) (u.pocket p)
          ∧ FollowsTarget b.now (s.stageTicks p) (u.heatTarget p) (s.pocket p).hsc (u.pocket p).hsc
          ∧ (¬ ((s.pocket p).ce.state = .proving ∧ (s.pocket p).ce.provingDue ≠ none) →
              (u.pocket p).dmc = (s.pocket p).dmc ∧ (u.pocket p).tm = (s.pocket p).tm ∧ (u.pocket p).rcu = (s.pocket p).rcu)
          ∧ ((s.pocket p).ce.state = .proving ∧ (s.pocket p).ce.provingDue ≠ none →
              ((s.pocket p).dmc.state = .stopped → (s.pocket p).lines.doorClosed = true →
                AccelEntered .forward p b (s.pocket p) (u.pocket p))
              ∧ (((s.pocket p).dmc.state = .stopped ∧ (s.pocket p).lines.doorClosed = false)
                  ∨ ((s.pocket p).dmc.state = .coast ∧ (s.pocket p).dmc.purpose = some .stop) →
                (u.pocket p).dmc = { (s.pocket p).dmc with pendingStart := true })
              ∧ ((s.pocket p).dmc.state ≠ .stopped →
                  ¬ ((s.pocket p).dmc.state = .coast ∧ (s.pocket p).dmc.purpose = some .stop) →
                (u.pocket p).dmc = (s.pocket p).dmc))

/-- O22. AIRF opening (R6, R8, R107): airflow is unproven at once, the 10 s loss timer starts in PROVING and RUNNING where it had been
proven, every energized stage is removed, and the level, the grants and the drum stand. An
AIRF_OPEN at a line that is open already changes nothing (the model's reading, notes/assumptions/4.md). -/
def Obligations.AirflowLossRemovesHeat : Prop :=
  ∀ (p : Pocket) (s b : State), s.mode = .operating → b = s.onLines p (fun l => { l with airfClosed := false }) →
    ((s.pocket p).lines.airfClosed = false → exec (.airfOpen p) s = .next s)
    ∧ ((s.pocket p).lines.airfClosed = true →
        ∃ u x, exec (.airfOpen p) s = .next u ∧ u = s.setPocket p x
          ∧ x = { b.pocket p with
              ce := { (s.pocket p).ce with
                airflowProven := false, closureDue := none,
                lossDue := if (s.pocket p).ce.airflowProven = true
                    ∧ ((s.pocket p).ce.state = .proving ∨ (s.pocket p).ce.state = .running) then some (s.now + seconds 10)
                  else (s.pocket p).ce.lossDue }
              hsc := { (s.pocket p).hsc with
                energized := 0, lastChange := if (s.pocket p).hsc.energized = 0 then (s.pocket p).hsc.lastChange else s.now } })

/-- O23. No proof within 10 s of the PROVING entry (R6), and a lost proof not restored within 10 s (R8), trip AIRFLOW_FAIL: the list
takes it, and the pocket responds as R22 gives. Where the timer does not run nothing happens (the model's
reading, notes/assumptions/4.md); the clock stands at the expiry (2.md). -/
def Obligations.AirflowFailTrips : Prop :=
  ∀ (p : Pocket) (s : State), s.mode = .operating →
    ((s.pocket p).ce.provingDue = none → exec (.provingTimeout p) s = .next s)
    ∧ ((s.pocket p).ce.lossDue = none → exec (.airflowLossTimeout p) s = .next s)
    ∧ (∀ t b, (s.pocket p).ce.provingDue = some t → b = (s.reach t).onCe p (fun c => { c with provingDue := none }) →
        ∃ u, exec (.provingTimeout p) s = .next u ∧ Tripped p b u ∧ SameRecordsButFaults (b.pocket p) (u.pocket p)
          ∧ ListTakes (b.pocket p).ce.faultPhase b.secondsCount .airflowFail none (b.pocket p).fl (u.pocket p).fl)
    ∧ (∀ t b, (s.pocket p).ce.lossDue = some t → b = (s.reach t).onCe p (fun c => { c with lossDue := none }) →
        ∃ u, exec (.airflowLossTimeout p) s = .next u ∧ Tripped p b u ∧ SameRecordsButFaults (b.pocket p) (u.pocket p)
          ∧ ListTakes (b.pocket p).ce.faultPhase b.secondsCount .airflowFail none (b.pocket p).fl (u.pocket p).fl)

/-- A phase ends when its elapsed time reaches minutes × 60 s (R11, R12, R13): HEAT_TIMED and TUMBLE with TIME, HEAT_DRY with
TIME_LIMIT, COOL with COOL_TEMP where the latest exhaust sample is at or below the exit temperature × 10 and with TIME otherwise. -/
def PhasesEndAtTheirTime : Prop :=
  ∀ (p : Pocket) (s b : State) (i : Nat) (e : PhaseEntry) (since : Ticks) (te : Int),
    s.mode = .operating → (s.pocket p).ce.state = .running → (s.pocket p).ce.index = some i → 1 ≤ i →
    entryAt (s.pocket p).ce.program i = some e → (s.pocket p).ce.runSince = some since → (s.pocket p).me.exhaust = some te →
    b = s.reach (since + (e.minutes * 60 * 10000 - (s.pocket p).ce.phaseTicks)) →
    ∃ (u : State) (reason : PhaseEndReason), exec (.phaseTimeExpired p) s = .next u ∧ PhaseEnded i e reason p b u
      ∧ reason = (match e.kind with
          | .heatTimed | .tumble => .time
          | .heatDry => .timeLimit
          | .cool => if te ≤ (e.temperature : Int) * 10 then .coolTemp else .time)

/-- The dry condition (R79): it ends the HEAT_DRY phase whose record met it with reason DRY; where the pocket is no longer RUNNING
in that phase it is discarded, and nothing but its own notice changes: a notice for another phase stands. -/
def DryConditionEndsItsPhase : Prop :=
  ∀ (p : Pocket) (s b : State) (i : Nat), s.mode = .operating →
    b = s.onMe p (fun m => { m with dryNotice := if m.dryNotice = some i then none else m.dryNotice }) →
    (∀ e, (s.pocket p).ce.state = .running → (s.pocket p).ce.index = some i → 1 ≤ i →
        entryAt (s.pocket p).ce.program i = some e → e.kind = .heatDry →
        ∃ u, exec (.dryCondition p i) s = .next u ∧ PhaseEnded i e .dry p b u)
    ∧ (¬ ((s.pocket p).ce.state = .running ∧ (s.pocket p).ce.index = some i
          ∧ ∃ e, entryAt (s.pocket p).ce.program i = some e ∧ e.kind = .heatDry) →
        exec (.dryCondition p i) s = .next b)

/-- No check of the pocket trips or warns for its currents at this update: no stage is energized and the current is no higher than the
off-current limit (R111, R113, R114). -/
def QuietCurrent (p : Pocket) (r : Readings) (s : State) : Prop :=
  (s.pocket p).hsc.energized = 0 ∧ currentOf r p ≤ s.item p PocketItem.offCurrentLimit
  ∧ 0 < s.item p PocketItem.overloadTime ∧ 0 < s.item p PocketItem.underloadTime

/-- COOL_TEMP (R12): a supply update ends a COOL phase of at least 60 s whose exhaust reading is at or below the exit temperature × 10,
and the next entry starts or the wind-down begins with reason COMPLETE (R13); before 60 s, or with the reading above it, the cycle
engine stands. -/
def CoolTempEndsAtAnUpdate : Prop :=
  ∀ (p : Pocket) (r : Readings) (s b : State) (i : Nat) (e : PhaseEntry), s.mode = .operating →
    (s.pocket p).ce.state = .running → (s.pocket p).ce.index = some i → 1 ≤ i → entryAt (s.pocket p).ce.program i = some e →
    e.kind = .cool → (s.pocket p).ce.runOnSince = none → -200 ≤ exhaustOf r p → exhaustOf r p ≤ 1500 → QuietCurrent p r s →
    b = s.reach s.sm.nextUpdate →
    ∃ u, exec (.supplyUpdate r) s = .next u ∧ u.now = b.now
      ∧ ((b.phaseTicks p < 600000 ∨ (e.temperature : Int) * 10 < exhaustOf r p) → (u.pocket p).ce = (s.pocket p).ce)
      ∧ (600000 ≤ b.phaseTicks p → exhaustOf r p ≤ (e.temperature : Int) * 10 →
          LatchesGain (.phaseEnd p) s u
          ∧ (i < (s.pocket p).ce.program.length →
              (u.pocket p).ce = { phaseCounted i e .coolTemp (s.pocket p).ce with
                index := some (i + 1), earlierSeconds := b.totalRunning p, phaseTicks := 0, runSince := some b.now,
                begun := true })
          ∧ ((s.pocket p).ce.program.length ≤ i →
              WindDownBegun .windingDown .complete b.now (b.phaseTicks p)
                { s.pocket p with ce := phaseCounted i e .coolTemp (s.pocket p).ce } (u.pocket p)))

/-- O24. The ends of phases: at their time (R11, R12, R13), on the dry condition (R79), and of a COOL phase at a supply update (R12).
The next entry starts as R10 gives, with the taper against the new entry (R83), the dry hold counter at 0 for HEAT_DRY, the grants of a
heat phase kept up to the new effective cap (R138), and the running time kept in whole seconds (the part-second is dropped, the model's
reading, notes/assumptions/9.md). The clock stands at the expiry, or at the update (the model's choice, 2.md). -/
def Obligations.PhasesEndAtTimeDryOrCool : Prop := PhasesEndAtTheirTime ∧ DryConditionEndsItsPhase ∧ CoolTempEndsAtAnUpdate

/-- The purge ends 30 s into PAUSED (R15): the blower is no longer demanded, airflow is unproven (R6), no stage stays energized,
and nothing else changes. -/
def PurgeEndStopsTheBlower : Prop :=
  ∀ (p : Pocket) (s : State) (t : Ticks), s.mode = .operating → (s.pocket p).ce.state = .paused →
    (s.pocket p).ce.purgeDue = some t →
    ∃ u, exec (.purgeEnd p) s = .next u ∧ OnlyPocket p (s.reach t) u ∧ u.blwr p = false
      ∧ (u.pocket p).ce = { (s.pocket p).ce with purgeDue := none, airflowProven := false, closureDue := none }
      ∧ (u.pocket p).hsc.energized = 0 ∧ (u.pocket p).hsc.level = (s.pocket p).hsc.level
      ∧ (u.pocket p).dmc = (s.pocket p).dmc ∧ (u.pocket p).me = (s.pocket p).me ∧ (u.pocket p).rcu = (s.pocket p).rcu
      ∧ (u.pocket p).tm = (s.pocket p).tm ∧ SameRecords (s.pocket p) (u.pocket p)

/-- The end of a wind-down (R21, R24): the result record, the new state, and CYCLE_END; a FILLING buffer that holds a record becomes
READY with its records, and SAMPLES_READY is posted (R185). -/
def WindDownEnded (p : Pocket) (s t : State) : Prop :=
  (∃ reason, (s.pocket p).ce.endReason = some reason ∧
    (t.pocket p).ce.result = some
      { endReason := reason, runningSeconds := s.totalRunning p, phasesCompleted := (s.pocket p).ce.phasesCompleted,
        lastDryEnd := (s.pocket p).ce.lastDryEnd, finalIndex := (s.pocket p).me.index,
        energy := (s.pocket p).meter.cycleEnergy, hotExit := (s.pocket p).ce.hotExit })
  ∧ (t.pocket p).ce.windingDown = false
  ∧ ((s.pocket p).ce.state = .windingDown → (t.pocket p).ce.state = .idle)
  ∧ ((s.pocket p).ce.state ≠ .windingDown → (t.pocket p).ce.state = (s.pocket p).ce.state)
  ∧ (t.pocket p).sb.fillingHeld = none ∧ LatchesGain (.cycleEnd p) s t
  ∧ (∀ n, ((s.pocket p).sb.buffer n).state = .filling → ((s.pocket p).sb.buffer n).records ≠ [] →
      MadeReady n (s.pocket p).sb (t.pocket p).sb ∧ LatchesGain (.samplesReady p) s t)
  ∧ ((∀ n, ((s.pocket p).sb.buffer n).state = .filling → ((s.pocket p).sb.buffer n).records = []) →
      (t.pocket p).sb = (s.pocket p).sb)

/-- The run-on ends at 120 s (R21): the blower stops and airflow is unproven; with the drum in STOPPED the wind-down ends in the
same step, with its result record (R24); with the drum still coasting it goes on, with no result. -/
def RunOnEndsTheWindDown : Prop :=
  ∀ (p : Pocket) (s b : State) (t : Ticks), s.mode = .operating → (s.pocket p).ce.runOnSince = some t →
    (s.pocket p).ce.windingDown = true → (s.pocket p).ce.endReason ≠ none →
    ((s.pocket p).ce.state = .windingDown ∨ (s.pocket p).ce.state = .faulted) → b = s.reach (t + seconds 120) →
    ∃ u, exec (.runOnTimeout p) s = .next u ∧ u.blwr p = false ∧ (u.pocket p).ce.runOnSince = none
      ∧ (u.pocket p).ce.airflowProven = false ∧ OnlyPocketAndLatches p b u
      ∧ (u.pocket p).dmc = (s.pocket p).dmc ∧ (u.pocket p).me = (s.pocket p).me ∧ (u.pocket p).fl = (s.pocket p).fl
      ∧ (u.pocket p).tm = (s.pocket p).tm ∧ (u.pocket p).rcu = (s.pocket p).rcu ∧ (u.pocket p).lines = (s.pocket p).lines
      ∧ (u.pocket p).meter = (s.pocket p).meter ∧ (u.pocket p).ce.program = (s.pocket p).ce.program
      ∧ ((s.pocket p).dmc.state = .stopped → (¬ ((s.pocket p).sb.x.state = .filling ∧ (s.pocket p).sb.y.state = .filling)) →
          (∀ n, ((s.pocket p).sb.buffer n).state = .free → ((s.pocket p).sb.buffer n).records = []) → WindDownEnded p b u)
      ∧ ((s.pocket p).dmc.state ≠ .stopped →
          (u.pocket p).ce.state = (s.pocket p).ce.state ∧ (u.pocket p).ce.windingDown = true
          ∧ (u.pocket p).ce.result = (s.pocket p).ce.result ∧ (u.pocket p).sb = (s.pocket p).sb)

/-- The run-on's end by the exhaust (R21): at a supply update from 30 s on, with the sample in range, SENSOR_EXHAUST not listed and the
reading at or below the purge temperature × 10, the blower stops and airflow is unproven, and with the drum in STOPPED the wind-down ends
in the same step; before 30 s, with the reading above it, or with SENSOR_EXHAUST listed, the cycle engine stands. -/
def RunOnEndsAtACoolExhaust : Prop :=
  ∀ (p : Pocket) (r : Readings) (s b : State) (t : Ticks), s.mode = .operating → (s.pocket p).ce.runOnSince = some t →
    (s.pocket p).ce.windingDown = true → (s.pocket p).ce.endReason ≠ none →
    ((s.pocket p).ce.state = .windingDown ∨ (s.pocket p).ce.state = .faulted) → -200 ≤ exhaustOf r p → exhaustOf r p ≤ 1500 →
    QuietCurrent p r s → b = s.reach s.sm.nextUpdate →
    ∃ u, exec (.supplyUpdate r) s = .next u
      ∧ ((b.now < t + 300000 ∨ (s.item p PocketItem.purgeTemperature : Int) * 10 < exhaustOf r p
            ∨ (s.pocket p).fl.holds .sensorExhaust = true) → (u.pocket p).ce = (s.pocket p).ce)
      ∧ (t + 300000 ≤ b.now → exhaustOf r p ≤ (s.item p PocketItem.purgeTemperature : Int) * 10 →
          (s.pocket p).fl.holds .sensorExhaust = false →
          u.blwr p = false ∧ (u.pocket p).ce.runOnSince = none ∧ (u.pocket p).ce.airflowProven = false
          ∧ ((s.pocket p).dmc.state = .stopped →
              (¬ ((s.pocket p).sb.x.state = .filling ∧ (s.pocket p).sb.y.state = .filling)) →
              (∀ n, ((s.pocket p).sb.buffer n).state = .free → ((s.pocket p).sb.buffer n).records = []) →
              WindDownEnded p (b.onMeter p (fun _ => (u.pocket p).meter)) u)
          ∧ ((s.pocket p).dmc.state ≠ .stopped →
              (u.pocket p).ce.state = (s.pocket p).ce.state ∧ (u.pocket p).ce.windingDown = true
              ∧ (u.pocket p).ce.result = (s.pocket p).ce.result ∧ (u.pocket p).sb = (s.pocket p).sb))

/-- While the exhaust sample is outside −200..1500 no update ends the run-on (R21), whatever the fault list holds and however long it has
run: the run-on, the wind-down and its result stand, though the sample may trip its check (R116), which turns WINDING_DOWN into FAULTED
(R22). With that check taken already, and no current check to take, the cycle engine stands whole. -/
def RunOnLastsWithTheSampleOut : Prop :=
  ∀ (p : Pocket) (r : Readings) (s : State) (t : Ticks), s.mode = .operating → (s.pocket p).ce.runOnSince = some t →
    ((s.pocket p).ce.state = .windingDown ∨ (s.pocket p).ce.state = .faulted) →
    (exhaustOf r p < -200 ∨ 1500 < exhaustOf r p) →
    ∃ u, exec (.supplyUpdate r) s = .next u
      ∧ (u.pocket p).ce = { (s.pocket p).ce with state := (u.pocket p).ce.state, endReason := (u.pocket p).ce.endReason }
      ∧ ((u.pocket p).ce.state = .windingDown ∨ (u.pocket p).ce.state = .faulted) ∧ (u.pocket p).sb = (s.pocket p).sb
      ∧ ((s.pocket p).hsc.exhaustArmed = false → QuietCurrent p r s → (u.pocket p).ce = (s.pocket p).ce)

/-- O25. The ends of the pause purge (R15), and of the run-on at 120 s and by the exhaust at a supply update (R21), which a sample
outside the sense range never brings.
The clock stands at the expiry of a timer whose command comes (the model's choice, notes/assumptions/2.md). -/
def Obligations.PurgeAndRunOnEnd : Prop :=
  PurgeEndStopsTheBlower ∧ RunOnEndsTheWindDown ∧ RunOnEndsAtACoolExhaust ∧ RunOnLastsWithTheSampleOut

/-! ## The drum (R29 to R46) -/

/-- O26. DOOR closing (R29, R39): a pending start held in STOPPED is taken, into ACCEL FORWARD; otherwise the drum stands, and the
cycle engine stands always: a PAUSED cycle is not resumed (R14). The door interlock passes, and E follows its target (R107, R108).
A DOOR closed already does not close (notes/assumptions/4.md). -/
def Obligations.DoorClosingTakesThePendingStart : Prop :=
  ∀ (p : Pocket) (s b : State), s.mode = .operating → b = s.onLines p (fun l => { l with doorClosed := true }) →
    ((s.pocket p).lines.doorClosed = true → exec (.doorClose p) s = .next s)
    ∧ ((s.pocket p).lines.doorClosed = false →
        ∃ u, exec (.doorClose p) s = .next u ∧ OnlyPocket p b u ∧ (u.pocket p).ce = (s.pocket p).ce
          ∧ (u.pocket p).me = (s.pocket p).me ∧ SameRecords (b.pocket p) (u.pocket p)
          ∧ FollowsTarget s.now (s.stageTicks p) (u.heatTarget p) (s.pocket p).hsc (u.pocket p).hsc
          ∧ ((s.pocket p).dmc.state = .stopped ∧ (s.pocket p).dmc.pendingStart = true →
              AccelEntered .forward p b (s.pocket p) (u.pocket p))
          ∧ (¬ ((s.pocket p).dmc.state = .stopped ∧ (s.pocket p).dmc.pendingStart = true) →
              (u.pocket p).dmc = (s.pocket p).dmc ∧ (u.pocket p).tm = (s.pocket p).tm ∧ (u.pocket p).rcu = (s.pocket p).rcu))

/-- The pocket with its run output asserted at the clock and the accel timeout begun (R31, R32). -/
def OutputAsserted (p : Pocket) (b : State) (x : PocketState) : PocketState :=
  { x with dmc := { x.dmc with
      runOutput := true, lockoutDue := none, accelDue := some (b.now + seconds (b.item p PocketItem.accelTimeout)) } }

/-- O27. The DCLR pulse ends with DRVF not asserted, and the lockout wait ends (R30, R31, R32): in ACCEL the run output of the
direction is asserted and the accel timeout begins, at once where the opposite output has been off for 2 s and at the end of those
2 s where it has not; outside ACCEL the pulse alone ends, with DRVF asserted or not, which is not examined there (R41). The model's
choices in this: without a pulse its command does nothing (notes/assumptions/4.md), DRVF takes the level that the command carries
(15.md), and the clock stands at the expiry (2.md). -/
def Obligations.RunOutputWaitsForPulseAndLockout : Prop :=
  ∀ (p : Pocket) (s b : State) (t : Ticks) (x : PocketState), s.mode = .operating → b = s.reach t →
    x = { s.pocket p with
      lines := { (s.pocket p).lines with drvf := false }, dmc := { (s.pocket p).dmc with pulseDue := none } } →
    ((s.pocket p).dmc.pulseDue = none → ∀ drvf, exec (.dclrPulseEnd p drvf) s = .next s)
    ∧ ((s.pocket p).dmc.pulseDue = some t →
        ((s.pocket p).dmc.state ≠ .accel →
          ∀ drvf, exec (.dclrPulseEnd p drvf) s = .next (b.setPocket p { x with lines := { x.lines with drvf := drvf } }))
        ∧ ((s.pocket p).dmc.state = .accel → (s.pocket p).dmc.oppositeOff + 20000 ≤ b.now →
            exec (.dclrPulseEnd p false) s = .next (b.setPocket p (OutputAsserted p b x)))
        ∧ ((s.pocket p).dmc.state = .accel → b.now < (s.pocket p).dmc.oppositeOff + 20000 →
            exec (.dclrPulseEnd p false) s = .next (b.setPocket p
              { x with dmc := { x.dmc with lockoutDue := some ((s.pocket p).dmc.oppositeOff + 20000) } })))
    ∧ ((s.pocket p).dmc.state = .accel → (s.pocket p).dmc.lockoutDue = some t →
        exec (.lockoutEnd p) s = .next (b.setPocket p (OutputAsserted p b (s.pocket p))))

/-- The drum motion controller after the first IDX edge in ACCEL at `now` (R32): RUN, the segment timer from 0, the early reversal to be
considered at the minimum run (R93), the last edge this one (R35), the stall timeout from it; with settle revolutions 0 the restart
attempt count is reset, and otherwise stands (R43). -/
def runEntered (p : Pocket) (s : State) (now : Ticks) (d : DrumMotion) : DrumMotion :=
  { d with
      state := .run, segmentSince := some now, minimumRunDue := some (now + seconds (s.item p PocketItem.minimumRun)),
      lastEdge := some now, stallDue := some (now + s.item p PocketItem.stallTimeout * 1000), accelDue := none,
      restartCount := if s.item p PocketItem.settleRevolutions = 0 then 0 else d.restartCount,
      lastRetry := if s.item p PocketItem.settleRevolutions = 0 then none else d.lastRetry }

/-- The first IDX edge in ACCEL after the run output asserted enters RUN (R32): the first window opens with its counters at 0 and the
filter set up afresh (R50), and in PROVING the pocket enters RUNNING (R7). For the first time in the cycle phase 1 starts there, as R10
gives; otherwise the phase goes on with its ticks as they stood, and nothing but the pocket changes: the estimator, the tangle monitor,
the buffers, the fault list and the meter stand. The motion interlock passes, and E follows its target (R46, R108). -/
def FirstEdgeEntersRun : Prop :=
  ∀ (p : Pocket) (n : Ticks) (s b x : State) (c : CycleEngine), s.mode = .operating → (s.pocket p).dmc.state = .accel →
    (s.pocket p).dmc.runOutput = true → b = s.elapse n →
    c = (if (s.pocket p).ce.state = .proving then
      { (s.pocket p).ce with state := .running, provingDue := none, runSince := some b.now } else (s.pocket p).ce) →
    x = b.setPocket p { s.pocket p with
      ce := c, dmc := runEntered p s b.now (s.pocket p).dmc,
      rcu := { (s.pocket p).rcu with
        window := some { openedAt := b.now, tachEdges := 0, contacts := 0, contactTicks := 0 },
        pulse := if (s.pocket p).lines.wet then some { since := b.now, accepted := false } else none } } →
    ∃ (u : State) (h : HeatStages), exec (.idxEdge p n) s = .next u
      ∧ (((s.pocket p).ce.state ≠ .proving ∨ (s.pocket p).ce.begun = true) →
          u = x.onHsc p (fun _ => h) ∧ FollowsTarget b.now (s.stageTicks p) (u.heatTarget p) (s.pocket p).hsc h)
      ∧ ((s.pocket p).ce.state = .proving → (s.pocket p).ce.begun = false → (s.pocket p).ce.entry ≠ none →
          ∃ v, PhaseStarted p c x v ∧ u = v.onHsc p (fun _ => h)
            ∧ FollowsTarget b.now (s.stageTicks p) (u.heatTarget p) (v.pocket p).hsc h)
      ∧ ((s.pocket p).ce.state = .proving → (s.pocket p).ce.begun = false →
          (u.pocket p).ce = { c with earlierSeconds := x.totalRunning p, phaseTicks := 0, begun := true })
      ∧ (u.pocket p).dmc = (x.pocket p).dmc ∧ (u.pocket p).rcu = (x.pocket p).rcu ∧ (u.pocket p).tm = (s.pocket p).tm
      ∧ SameRecords (s.pocket p) (u.pocket p) ∧ OnlyPocketAndAccount p b u

/-- IDX edges outside a window (R32, R35, R50): in STOPPED and in DWELL, and in ACCEL before the run output (the model's reading of
R32, notes/assumptions/20.md), an edge passes only its ticks; in COAST it restarts the quiet time, 1.5 times the last period and at
least 1 s, and leaves the last period and the coast time. -/
def EdgesOutsideAWindow : Prop :=
  ∀ (p : Pocket) (n : Ticks) (s b : State), s.mode = .operating → b = s.elapse n →
    (((s.pocket p).dmc.state = .stopped ∨ (s.pocket p).dmc.state = .dwell
        ∨ ((s.pocket p).dmc.state = .accel ∧ (s.pocket p).dmc.runOutput = false)) → exec (.idxEdge p n) s = .next b)
    ∧ ((s.pocket p).dmc.state = .coast →
        (∀ period, (s.pocket p).dmc.lastPeriod = some period →
          exec (.idxEdge p n) s = .next (b.onDmc p (fun d => { d with quietDue := some (b.now + max 10000 (period * 3 / 2)) })))
        ∧ ((s.pocket p).dmc.lastPeriod = none →
          exec (.idxEdge p n) s = .next (b.onDmc p (fun d => { d with quietDue := some (b.now + 10000) }))))

/-- O28. IDX edges that arrive without a window (R32, R35, R43, R50), and the start of phase 1 (R7, R10). That an edge in ACCEL before the
run output passes only its ticks, and so is no edge of the segment for the last period of R35, is the model's reading of R32
(notes/assumptions/20.md). -/
def Obligations.EdgesWithoutAWindow : Prop := FirstEdgeEntersRun ∧ EdgesOutsideAWindow

/-- The drum as a stall or a drive fault leaves it (R42): the coast of R35 with its purpose, the restart attempt count and the last retry
cause set, the window discarded. -/
def SegmentFailed (purpose : CoastPurpose) (count : Nat) (cause : RetryCause) (p : Pocket) (b : State) (y : PocketState) : Prop :=
  y.dmc = { coastBegun purpose b.now (b.coastTicks p) { (b.pocket p).dmc with restartCount := count, lastRetry := some cause } with
    pendingStart := y.dmc.pendingStart }
  ∧ y.rcu = { (b.pocket p).rcu with window := none, pulse := none }

/-- What R42 makes of a stall or a drive fault at `b`: a retry while attempts are left; else COAST with purpose STOP and the trip of
DRUM_STALL or DRIVE_FAULT, whose response gives the heat of a turning cycle up and has the allocator evaluate (R22, R139). -/
def StallOrDriveTaken (cause : RetryCause) (p : Pocket) (b u : State) : Prop :=
  ((b.pocket p).dmc.restartCount < b.item p PocketItem.restartAttempts →
    SegmentFailed .retry ((b.pocket p).dmc.restartCount + 1) cause p b (u.pocket p) ∧ OnlyPocket p b u
    ∧ (u.pocket p).ce = (b.pocket p).ce ∧ (u.pocket p).me = (b.pocket p).me ∧ SameRecords (b.pocket p) (u.pocket p)
    ∧ (u.pocket p).hsc.energized = 0)
  ∧ (b.item p PocketItem.restartAttempts ≤ (b.pocket p).dmc.restartCount →
    SegmentFailed .stop (b.pocket p).dmc.restartCount cause p b (u.pocket p)
    ∧ OnlyPocketAndAccount p b u ∧ TripResponse b.now (b.phaseTicks p) (b.pocket p) (u.pocket p)
    ∧ ((b.pocket p).ce.state.stoppable = true → HeatGivenUp p b u)
    ∧ ((b.pocket p).ce.state.stoppable = false → OnlyPocketAndLatches p b u)
    ∧ SameRecordsButFaults (b.pocket p) (u.pocket p) ∧ (u.pocket p).hsc.energized = 0 ∧ LatchesGain (.fault p) b u
    ∧ ListTakes (b.pocket p).ce.faultPhase b.secondsCount (match cause with
        | .stall => .drumStall
        | .drive => .driveFault) none (b.pocket p).fl (u.pocket p).fl)

/-- O29. Stalls and drive faults are taken as R42 gives: the accel timeout in ACCEL (R32), the stall timeout in RUN (R34), DRVF found
asserted in ACCEL after the DCLR pulse, at the pulse's end, or in RUN (R41). The coast has its quiet time (R35) and sets the off time
of the output deasserted (R31). DRVF elsewhere is not examined.
The clock stands at the expiry of a timer whose command comes (the model's choice, notes/assumptions/2.md). -/
def Obligations.StallsAndDriveFaultsRetryOrTrip : Prop :=
  ∀ (p : Pocket) (s : State), s.mode = .operating →
    (∀ t b, (s.pocket p).dmc.state = .accel → (s.pocket p).dmc.accelDue = some t → b = s.reach t →
      ∃ u, exec (.accelTimeout p) s = .next u ∧ StallOrDriveTaken .stall p b u)
    ∧ (∀ t b, (s.pocket p).dmc.state = .run → (s.pocket p).dmc.stallDue = some t → b = s.reach t →
      ∃ u, exec (.stallTimeout p) s = .next u ∧ StallOrDriveTaken .stall p b u)
    ∧ (∀ b, ((s.pocket p).dmc.state = .run ∨ ((s.pocket p).dmc.state = .accel ∧ (s.pocket p).dmc.pulseDue = none)) →
      b = s.onLines p (fun l => { l with drvf := true }) →
      ∃ u, exec (.drvfAssert p) s = .next u ∧ StallOrDriveTaken .drive p b u)
    ∧ (∀ t b, (s.pocket p).dmc.state = .accel → (s.pocket p).dmc.pulseDue = some t →
      b = ((s.reach t).onLines p (fun l => { l with drvf := true })).onDmc p (fun d => { d with pulseDue := none }) →
      ∃ u, exec (.dclrPulseEnd p true) s = .next u ∧ StallOrDriveTaken .drive p b u)
    ∧ (¬ ((s.pocket p).dmc.state = .run ∨ ((s.pocket p).dmc.state = .accel ∧ (s.pocket p).dmc.pulseDue = none)) →
      exec (.drvfAssert p) s = .next (s.onLines p (fun l => { l with drvf := true })))

/-- O30. The full run (R33): the tangle-reversal count returns to 0 and relief ends (R44, R97), whose cap is handed afresh (R101); with
a latched reverse run above 0, or another reverse run or speed in force, COAST with purpose ALTERNATE, the direction kept, the output
off from now on, the quiet time 1.5 times the last period and at least 1 s (R35), the window discarded and no stage energized; else the
run is renewed, with the whole pattern in force latched, the segment timer from 0, the output asserted and the window kept. The clock
stands at the expiry (the model's choice, notes/assumptions/2.md). -/
def Obligations.FullRunAlternatesOrRenews : Prop :=
  ∀ (p : Pocket) (s b : State) (since : Ticks) (d : DrumMotion), s.mode = .operating → d = (s.pocket p).dmc → d.state = .run →
    d.segmentSince = some since →
    b = s.reach (since + seconds (match d.direction with
      | .forward => d.latched.forwardRun
      | .reverse => d.latched.reverseRun)) →
    ∃ (u : State) (l : LatchedPattern), exec (.fullRun p) s = .next u ∧ PatternLatched p s l
      ∧ OnlyPocketAndAccount p b u ∧ (u.pocket p).ce = (s.pocket p).ce
      ∧ SameRecords (s.pocket p) (u.pocket p) ∧ (u.pocket p).me = (s.pocket p).me ∧ CapHanded p b u
      ∧ (d.latched.reverseRun = 0 ∧ l.reverseRun = 0 ∧ l.speed = d.latched.speed →
          (u.pocket p).dmc = { d with
            reversalCount := 0, latched := l, segmentSince := some b.now,
            minimumRunDue := some (b.now + seconds (s.item p PocketItem.minimumRun)) }
          ∧ (u.pocket p).tm = { (s.pocket p).tm with relief := false } ∧ (u.pocket p).rcu = (s.pocket p).rcu)
      ∧ (¬ (d.latched.reverseRun = 0 ∧ l.reverseRun = 0 ∧ l.speed = d.latched.speed) →
          (u.pocket p).dmc = coastBegun .alternate b.now (s.coastTicks p) { d with reversalCount := 0 }
          ∧ (u.pocket p).tm = { (s.pocket p).tm with relief := false, reversalNotice := false }
          ∧ (u.pocket p).rcu = { (s.pocket p).rcu with window := none, pulse := none } ∧ (u.pocket p).hsc.energized = 0)

/-- The end of COAST, at the earlier of the quiet time and the coast time (R35, R36): with purpose RETRY or ALTERNATE, DWELL for
the dwell of the pattern in force (R37); with purpose STOP, STOPPED, where a pending start is taken with DOOR closed (R29) and a
wind-down whose run-on has ended ends (R21). -/
def CoastEndsInDwellOrStopped : Prop :=
  ∀ (p : Pocket) (s b : State) (quiet coast : Ticks), s.mode = .operating → (s.pocket p).dmc.state = .coast →
    (s.pocket p).dmc.quietDue = some quiet → (s.pocket p).dmc.coastDue = some coast → b = s.reach (min quiet coast) →
    ∃ u, exec (.coastEnd p) s = .next u ∧ OnlyPocketAndLatches p b u ∧ (u.pocket p).fl = (s.pocket p).fl
      ∧ (u.pocket p).me = (s.pocket p).me ∧ (u.pocket p).hsc = (s.pocket p).hsc ∧ (u.pocket p).meter = (s.pocket p).meter
      ∧ (u.pocket p).lines = (s.pocket p).lines ∧ (u.pocket p).shedDue = (s.pocket p).shedDue
      ∧ ((s.pocket p).dmc.purpose ≠ some .stop →
          (u.pocket p).dmc = { (s.pocket p).dmc with
              state := .dwell, quietDue := none, coastDue := none,
              dwellDue := some (b.now + seconds (s.item p (PocketItem.dwell (s.pattern p)))) }
          ∧ (u.pocket p).ce = (s.pocket p).ce ∧ (u.pocket p).sb = (s.pocket p).sb ∧ (u.pocket p).tm = (s.pocket p).tm
          ∧ (u.pocket p).rcu = (s.pocket p).rcu)
      ∧ ((s.pocket p).dmc.purpose = some .stop → (s.pocket p).dmc.pendingStart = true →
          (s.pocket p).lines.doorClosed = true →
          AccelEntered .forward p b (s.pocket p) (u.pocket p) ∧ (u.pocket p).ce = (s.pocket p).ce)
      ∧ ((s.pocket p).dmc.purpose = some .stop →
          ¬ ((s.pocket p).dmc.pendingStart = true ∧ (s.pocket p).lines.doorClosed = true) →
          (u.pocket p).dmc.state = .stopped ∧ (u.pocket p).dmc.direction = (s.pocket p).dmc.direction
          ∧ (u.pocket p).rcu = (s.pocket p).rcu ∧ (u.pocket p).tm = (s.pocket p).tm
          ∧ ((s.pocket p).ce.windingDown = false → (u.pocket p).ce = (s.pocket p).ce ∧ (u.pocket p).sb = (s.pocket p).sb)
          ∧ ((s.pocket p).ce.windingDown = true → (s.pocket p).ce.runOnSince ≠ none →
              (u.pocket p).ce = (s.pocket p).ce ∧ (u.pocket p).sb = (s.pocket p).sb)
          ∧ ((s.pocket p).ce.windingDown = true → (s.pocket p).ce.runOnSince = none → (s.pocket p).ce.endReason ≠ none →
              (¬ ((s.pocket p).sb.x.state = .filling ∧ (s.pocket p).sb.y.state = .filling)) →
              (∀ n, ((s.pocket p).sb.buffer n).state = .free → ((s.pocket p).sb.buffer n).records = []) →
              WindDownEnded p b u))

/-- The end of DWELL with DOOR closed (R37, R30): ACCEL, with the pattern in force having a reverse run in the direction of the
failed segment after a coast with purpose RETRY and in the opposite one otherwise, and FORWARD without a reverse run. -/
def DwellEndsInAccel : Prop :=
  ∀ (p : Pocket) (s b : State) (t : Ticks), s.mode = .operating → (s.pocket p).dmc.state = .dwell →
    (s.pocket p).dmc.dwellDue = some t → (s.pocket p).lines.doorClosed = true → b = s.reach t →
    ∃ u dir, exec (.dwellEnd p) s = .next u ∧ OnlyPocket p b u ∧ AccelEntered dir p b (s.pocket p) (u.pocket p)
      ∧ (u.pocket p).ce = (s.pocket p).ce ∧ (u.pocket p).me = (s.pocket p).me ∧ (u.pocket p).hsc = (s.pocket p).hsc
      ∧ SameRecords (s.pocket p) (u.pocket p)
      ∧ dir = (if s.item p (PocketItem.reverseRun (s.pattern p)) = 0 then .forward
          else match (s.pocket p).dmc.purpose, (s.pocket p).dmc.direction with
            | some .retry, d => d
            | _, .forward => .reverse
            | _, .reverse => .forward)

/-- O31. The ends of COAST (R35, R36) and of DWELL (R37).
The clock stands at the expiry of a timer whose command comes (the model's choice, notes/assumptions/2.md). -/
def Obligations.CoastAndDwellEnd : Prop := CoastEndsInDwellOrStopped ∧ DwellEndsInAccel

/-- An early reversal in RUN with the latched response ON and a latched reverse run (R45): the coast of R35 with purpose ALTERNATE and
the direction kept, the window discarded, the tangle-reversal count raised; at the rise from 2 to 3 TANGLE_PERSIST is reported, its event
posted and relief begins (R95), whose cap is handed to the allocator (R96, R101, R138); at any other count the other pocket and the
allocator stand. In every other case it changes nothing but the notice itself. -/
def EarlyReversalIsTakenInRun : Prop :=
  ∀ (p : Pocket) (s b : State), s.mode = .operating → b = s.onTm p (fun t => { t with reversalNotice := false }) →
    (((s.pocket p).dmc.state ≠ .run ∨ (s.pocket p).dmc.latched.response = false ∨ (s.pocket p).dmc.latched.reverseRun = 0) →
      exec (.earlyReversal p) s = .next b)
    ∧ ((s.pocket p).dmc.state = .run → (s.pocket p).dmc.latched.response = true → 0 < (s.pocket p).dmc.latched.reverseRun →
      ∃ u, exec (.earlyReversal p) s = .next u ∧ OnlyPocketAndAccount p b u
        ∧ (u.pocket p).dmc = coastBegun .alternate s.now (s.coastTicks p)
            { (s.pocket p).dmc with reversalCount := min 255 ((s.pocket p).dmc.reversalCount + 1) }
        ∧ (u.pocket p).tm = { (s.pocket p).tm with reversalNotice := false, relief := (u.pocket p).tm.relief }
        ∧ (u.pocket p).rcu = { (s.pocket p).rcu with window := none, pulse := none }
        ∧ (u.pocket p).ce = (s.pocket p).ce ∧ (u.pocket p).me = (s.pocket p).me ∧ (u.pocket p).hsc.energized = 0
        ∧ SameRecordsButFaults (s.pocket p) (u.pocket p)
        ∧ ((s.pocket p).dmc.reversalCount = 2 →
            (u.pocket p).tm.relief = true ∧ LatchesGain (.tanglePersist p) b u ∧ CapHanded p b u
            ∧ ListTakes (s.pocket p).ce.faultPhase s.secondsCount .tanglePersist none (s.pocket p).fl (u.pocket p).fl)
        ∧ ((s.pocket p).dmc.reversalCount ≠ 2 →
            (u.pocket p).tm.relief = (s.pocket p).tm.relief ∧ (u.pocket p).fl = (s.pocket p).fl ∧ OnlyPocket p b u))

/-- The segment timer reaching the minimum run (R93): with the flag set, the pocket RUNNING, the drum in RUN, the latched
response ON and a latched reverse run, an early reversal is requested of the drum motion controller; otherwise nothing is. -/
def MinimumRunCallsTheReversal : Prop :=
  ∀ (p : Pocket) (s b : State) (t since : Ticks), s.mode = .operating → (s.pocket p).dmc.state = .run →
    (s.pocket p).dmc.minimumRunDue = some t → (s.pocket p).dmc.segmentSince = some since →
    t = since + seconds (s.item p PocketItem.minimumRun) →
    b = (s.reach t).onDmc p (fun d => { d with minimumRunDue := none }) →
    ((s.pocket p).tm.flag = true ∧ (s.pocket p).ce.state = .running ∧ (s.pocket p).dmc.latched.response = true
        ∧ 0 < (s.pocket p).dmc.latched.reverseRun →
      exec (.minimumRunReached p) s = .next (b.onTm p (fun m => { m with reversalNotice := true })))
    ∧ (¬ ((s.pocket p).tm.flag = true ∧ (s.pocket p).ce.state = .running ∧ (s.pocket p).dmc.latched.response = true
        ∧ 0 < (s.pocket p).dmc.latched.reverseRun) →
      exec (.minimumRunReached p) s = .next b)

/-- O32. The early reversal: taken in RUN (R45, R95), and called for at the minimum run (R93).
The clock stands at the expiry of a timer whose command comes (the model's choice, notes/assumptions/2.md). -/
def Obligations.EarlyReversalsAreCalledAndTaken : Prop := EarlyReversalIsTakenInRun ∧ MinimumRunCallsTheReversal

/-! ## Measurement and evidence (R48 to R63, R68 to R93) -/

/-- O33. The tach edge counter (R53): in mode RISING it counts rising edges alone, in mode BOTH every edge, while a window is open, to
at most 16,777,215 (R56); without a window no edge is counted; nothing else changes but the ticks passed. -/
def Obligations.TachEdgesAreCounted : Prop :=
  ∀ (p : Pocket) (n : Ticks) (rising : Bool) (s b : State), s.mode = .operating → b = s.elapse n →
    ((s.pocket p).rcu.window = none → exec (.tchEdge p n rising) s = .next b)
    ∧ (rising = false → s.item p PocketItem.tachEdgeMode ≠ 1 → exec (.tchEdge p n rising) s = .next b)
    ∧ (∀ w, (s.pocket p).rcu.window = some w → (rising = true ∨ s.item p PocketItem.tachEdgeMode = 1) →
        exec (.tchEdge p n rising) s = .next (b.onRcu p (fun r =>
          { r with window := some { w with tachEdges := min (w.tachEdges + 1) 16777215 } })))

/-- The contact filter (R54) over a pulse that begins in an open window and sees no other command: WET high for at least the
minimum width is one contact with its whole length as contact time; a shorter pulse adds nothing. Without a window a pulse adds
nothing. -/
def PulsesOfTheWidthAreContacts : Prop :=
  ∀ (p : Pocket) (before length : Ticks) (s : State), s.mode = .operating → (s.pocket p).lines.wet = false →
    (∀ w, (s.pocket p).rcu.window = some w → w.contactTicks + length ≤ 16777215 → w.contacts < 16777215 →
        w.openedAt ≤ s.now →
      ∃ t u, exec (.wetRise p before) s = .next t ∧ exec (.wetFall p length) t = .next u
        ∧ OnlyPocket p (s.elapse (before + length)) u ∧ (u.pocket p).lines = (s.pocket p).lines
        ∧ { u.pocket p with lines := (s.pocket p).lines, rcu := (s.pocket p).rcu } = s.pocket p
        ∧ (s.item p PocketItem.minimumContact ≤ length →
            (u.pocket p).rcu = { (s.pocket p).rcu with
              window := some { w with contacts := w.contacts + 1, contactTicks := w.contactTicks + length }, pulse := none })
        ∧ (length < s.item p PocketItem.minimumContact →
            (u.pocket p).rcu = { (s.pocket p).rcu with window := some w, pulse := none }))
    ∧ ((s.pocket p).rcu.window = none → (s.pocket p).rcu.pulse = none →
      ∃ t, exec (.wetRise p before) s = .next t ∧ exec (.wetFall p length) t = .next (s.elapse (before + length)))

/-- A pulse qualifies at the tick at which its length reaches the width (R54): the contact counter of the open window rises by
one, and the contact timer runs with the pulse from then on; a pulse that has qualified does not do so again. -/
def PulseQualifiesAtTheWidth : Prop :=
  ∀ (p : Pocket) (s b : State) (w : Window) (since : Ticks), s.mode = .operating → (s.pocket p).rcu.window = some w →
    b = s.reach (since + s.item p PocketItem.minimumContact) →
    ((s.pocket p).rcu.pulse = some { since := since, accepted := false } →
      exec (.contactQualified p) s = .next (b.onRcu p (fun r =>
        { r with window := some { w with contacts := min (w.contacts + 1) 16777215 },
                 pulse := some { since := since, accepted := true } })))
    ∧ ((s.pocket p).rcu.pulse = some { since := since, accepted := true } → exec (.contactQualified p) s = .next s)

/-- The contact count and contact time of a window at an IDX edge or a fall of WET at `now`, and the pulse that goes on after an edge
(R54, R55, R56): a pulse of the minimum width by then counts as a contact of the window in which it qualified, and gives this one its
ticks since the pulse began or the window opened; a shorter one gives it nothing, and is followed on from its true beginning. -/
def ContactsAtTheEdge (now width : Ticks) (w : Window) (pulse : Option Pulse) (count time : Nat) (next : Option Pulse) : Prop :=
  (pulse = none → count = w.contacts ∧ time = min w.contactTicks 16777215 ∧ next = none)
  ∧ (∀ v, pulse = some v → v.accepted = true →
      count = w.contacts ∧ time = min (w.contactTicks + (now - max v.since w.openedAt)) 16777215 ∧ next = some v)
  ∧ (∀ v, pulse = some v → v.accepted = false → v.since + width ≤ now →
      count = min (w.contacts + 1) 16777215 ∧ time = min (w.contactTicks + (now - max v.since w.openedAt)) 16777215
      ∧ next = some { v with accepted := true })
  ∧ (∀ v, pulse = some v → v.accepted = false → now < v.since + width →
      count = w.contacts ∧ time = min w.contactTicks 16777215 ∧ next = some v)

/-- The fall of WET (R54, R55), whatever pulse is followed then: one that has qualified gives the open window its ticks since it began or
the window opened, one that reaches the width at the fall is counted there too, a shorter one is rejected; a pulse that spans an IDX
edge is measured from its true beginning, and gives the new window its ticks from the edge on. Without a window no contact is made. -/
def FallEndsThePulse : Prop :=
  ∀ (p : Pocket) (length : Ticks) (s b : State), s.mode = .operating → (s.pocket p).lines.wet = true →
    b = (s.elapse length).onLines p (fun l => { l with wet := false }) →
    (∀ w, (s.pocket p).rcu.window = some w → ∃ (count time : Nat) (next : Option Pulse),
      ContactsAtTheEdge b.now (s.item p PocketItem.minimumContact) w (s.pocket p).rcu.pulse count time next
      ∧ exec (.wetFall p length) s = .next (b.onRcu p (fun r =>
          { r with window := some { w with contacts := count, contactTicks := time }, pulse := none })))
    ∧ ((s.pocket p).rcu.window = none → exec (.wetFall p length) s = .next (b.onRcu p (fun r => { r with pulse := none })))

/-- O34. The contact filter (R54, R55): WET_RISE, WET_FALL and CONTACT_QUALIFIED. That a pulse's length is the ticks from WET_RISE to
WET_FALL, 0 for a fall in the same tick, is the model's choice (notes/assumptions/33.md).
The clock stands at the expiry of a timer whose command comes (the model's choice, notes/assumptions/2.md). -/
def Obligations.ContactFilterCountsWidePulses : Prop :=
  PulsesOfTheWidthAreContacts ∧ PulseQualifiesAtTheWidth ∧ FallEndsThePulse

/-- The slip of a record in per mille (R62). -/
def recordSlip (p : Pocket) (s : State) (tach : Nat) : Nat :=
  if tach < s.item p PocketItem.nominalTach
    then (s.item p PocketItem.nominalTach - tach) * 1000 / s.item p PocketItem.nominalTach else 0

/-- A record's slip is above the limit (R62). -/
def SlipAbove (p : Pocket) (s : State) (tach : Nat) : Prop := s.item p PocketItem.slipLimit * 10 < recordSlip p s tach

/-- A record brings the slip run to 5 (R63). -/
def SlipTrips (p : Pocket) (s : State) (r : RevolutionRecord) : Prop :=
  r.validity = .valid ∧ SlipAbove p s r.tach ∧ 5 ≤ (s.pocket p).rcu.slipRun + 1

/-- The hand-on of a VALID record (R61 steps 1 to 4, R62, R63): tangle monitor, then moisture estimator with the flag as it now is,
then the slip of the record and its run; at the run's count of 5 BELT_SLIP is reported and trips, and without it the fault list and the
cycle engine stand. -/
def ValidHandedOn (p : Pocket) (r : RevolutionRecord) (b u : State) : Prop :=
  ∃ t v : State, t = b.takeTangle p r.period r.contacts r.contactTime
    ∧ v = t.takeMoisture p r.period r.contactTime (b.exhaustReading p) (b.inletInUse p)
    ∧ (u.pocket p).rcu.lastSlip = some (recordSlip p b r.tach)
    ∧ (¬ SlipAbove p b r.tach → (u.pocket p).rcu.slipRun = 0)
    ∧ (SlipAbove p b r.tach → ¬ SlipTrips p b r → (u.pocket p).rcu.slipRun = (b.pocket p).rcu.slipRun + 1)
    ∧ (SlipTrips p b r →
        (u.pocket p).rcu.slipRun = 0
        ∧ ListTakes (b.pocket p).ce.faultPhase b.secondsCount .beltSlip none (b.pocket p).fl (u.pocket p).fl
        ∧ TripResponse b.now (b.phaseTicks p) (b.pocket p) (u.pocket p) ∧ LatchesGain (.fault p) b u
        ∧ (u.pocket p).tm = { (t.pocket p).tm with reversalNotice := (u.pocket p).tm.reversalNotice }
        ∧ (u.pocket p).me = { (v.pocket p).me with dryNotice := (u.pocket p).me.dryNotice }
        ∧ ((b.pocket p).ce.state.stoppable = true →
            HeatGivenUp p v u ∧ (u.pocket p).rcu.window = none ∧ (u.pocket p).tm.reversalNotice = false)
        ∧ ((b.pocket p).ce.state.stoppable = false → OnlyPocketAndLatches p v u))
    ∧ (¬ SlipTrips p b r →
        (u.pocket p).tm = (t.pocket p).tm ∧ (u.pocket p).me = (v.pocket p).me ∧ (u.pocket p).hsc = (v.pocket p).hsc
        ∧ u.sa = v.sa ∧ u.pocket (otherPocket p) = v.pocket (otherPocket p) ∧ (u.pocket p).fl = (b.pocket p).fl
        ∧ (u.pocket p).ce = (b.pocket p).ce)

/-- A completed record handed to the pocket's buffers (R185). Without a FILLING buffer it is dropped and the overrun flag is set. Else it
joins the FILLING buffer at its tail and the flush timer is loaded with the flush time; with fewer than 12 records that is all, and with
12 the buffer becomes READY, the flush timer goes idle, the other buffer becomes FILLING if it is FREE, and SAMPLES_READY is posted. -/
def RecordBuffered (p : Pocket) (r : RevolutionRecord) (s b u : State) : Prop :=
  ((s.pocket p).sb.filling = none → (u.pocket p).sb = { (s.pocket p).sb with overrun := true })
  ∧ ∀ (name : BufferName) (records : List RevolutionRecord) (x : SampleBuffers), (s.pocket p).sb.filling = some name →
      records = ((s.pocket p).sb.buffer name).records ++ [r] →
      x = { (s.pocket p).sb.setBuffer name { state := .filling, records := records } with
        flushDue := some (b.now + seconds (s.item p PocketItem.flushTime)) } →
      (records.length < 12 → (u.pocket p).sb = x)
      ∧ (12 ≤ records.length → MadeReady name x (u.pocket p).sb ∧ LatchesGain (.samplesReady p) b u)

/-- The drum motion controller after an IDX edge in RUN that completes record `number` of the segment: the last period and the last edge
of R35, the stall timeout from this edge (R34), and at the record of the settle revolutions the restart attempt count reset (R43). -/
def edgeTaken (p : Pocket) (s : State) (now : Ticks) (number : Nat) (d : DrumMotion) : DrumMotion :=
  { d with
      lastPeriod := (match d.lastEdge with
        | some t => some (now - t)
        | none => d.lastPeriod),
      lastEdge := some now, stallDue := some (now + s.item p PocketItem.stallTimeout * 1000),
      restartCount := if number = s.item p PocketItem.settleRevolutions then 0 else d.restartCount,
      lastRetry := if number = s.item p PocketItem.settleRevolutions then none else d.lastRetry }

/-- O35. An IDX edge in RUN closes the window and opens the next at the same tick (R51). The record has the next sequence number, which
rises by one and wraps (R60), the period between the edges (R56; 1 for two edges in one tick, the model's choice,
notes/assumptions/34.md), the class of R57 and R58, and the counts of the window, a contact that spans the edge divided (R55). A VALID
record goes to the tangle monitor, the moisture estimator and the slip run, whose fifth trips BELT_SLIP (R61 to R63); every record joins
the FILLING buffer with the flag and the index as they then stand and loads the flush timer, the 12th makes the buffer READY and posts
SAMPLES_READY, or it is dropped (R185). The stall timeout restarts (R34), and the record numbered settle revolutions clears the restart
count (R43); without a trip the next window is open, and a trip stops the drum into COAST (R31, R35). -/
def Obligations.RecordsAreCompletedAndHandedOn : Prop :=
  ∀ (p : Pocket) (n : Ticks) (s b : State) (w : Window), s.mode = .operating → (s.pocket p).dmc.state = .run →
    (s.pocket p).rcu.window = some w → b = s.elapse n →
    ∃ (u : State) (r : RevolutionRecord) (count : Nat) (next : Option Pulse), exec (.idxEdge p n) s = .next u
      ∧ OnlyPocketAndAccount p b u
      ∧ (u.pocket p).rcu.nextSequence = ((s.pocket p).rcu.nextSequence + 1) % 65536
      ∧ (u.pocket p).rcu.segmentRecords = min 255 ((s.pocket p).rcu.segmentRecords + 1)
      ∧ (u.pocket p).rcu.lastRecord = some { sequence := r.sequence, validity := r.validity, period := r.period, tach := r.tach }
      ∧ r.sequence = (s.pocket p).rcu.nextSequence ∧ r.direction = (s.pocket p).dmc.direction
      ∧ r.period = max 1 (min (b.now - w.openedAt) 16777215) ∧ r.tach = min w.tachEdges 65535
      ∧ ContactsAtTheEdge b.now (s.item p PocketItem.minimumContact) w (s.pocket p).rcu.pulse count r.contactTime next
      ∧ r.contacts = min count 255 ∧ r.energized = (s.pocket p).hsc.energized ∧ r.exhaust = (s.pocket p).me.exhaust
      ∧ r.tangleFlag = (u.pocket p).tm.flag ∧ r.index = (u.pocket p).me.index
      ∧ (r.validity = .settling ↔ (u.pocket p).rcu.segmentRecords ≤ s.item p PocketItem.settleRevolutions)
      ∧ (r.validity = .valid ↔ s.item p PocketItem.settleRevolutions < (u.pocket p).rcu.segmentRecords
          ∧ s.item p PocketItem.plausibleMinimum * 1000 ≤ r.period ∧ r.period ≤ s.item p PocketItem.plausibleMaximum * 1000)
      ∧ (r.validity = .valid → ValidHandedOn p r b u)
      ∧ RecordBuffered p r s b u
      ∧ (¬ SlipTrips p b r →
          (u.pocket p).rcu.window = some { openedAt := b.now, tachEdges := 0, contacts := 0, contactTicks := 0 }
          ∧ (u.pocket p).rcu.pulse = next
          ∧ (u.pocket p).dmc = edgeTaken p s b.now (u.pocket p).rcu.segmentRecords (s.pocket p).dmc)
      ∧ (SlipTrips p b r → (s.pocket p).ce.state.stoppable = true →
          (u.pocket p).dmc = { coastBegun .stop b.now (s.coastTicks p)
              (edgeTaken p s b.now (u.pocket p).rcu.segmentRecords (s.pocket p).dmc) with pendingStart := false })

/-- O36. A SETTLING or IMPLAUSIBLE record is taken by the sample buffers alone (R58, R61): at the edge that completes it the
estimator, the tangle monitor, the slip run and the cycle engine stand, the drum restarts its stall timeout (R34), the next window
opens with its counters at 0, and the record joins the FILLING buffer and loads the flush timer, or is dropped with the overrun flag set
where none is FILLING; the 12th makes the buffer READY and posts SAMPLES_READY, and no other event is posted (R185). (Two edges in one
tick give the period 1, the model's choice, notes/assumptions/34.md.) -/
def Obligations.RecordsThatAreNoEvidence : Prop :=
  ∀ (p : Pocket) (n : Ticks) (s b : State) (w : Window), s.mode = .operating → (s.pocket p).dmc.state = .run →
    (s.pocket p).rcu.window = some w → b = s.elapse n →
    (min 255 ((s.pocket p).rcu.segmentRecords + 1) ≤ s.item p PocketItem.settleRevolutions
      ∨ max 1 (min (s.now + n - w.openedAt) 16777215) < s.item p PocketItem.plausibleMinimum * 1000
      ∨ s.item p PocketItem.plausibleMaximum * 1000 < max 1 (min (s.now + n - w.openedAt) 16777215)) →
    ∃ u, exec (.idxEdge p n) s = .next u ∧ OnlyPocketAndLatches p b u
      ∧ (u.pocket p).me = (s.pocket p).me ∧ (u.pocket p).tm = (s.pocket p).tm ∧ (u.pocket p).ce = (s.pocket p).ce
      ∧ (u.pocket p).hsc = (s.pocket p).hsc ∧ (u.pocket p).fl = (s.pocket p).fl ∧ (u.pocket p).meter = (s.pocket p).meter
      ∧ (u.pocket p).lines = (s.pocket p).lines ∧ (u.pocket p).shedDue = (s.pocket p).shedDue
      ∧ (u.pocket p).rcu.slipRun = (s.pocket p).rcu.slipRun ∧ (u.pocket p).rcu.lastSlip = (s.pocket p).rcu.lastSlip
      ∧ (u.pocket p).rcu.window = some { openedAt := b.now, tachEdges := 0, contacts := 0, contactTicks := 0 }
      ∧ (u.pocket p).dmc.state = .run ∧ (u.pocket p).dmc.stallDue = some (b.now + s.item p PocketItem.stallTimeout * 1000)
      ∧ (u.pocket p).dmc.lastEdge = some b.now
      ∧ (∃ r : RevolutionRecord, RecordBuffered p r s b u
          ∧ r.sequence = (s.pocket p).rcu.nextSequence ∧ r.energized = (s.pocket p).hsc.energized
          ∧ r.direction = (s.pocket p).dmc.direction ∧ r.tangleFlag = (s.pocket p).tm.flag
          ∧ r.index = (s.pocket p).me.index ∧ r.exhaust = (s.pocket p).me.exhaust)
      ∧ (∀ name, (s.pocket p).sb.filling = some name → ∀ q, u.port q =
          if 12 ≤ ((s.pocket p).sb.buffer name).records.length + 1 then (s.port q).post (.samplesReady p) else s.port q)
      ∧ ((s.pocket p).sb.filling = none → ∀ q, u.port q = s.port q)

/-- O37. The estimator's figures of a VALID record that it takes, with contact time `c` and period `period` (R69, R70, R71, R73): the
wet fraction W = min(4096, c × 4096 / period); at the seeding record S16 = W × 16, at every later one the step of the filter
toward it (R71, R72); the moisture term M = 1000 − S16 × 1000 / 65,536 of the new S16, between 0 and 1000 where S16 is at most 65,536;
all truncated, and kept for the pocket status. -/
def Obligations.EstimatorTakesTheWetFraction : Prop :=
  ∀ (p : Pocket) (s : State) (e : PhaseEntry) (period c : Nat) (te ti : Int),
    s.entry p = some e → 1 ≤ period → period ≤ 16777215 →
    ∃ w s16 m, (((s.takeMoisture p period c te ti).pocket p).me.lastW = some w ∧ w = min 4096 (c * 4096 / period))
      ∧ (c = 0 → w = 0) ∧ (c = period → w = 4096)
      ∧ ((s.takeMoisture p period c te ti).pocket p).me.s16 = some s16 ∧ ((s.pocket p).me.s16 = none → s16 = w * 16)
      ∧ (∀ v, (s.pocket p).me.s16 = some v → s16 = smooth (s.item p PocketItem.filterShift) v w)
      ∧ ((s.takeMoisture p period c te ti).pocket p).me.lastM = some m ∧ m = 1000 - s16 * 1000 / 65536
      ∧ s16 ≤ 65536 ∧ m ≤ 1000 ∧ (s16 = 0 → m = 1000) ∧ (s16 = 65536 → m = 0)

/-- O38. The filter of R71 with the dead band of R72: S16 moves toward W × 16 by the difference divided by 2^k, truncated toward
zero; it never passes W × 16, it stands exactly while W × 16 lies less than 2^k away, and otherwise comes nearer by at most half
the difference. -/
def Obligations.FilterMovesTowardTheWetFraction : Prop :=
  ∀ (k s16 w : Nat), 1 ≤ k → s16 ≤ 65536 → w ≤ 4096 →
    (s16 ≤ w * 16 → smooth k s16 w = s16 + (w * 16 - s16) / 2 ^ k ∧ smooth k s16 w ≤ w * 16
      ∧ (smooth k s16 w = s16 ↔ w * 16 - s16 < 2 ^ k) ∧ 2 * (smooth k s16 w - s16) ≤ w * 16 - s16)
    ∧ (w * 16 ≤ s16 → smooth k s16 w = s16 - (s16 - w * 16) / 2 ^ k ∧ w * 16 ≤ smooth k s16 w
      ∧ (smooth k s16 w = s16 ↔ s16 - w * 16 < 2 ^ k) ∧ 2 * (s16 - smooth k s16 w) ≤ s16 - w * 16)

/-- O39. The approach term and the dryness index of a record taken (R74, R76, R77): in a heat phase A is 1000 for a span below 50 and
else (Te − Ti) × 1000 / span truncated toward zero and clamped to 0..1000, and I = (M × wS + A × wT) / (wS + wT); in a COOL or TUMBLE
phase I = M and the last A stands. -/
def Obligations.DrynessIndexIsTheWeightedMean : Prop :=
  ∀ (p : Pocket) (s : State) (e : PhaseEntry) (period c : Nat) (te ti : Int), s.entry p = some e →
    ∃ u m i, u = s.takeMoisture p period c te ti ∧ (u.pocket p).me.lastM = some m ∧ (u.pocket p).me.index = some i
      ∧ ((e.kind = .cool ∨ e.kind = .tumble) → i = m ∧ (u.pocket p).me.lastA = (s.pocket p).me.lastA)
      ∧ ((e.kind = .heatTimed ∨ e.kind = .heatDry) →
          ∃ a : Nat, (u.pocket p).me.lastA = some a ∧ a ≤ 1000
            ∧ ((e.temperature : Int) * 10 - ti < 50 → a = 1000)
            ∧ (50 ≤ (e.temperature : Int) * 10 - ti → te ≤ ti → a = 0)
            ∧ (50 ≤ (e.temperature : Int) * 10 - ti → ti ≤ te →
                (a : Int) = min 1000 ((te - ti) * 1000 / ((e.temperature : Int) * 10 - ti)))
            ∧ i = (m * s.item p PocketItem.moistureWeight + a * s.item p PocketItem.temperatureWeight)
                / (s.item p PocketItem.moistureWeight + s.item p PocketItem.temperatureWeight)
            ∧ (1 ≤ s.item p PocketItem.moistureWeight + s.item p PocketItem.temperatureWeight → i ≤ 1000))

/-- O40. The taper and the dry hold counter at a VALID record taken. The taper condition is evaluated with the record's index against the
current entry, and its cap, or its absence, is handed on (R82, R83, R101, R138). The dry hold counter (R78, R81, R79): at a VALID
record taken in RUNNING in a HEAT_DRY phase with the tangle flag clear it rises by one, to at most 255, where the index is at or above
the target, and falls to 0 where it is not; at hold windows reached the dry condition is sent for the phase; in every other case
counter and notice stand. -/
def Obligations.DryHoldCountsInHeatDry : Prop :=
  ∀ (p : Pocket) (s u : State) (e : PhaseEntry) (period c : Nat) (te ti : Int), s.entry p = some e →
    u = s.takeMoisture p period c te ti →
    (u.pocket p).me.taperCap = taperBeside (s.item p PocketItem.taperMargin) e (u.pocket p).me.index ∧ CapHanded p s u
    ∧ ((s.pocket p).ce.state = .running ∧ e.kind = .heatDry ∧ (s.pocket p).tm.flag = false →
      ∃ i, (u.pocket p).me.index = some i
        ∧ (e.dryness ≤ i → (u.pocket p).me.hold = min 255 ((s.pocket p).me.hold + 1))
        ∧ (i < e.dryness → (u.pocket p).me.hold = 0)
        ∧ (e.hold ≤ (u.pocket p).me.hold → (u.pocket p).me.dryNotice = (s.pocket p).ce.index)
        ∧ ((u.pocket p).me.hold < e.hold → (u.pocket p).me.dryNotice = (s.pocket p).me.dryNotice))
    ∧ (¬ ((s.pocket p).ce.state = .running ∧ e.kind = .heatDry ∧ (s.pocket p).tm.flag = false) →
      (u.pocket p).me.hold = (s.pocket p).me.hold ∧ (u.pocket p).me.dryNotice = (s.pocket p).me.dryNotice)

/-- O41. The tangle monitor's evidence of a VALID record (R89, R90, R91): the deviation from the reference period in per mille, the
mean contact length, the score with its four changes and its limits 0 and 15, the flag against the threshold, and the reference
period; without a reference the record is not uneven, without a contact it is not lumpy. With the flag then set, in RUNNING and in RUN,
with the latched response ON, a latched reverse run, and the segment timer at or above the minimum run, the record requests an early
reversal (R93); otherwise a request on its way stands. -/
def Obligations.TangleScoreFollowsTheEvidence : Prop :=
  ∀ (p : Pocket) (s : State) (period contacts time : Nat) (uneven lumpy : Prop),
    (uneven ↔ ∃ r, (s.pocket p).tm.reference = some r ∧ s.item p PocketItem.deviationThreshold
      ≤ min 1000 (((period : Int) - r).natAbs * 1000 / r)) →
    (lumpy ↔ 1 ≤ contacts ∧ s.item p PocketItem.lumpLength * 10 ≤ time / contacts) →
    ∃ t score, t = ((s.takeTangle p period contacts time).pocket p).tm ∧ t.score = score
      ∧ (uneven → lumpy → score = min 15 ((s.pocket p).tm.score + 4))
      ∧ (uneven → ¬ lumpy → score = min 15 ((s.pocket p).tm.score + 2))
      ∧ (¬ uneven → lumpy → score = min 15 ((s.pocket p).tm.score + 2))
      ∧ (¬ uneven → ¬ lumpy → score = (s.pocket p).tm.score - 1)
      ∧ (t.flag = true ↔ s.item p PocketItem.scoreThreshold ≤ score) ∧ t.reference = some period
      ∧ (contacts = 0 → t.lastContactLength = none)
      ∧ (1 ≤ contacts → t.lastContactLength = some (time / contacts))
      ∧ ((s.pocket p).tm.reference = none → t.lastDeviation = none)
      ∧ (∀ r, (s.pocket p).tm.reference = some r → t.lastDeviation = some (min 1000 (((period : Int) - r).natAbs * 1000 / r)))
      ∧ (t.reversalNotice = true ↔ (s.pocket p).tm.reversalNotice = true
          ∨ (t.flag = true ∧ (s.pocket p).ce.state = .running ∧ (s.pocket p).dmc.state = .run
            ∧ (s.pocket p).dmc.latched.response = true ∧ 0 < (s.pocket p).dmc.latched.reverseRun
            ∧ ∃ since, (s.pocket p).dmc.segmentSince = some since ∧ since + seconds (s.item p PocketItem.minimumRun) ≤ s.now))
      ∧ t.relief = (s.pocket p).tm.relief
      ∧ s.takeTangle p period contacts time = s.onTm p (fun _ => t)

/-! ## Heat and its supply (R99 to R144) -/

/-- O42. HLIM (R115, R107): at an opening E falls to 0 at once and HIGH_LIMIT trips, in every cycle state; at a closing the
interlock passes again, E follows its target (R108), and the cycle engine, the fault list and the level stand: the trip is not ended.
A line at that level already does not change (the model's reading, notes/assumptions/4.md). -/
def Obligations.HighLimitCutsHeatAndTrips : Prop :=
  ∀ (p : Pocket) (s : State), s.mode = .operating →
    ((s.pocket p).lines.hlimClosed = true → ∀ b, b = s.onLines p (fun l => { l with hlimClosed := false }) →
      ∃ u, exec (.hlimOpen p) s = .next u ∧ (u.pocket p).hsc.energized = 0 ∧ Tripped p b u
        ∧ SameRecordsButFaults (b.pocket p) (u.pocket p)
        ∧ ListTakes (s.pocket p).ce.faultPhase s.secondsCount .highLimit none (s.pocket p).fl (u.pocket p).fl)
    ∧ ((s.pocket p).lines.hlimClosed = false → exec (.hlimOpen p) s = .next s)
    ∧ ((s.pocket p).lines.hlimClosed = true → exec (.hlimClose p) s = .next s)
    ∧ ((s.pocket p).lines.hlimClosed = false → ∀ b, b = s.onLines p (fun l => { l with hlimClosed := true }) →
      ∃ u h, exec (.hlimClose p) s = .next u ∧ u = b.onHsc p (fun _ => h)
        ∧ FollowsTarget s.now (s.stageTicks p) (u.heatTarget p) (s.pocket p).hsc h)

/-- ENERGIZE_STEP (R108): with the target above E, E rises by one at the end of the stage interval since its last rise, or at once where
that rise lies before the reset (R120), which sets the time of the rise and the settle time, and nothing else; with the target at or
below E nothing happens. -/
def EnergizeStepRaisesByOne : Prop :=
  ∀ (p : Pocket) (s : State), s.mode = .operating →
    (s.heatTarget p ≤ (s.pocket p).hsc.energized → exec (.energizeStep p) s = .next s)
    ∧ (∀ b, (s.pocket p).hsc.energized < s.heatTarget p →
        b = (match (s.pocket p).hsc.lastRise with
          | some t => s.reach (t + seconds (s.item p PocketItem.stageInterval))
          | none => s) →
        exec (.energizeStep p) s = .next (b.onHsc p (fun h =>
          { h with energized := h.energized + 1, lastRise := some b.now, lastChange := b.now })))

/-- The end of a recovery (R111): its interlock passes again, E follows its target (R108), and nothing else changes. -/
def RecoveryEndLetsEFollow : Prop :=
  ∀ (p : Pocket) (s b : State) (t : Ticks), s.mode = .operating → (s.pocket p).hsc.recoveryDue = some t → b = s.reach t →
    ∃ (u : State) (h : HeatStages), exec (.recoveryEnd p) s = .next u ∧ u = b.onHsc p (fun _ => h)
      ∧ FollowsTarget b.now (s.stageTicks p) (u.heatTarget p) { (s.pocket p).hsc with recoveryDue := none } h

/-- The release of a pocket's top stage at `b` (R137, R106): the newest entry leaves the list with a pending request; L falls to the count
left, E to its target, the hold restarts where the count is still above L, and the allocator evaluates. -/
def TopStageReleased (p : Pocket) (b u : State) : Prop :=
  ∃ (x : State) (lists : Lists) (left : Nat) (h : HeatStages), u = x.evaluate
    ∧ EntryLost p (b.sa.grants, b.sa.requests) lists ∧ x = (b.onHsc p (fun _ => h)).relisted lists.1 lists.2
    ∧ left = b.granted p - 1 ∧ x.granted p = left
    ∧ h = { (b.pocket p).hsc with
        level := min (b.pocket p).hsc.level left,
        lastLevelChange := if left < (b.pocket p).hsc.level then some b.now else (b.pocket p).hsc.lastLevelChange,
        holdSince := if left ≤ (b.pocket p).hsc.level then none else some b.now, askedStage := none,
        energized := min (b.pocket p).hsc.energized (x.heatTarget p),
        lastChange := if x.heatTarget p < (b.pocket p).hsc.energized then b.now else (b.pocket p).hsc.lastChange }
    ∧ OnlyAccountMoved b u ∧ u.granted p < b.granted p ∧ u.requestOf p = none ∧ u.committed ≤ u.ceiling

/-- The release hold running out (R106, R137): with no fresh grant the pocket's newest entry, its top stage, leaves the list with a
pending request; L falls to the count left, E to its target, and the hold restarts where the count is still above L; then the allocator
evaluates. A pocket without entries releases nothing. Where the hold had run out when a loss took the stage that it asks for, the request
removes nothing, and the hold begins again. Before the end of the first update after a grant no release is asked for. -/
def ReleaseHoldGivesTheTopStageBack : Prop :=
  ∀ (p : Pocket) (s b : State) (since : Ticks), s.mode = .operating → (s.pocket p).hsc.holdSince = some since →
    b = s.reach (since + seconds (s.item p PocketItem.releaseHold)) →
    ((s.pocket p).hsc.freshGrant = true → exec (.releaseHoldExpired p) s = .next s)
    ∧ (∀ stage, (s.pocket p).hsc.freshGrant = false → (s.pocket p).hsc.askedStage = some stage → stage ≠ s.granted p →
        exec (.releaseHoldExpired p) s = .next (b.onHsc p (fun h =>
          { h with holdSince := if s.granted p ≤ h.level then none else some b.now, askedStage := none })))
    ∧ ((s.pocket p).hsc.freshGrant = false → (s.pocket p).hsc.askedStage = none → s.granted p = 0 →
        exec (.releaseHoldExpired p) s = .next b)
    ∧ ((s.pocket p).hsc.freshGrant = false → (∀ stage, (s.pocket p).hsc.askedStage = some stage → stage = s.granted p) →
        0 < s.granted p →
        ∃ u, exec (.releaseHoldExpired p) s = .next u ∧ TopStageReleased p b u)

/-- O43. The timers of the heat stage controller: ENERGIZE_STEP (R108, R120), the end of a recovery (R111), and the release hold (R106,
R137). The clock stands at the expiry (the model's choice, notes/assumptions/2.md), a release waits for the end of the first update
after a grant (28.md). That the hold begins again after a request that removed nothing is the model's reading (38.md). -/
def Obligations.HeatStageTimersAct : Prop := EnergizeStepRaisesByOne ∧ RecoveryEndLetsEFollow ∧ ReleaseHoldGivesTheTopStageBack

/-- Both samples of a pocket lie in the sense range (R116). -/
def SamplesInRange (p : Pocket) (r : Readings) : Prop :=
  -200 ≤ exhaustOf r p ∧ exhaustOf r p ≤ 1500 ∧ -200 ≤ inletOf r p ∧ inletOf r p ≤ 1500

/-- The current checks of the update at `now` are not suspended (R110, R147). -/
def ChecksMade (p : Pocket) (r : Readings) (s : State) (now : Ticks) : Prop :=
  r.voltage ≠ 0 ∧ r.voltage < 6000 ∧ s.sm.condition = .normal ∧ (s.pocket p).hsc.lastChange + 10000 ≤ now

/-- The expected current at an update (R109). -/
def expectedAt (p : Pocket) (r : Readings) (s : State) : Nat :=
  ((List.range (s.pocket p).hsc.energized).map (fun k => s.rating p (k + 1))).sum * 1000000
    / (r.voltage * s.shared SharedItem.phaseFactor)

/-- The overcurrent comparison (R111). -/
def OverAt (p : Pocket) (r : Readings) (s : State) : Prop :=
  1 ≤ (s.pocket p).hsc.energized ∧ expectedAt p r s * (100 + s.item p PocketItem.currentTolerance) / 100 < currentOf r p

/-- The underload comparison (R114). -/
def UnderAt (p : Pocket) (r : Readings) (s : State) : Prop :=
  1 ≤ (s.pocket p).hsc.energized ∧ currentOf r p < expectedAt p r s * (100 - s.item p PocketItem.currentTolerance) / 100

/-- The stuck-on comparison (R113). -/
def StuckAt (p : Pocket) (r : Readings) (s : State) : Prop :=
  (s.pocket p).hsc.energized = 0 ∧ s.item p PocketItem.offCurrentLimit < currentOf r p

/-- The timers of the current checks (R110): a suspended update sets them to 0; at another each rises by 250 ms, to its configured time,
where its comparison holds, and is set to 0 where it does not; a taken overcurrent sets its own to 0. An armed check stays so; one that is
not is armed again where its comparison, made, does not hold (R118). -/
def CheckTimersCount : Prop :=
  ∀ (p : Pocket) (r : Readings) (s b : State), s.mode = .operating → b = s.reach s.sm.nextUpdate →
    0 < s.item p PocketItem.overloadTime → 0 < s.item p PocketItem.underloadTime →
    ∃ u, exec (.supplyUpdate r) s = .next u ∧ ((u.pocket p).hsc.suspended = true ↔ ¬ ChecksMade p r s b.now)
      ∧ (¬ ChecksMade p r s b.now →
          (u.pocket p).hsc.overTimer = 0 ∧ (u.pocket p).hsc.stuckTimer = 0 ∧ (u.pocket p).hsc.underTimer = 0
          ∧ (u.pocket p).hsc.stuckArmed = (s.pocket p).hsc.stuckArmed ∧ (u.pocket p).hsc.underArmed = (s.pocket p).hsc.underArmed)
      ∧ (ChecksMade p r s b.now →
          (¬ OverAt p r s → (u.pocket p).hsc.overTimer = 0)
          ∧ (OverAt p r s → (s.pocket p).hsc.overTimer + 250 < s.item p PocketItem.overloadTime →
              (u.pocket p).hsc.overTimer = (s.pocket p).hsc.overTimer + 250)
          ∧ (¬ StuckAt p r s → (u.pocket p).hsc.stuckTimer = 0 ∧ (u.pocket p).hsc.stuckArmed = true)
          ∧ (StuckAt p r s → (u.pocket p).hsc.stuckTimer =
              min (s.item p PocketItem.overloadTime) ((s.pocket p).hsc.stuckTimer + 250))
          ∧ (¬ UnderAt p r s → (u.pocket p).hsc.underTimer = 0 ∧ (u.pocket p).hsc.underArmed = true)
          ∧ (UnderAt p r s → (u.pocket p).hsc.underTimer =
              min (s.item p PocketItem.underloadTime * 1000) ((s.pocket p).hsc.underTimer + 250))
          ∧ ((u.pocket p).hsc.overHolds = true ↔ OverAt p r s) ∧ ((u.pocket p).hsc.underHolds = true ↔ UnderAt p r s))

/-- The overcurrent check is taken at the update at which its timer reaches the overload time (R110, R111, R112): E falls to 0; at a
count of 1 or 2 a recovery of 5 s begins and the fault list and the cycle state stand; at 3 HEATER_OVERCURRENT trips, with E at the
detection as its detail. -/
def OvercurrentIsTaken : Prop :=
  ∀ (p : Pocket) (r : Readings) (s b : State), s.mode = .operating → b = s.reach s.sm.nextUpdate → s.heating p = true →
    SamplesInRange p r → ChecksMade p r s b.now → OverAt p r s → 0 < s.item p PocketItem.overloadTime →
    s.item p PocketItem.overloadTime ≤ (s.pocket p).hsc.overTimer + 250 →
    ∃ u, exec (.supplyUpdate r) s = .next u ∧ (u.pocket p).hsc.energized = 0 ∧ (u.pocket p).hsc.overTimer = 0
      ∧ ((s.pocket p).hsc.overCount < 2 →
          (u.pocket p).hsc.overCount = (s.pocket p).hsc.overCount + 1 ∧ (u.pocket p).hsc.recoveryDue = some (b.now + 50000)
          ∧ (u.pocket p).fl = (s.pocket p).fl ∧ (u.pocket p).ce.state = .running)
      ∧ (2 ≤ (s.pocket p).hsc.overCount →
          (u.pocket p).hsc.overCount = 3 ∧ (u.pocket p).hsc.recoveryDue = (s.pocket p).hsc.recoveryDue
          ∧ ListTakes (s.pocket p).ce.faultPhase b.secondsCount .heaterOvercurrent (some (s.pocket p).hsc.energized)
              (s.pocket p).fl (u.pocket p).fl
          ∧ TripResponse b.now (b.phaseTicks p) (s.pocket p) (u.pocket p) ∧ LatchesGain (.fault p) s u
          ∧ DrumHalted b.now (s.coastTicks p) (s.pocket p) (u.pocket p) ∧ u.granted p = 0 ∧ u.requestOf p = none)

/-- The underload check is taken at the update at which its timer reaches the underload time while it is armed (R114, R118):
HEATER_UNDERLOAD is reported as a WARNING with E as its detail, and the pocket stays RUNNING. -/
def UnderloadWarns : Prop :=
  ∀ (p : Pocket) (r : Readings) (s b : State), s.mode = .operating → b = s.reach s.sm.nextUpdate → s.heating p = true →
    SamplesInRange p r → ChecksMade p r s b.now → UnderAt p r s → 0 < s.item p PocketItem.overloadTime →
    0 < s.item p PocketItem.underloadTime → (s.pocket p).hsc.underArmed = true →
    s.item p PocketItem.underloadTime * 1000 ≤ (s.pocket p).hsc.underTimer + 250 →
    ∃ u, exec (.supplyUpdate r) s = .next u ∧ (u.pocket p).hsc.underArmed = false ∧ (u.pocket p).ce.state = .running
      ∧ ListTakes (s.pocket p).ce.faultPhase b.secondsCount .heaterUnderload (some (s.pocket p).hsc.energized)
          (s.pocket p).fl (u.pocket p).fl
      ∧ ((s.pocket p).fl.holds .heaterUnderload = false → (u.pocket p).fl.holds .heaterUnderload = true →
          LatchesGain (.fault p) s u)

/-- A current check is taken at the update at `now`: it is made, its comparison holds, and its timer reaches its configured time, with the
check armed where it is the stuck-on or the underload check (R110, R118). -/
def CurrentCheckTaken (p : Pocket) (r : Readings) (s : State) (now : Ticks) : Prop :=
  ChecksMade p r s now
  ∧ ((OverAt p r s ∧ s.item p PocketItem.overloadTime ≤ (s.pocket p).hsc.overTimer + 250)
    ∨ (StuckAt p r s ∧ s.item p PocketItem.overloadTime ≤ (s.pocket p).hsc.stuckTimer + 250 ∧ (s.pocket p).hsc.stuckArmed = true)
    ∨ (UnderAt p r s ∧ s.item p PocketItem.underloadTime * 1000 ≤ (s.pocket p).hsc.underTimer + 250
        ∧ (s.pocket p).hsc.underArmed = true))

/-- The temperature checks (R116): the first exhaust sample out of range trips SENSOR_EXHAUST, in every cycle state, with the response of
R22, the first inlet sample out of range warns SENSOR_INLET; neither is reported again until a sample in range has armed its check. The
list takes the one report wherever no current check is taken at the same update, the current checks made or suspended. -/
def SensorChecksReportOnce : Prop :=
  ∀ (p : Pocket) (r : Readings) (s b : State), s.mode = .operating → b = s.reach s.sm.nextUpdate →
    0 < s.item p PocketItem.overloadTime → 0 < s.item p PocketItem.underloadTime →
    ∃ u, exec (.supplyUpdate r) s = .next u
      ∧ ((u.pocket p).hsc.exhaustArmed = true ↔ -200 ≤ exhaustOf r p ∧ exhaustOf r p ≤ 1500)
      ∧ ((u.pocket p).hsc.inletArmed = true ↔ -200 ≤ inletOf r p ∧ inletOf r p ≤ 1500)
      ∧ (¬ (-200 ≤ exhaustOf r p ∧ exhaustOf r p ≤ 1500) → (s.pocket p).hsc.exhaustArmed = true →
          (u.pocket p).ce.state = .faulted ∧ TripResponse b.now (b.phaseTicks p) (s.pocket p) (u.pocket p)
          ∧ LatchesGain (.fault p) s u
          ∧ ((s.pocket p).ce.state.stoppable = true →
              DrumHalted b.now (s.coastTicks p) (s.pocket p) (u.pocket p)
              ∧ (u.pocket p).hsc.energized = 0 ∧ u.granted p = 0 ∧ u.requestOf p = none))
      ∧ (¬ CurrentCheckTaken p r s b.now →
          (-200 ≤ inletOf r p → inletOf r p ≤ 1500 → ¬ (-200 ≤ exhaustOf r p ∧ exhaustOf r p ≤ 1500) →
            ((s.pocket p).hsc.exhaustArmed = true →
              ListTakes (s.pocket p).ce.faultPhase b.secondsCount .sensorExhaust none (s.pocket p).fl (u.pocket p).fl)
            ∧ ((s.pocket p).hsc.exhaustArmed = false → (u.pocket p).fl = (s.pocket p).fl))
          ∧ (-200 ≤ exhaustOf r p → exhaustOf r p ≤ 1500 → ¬ (-200 ≤ inletOf r p ∧ inletOf r p ≤ 1500) →
            ((s.pocket p).hsc.inletArmed = true →
              ListTakes (s.pocket p).ce.faultPhase b.secondsCount .sensorInlet none (s.pocket p).fl (u.pocket p).fl
              ∧ ((s.pocket p).fl.holds .sensorInlet = false → (u.pocket p).fl.holds .sensorInlet = true →
                  LatchesGain (.fault p) s u))
            ∧ ((s.pocket p).hsc.inletArmed = false → (u.pocket p).fl = (s.pocket p).fl))
          ∧ (SamplesInRange p r → (u.pocket p).fl = (s.pocket p).fl))

/-- O44. Heater supervision at a supply update (R109 to R118): the timers of the three current checks, the overcurrent check with its
recovery and its trip at the third detection, the underload warning, and the two temperature checks. The stuck-on check is O51. That a
timer rises by 250 ms up to its configured time and stays there, and that the overcurrent timer returns to 0 when its check is taken, is
the model's reading (notes/assumptions/31.md). The clock stands at the update (the model's choice, 2.md); the checks of both pockets work
from the readings (8.md). -/
def Obligations.HeaterChecksCutAndReport : Prop :=
  CheckTimersCount ∧ OvercurrentIsTaken ∧ UnderloadWarns ∧ SensorChecksReportOnce

/-- Committed power (R128, R129): under RATED the ratings of all entries; under METERED for each pocket the smaller of its power P and
the ratings of its entries up to its count e of the latest update, and the ratings of its entries above e, with P and e 0 before the
first update. -/
def CommittedPowerIsReckoned : Prop :=
  ∀ (s : State) (gs : List Grant) (sum : (Grant → Bool) → Nat), (∀ f, sum f = ((gs.filter f).map (·.rating)).sum) →
    (s.shared SharedItem.basis ≠ 1 → s.committedOf gs = sum (fun _ => true))
    ∧ (s.shared SharedItem.basis = 1 → ∀ (power count : Pocket → Nat),
        (∀ p, (∀ m, (s.pocket p).meter.reading = some m → power p = m.power ∧ count p = m.energized)
          ∧ ((s.pocket p).meter.reading = none → power p = 0 ∧ count p = 0)) →
        s.committedOf gs =
          min (power .A) (sum (fun g => g.pocket = .A ∧ g.stage ≤ count .A)) + sum (fun g => g.pocket = .A ∧ count .A < g.stage)
          + (min (power .B) (sum (fun g => g.pocket = .B ∧ g.stage ≤ count .B))
            + sum (fun g => g.pocket = .B ∧ count .B < g.stage)))

/-- An evaluation is made of moves, each a shedding, a grant or a reclaim as R133 to R135 give it, until none is left to make; then each
heat stage controller is told (R105, R106, R140), HEAT_CURTAILED is posted for a pocket that lost entries, and nothing else changes. -/
def EvaluationMovesUntilNoneIsLeft : Prop :=
  ∀ s u : State, u = s.evaluate →
    (∃ n, EvaluationMoves s n (s.sa.grants, s.sa.requests) (u.sa.grants, u.sa.requests))
    ∧ (¬ ∃ next, EvaluationMove s (u.sa.grants, u.sa.requests) next)
    ∧ u.committed ≤ u.ceiling ∧ u.ceiling = s.ceiling ∧ OnlyAccountMoved s u
    ∧ (∀ p, ToldOfGrants s.now (s.holdTicks p) (u.heatTarget p) (s.granted p) (u.granted p) (s.pocket p).hsc (u.pocket p).hsc)
    ∧ ∀ q, (u.port q).latch = (s.port q).latch
        ||| (if u.granted .A < s.granted .A then (EventKind.heatCurtailed .A).set &&& admitted (s.port q).mask else 0#24)
        ||| (if u.granted .B < s.granted .B then (EventKind.heatCurtailed .B).set &&& admitted (s.port q).mask else 0#24)

/-- O45. The supply account: committed power under both bases (R128, R129), and an evaluation (R131) as a chain of moves: above the
ceiling the lowest class sheds its newest entry (R135); else the first request of the highest class is granted where it fits beside the
guard (R130, R133), a CRITICAL one that does not fit takes the newest entry of a lower-class pocket where that can make room (R134), and
no request goes before it. That a release hold which has run out keeps the stage it asks for over a loss is the model's reading
(notes/assumptions/38.md). -/
def Obligations.EvaluationShedsAndServes : Prop := CommittedPowerIsReckoned ∧ EvaluationMovesUntilNoneIsLeft

/-- What a SHED has done to a pocket before the allocator evaluates (R141): its entries and its request have left the lists, its heat stage
controller has been told (R105), the hold runs, and HEAT_CURTAILED is posted where something was taken; the other pocket stands. -/
def ShedTaken (p : Pocket) (secs : Nat) (s x : State) : Prop :=
  OnlyAccountMoved (s.setShed p (some (s.now + seconds secs))) x ∧ x.pocket (otherPocket p) = s.pocket (otherPocket p)
  ∧ x.sa = { s.sa with grants := s.sa.grants.filter (fun g => g.pocket ≠ p), requests := s.sa.requests.filter (fun r => r.pocket ≠ p) }
  ∧ ToldOfGrants s.now (s.holdTicks p) (x.heatTarget p) (s.granted p) 0 (s.pocket p).hsc (x.pocket p).hsc
  ∧ ∀ q, x.port q = if 0 < s.granted p ∨ s.requestOf p ≠ none then (s.port q).post (.heatCurtailed p) else s.port q

/-- O46. SHED, RESTORE and the expiry of a hold (R141, R142): SHED of 1 to 240 minutes leaves the pocket without entries or request and
its hold at minutes × 60 s from now, posts HEAT_CURTAILED where it took something, and answers the hold time; other minutes are RANGE;
RESTORE answers the seconds that remained, or 0 without a hold, and with the expiry it ends the hold; none touches a cycle. SHED, the
expiry and a RESTORE that ends a hold then have the allocator evaluate (R131), which serves what waits and leaves committed power within
the ceiling. The model's readings in this: the time remaining is in whole seconds, truncated (notes/assumptions/23.md), a RESTORE
without a hold calls for no evaluation (4.md), and the clock stands at the expiry (2.md). -/
def Obligations.ShedHoldsAndRestores : Prop :=
  ∀ (p : Pocket) (tag m : Byte) (s : State),
    (s.hears .S → (m = 0#8 ∨ 240 < m.toNat) →
      exec (.shed .S tag (be1 (pocketCode p) ++ [m])) s = .next (s.answered .S 0x21#8 tag .range []))
    ∧ (s.hears .S → 1 ≤ m.toNat → m.toNat ≤ 240 →
      ∃ u, exec (.shed .S tag (be1 (pocketCode p) ++ [m])) s =
            .next (u.answered .S 0x21#8 tag .ok (be2 (m.toNat * 60)))
        ∧ (∃ x, ShedTaken p (m.toNat * 60) s x ∧ u = x.evaluate)
        ∧ OnlyAccountMoved (s.setShed p (some (s.now + seconds (m.toNat * 60)))) u ∧ u.granted p = 0 ∧ u.requestOf p = none
        ∧ u.committed ≤ u.ceiling
        ∧ ((0 < s.granted p ∨ s.requestOf p ≠ none) → LatchesGain (.heatCurtailed p) s u))
    ∧ (s.hears .S → (s.pocket p).shedDue = none →
      exec (.restore .S tag (be1 (pocketCode p))) s = .next (s.answered .S 0x22#8 tag .ok (be2 0)))
    ∧ (∀ t, s.hears .S → (s.pocket p).shedDue = some t →
      ∃ u, exec (.restore .S tag (be1 (pocketCode p))) s =
            .next (u.answered .S 0x22#8 tag .ok (be2 ((t - s.now) / 10000)))
        ∧ u = (s.setShed p none).evaluate ∧ OnlyAccountMoved (s.setShed p none) u ∧ u.committed ≤ u.ceiling)
    ∧ (∀ t, s.mode = .operating → (s.pocket p).shedDue = some t →
      ∃ u, exec (.shedHoldExpired p) s = .next u ∧ u = ((s.reach t).setShed p none).evaluate
        ∧ OnlyAccountMoved ((s.reach t).setShed p none) u ∧ u.committed ≤ u.ceiling)

/-- The kind `k` is in each port's latch after exactly where it was before. -/
def NotPosted (k : EventKind) (s t : State) : Prop := ∀ q, (t.port q).latch &&& k.set = (s.port q).latch &&& k.set

/-- O47. The supply level (R121, R122): a change of the level line value restarts the stability timer from 0; at 500 ms the line value
becomes the debounced level, which under FOLLOW_LINES is a change of the level in force, posted and evaluated (R131); SET_LEVEL forces a
level 0..7 or returns to the lines, evaluates always, posts LEVEL_CHANGE where the level in force changes and only there, answers the
source and the level in force, and is RANGE for any other value. The next state is the one that the post and the evaluation give.
Without a stability timer its expiry does nothing, and lines that stand do not change (the model's reading, notes/assumptions/4.md); the
clock stands at the expiry of a timer whose command comes (the model's choice, 2.md). -/
def Obligations.SupplyLevelFollowsLinesOrForce : Prop :=
  ∀ (s : State) (tag v : Byte) (l2 l1 l0 : Bool),
    (s.mode = .operating → levelOfLines l2 l1 l0 = s.levelLines → exec (.levelLinesChange l2 l1 l0) s = .next s)
    ∧ (s.mode = .operating → levelOfLines l2 l1 l0 ≠ s.levelLines →
      exec (.levelLinesChange l2 l1 l0) s = .next { s with
        levelLines := 4 * (if l2 then 1 else 0) + 2 * (if l1 then 1 else 0) + (if l0 then 1 else 0),
        sa := { s.sa with stabilityDue := some (s.now + 5000) } })
    ∧ (s.mode = .operating → s.sa.stabilityDue = none → exec .levelDebounceExpired s = .next s)
    ∧ (∀ t b, s.mode = .operating → s.sa.stabilityDue = some t →
        b = { s.reach t with sa := { s.sa with stabilityDue := none, debounced := some s.levelLines } } →
        ∃ u, exec .levelDebounceExpired s = .next u
          ∧ ((s.sa.debounced = some s.levelLines ∨ s.sa.forced ≠ none) → u = b)
          ∧ (s.sa.debounced ≠ some s.levelLines → s.sa.forced = none →
              u = (b.post .levelChange).evaluate ∧ OnlyAccountMoved b u ∧ LatchesGain .levelChange s u ∧ u.levelInForce = some s.levelLines ∧ u.committed ≤ u.ceiling))
    ∧ (s.hears .S → 7 < v.toNat → v ≠ 255#8 →
      exec (.setLevel .S tag [v]) s = .next (s.answered .S 0x60#8 tag .range []))
    ∧ (s.hears .S → v.toNat ≤ 7 →
      ∃ u, exec (.setLevel .S tag [v]) s = .next (u.answered .S 0x60#8 tag .ok [1#8, v])
        ∧ OnlyAccountMoved { s with sa := { s.sa with forced := some v.toNat } } u ∧ u.levelInForce = some v.toNat
        ∧ u.committed ≤ u.ceiling
        ∧ (s.levelInForce ≠ some v.toNat → LatchesGain .levelChange s u
            ∧ u = (({ s with sa := { s.sa with forced := some v.toNat } } : State).post .levelChange).evaluate)
        ∧ (s.levelInForce = some v.toNat →
            NotPosted .levelChange s u ∧ u = { s with sa := { s.sa with forced := some v.toNat } }.evaluate))
    ∧ (s.hears .S →
      ∃ u, exec (.setLevel .S tag [255#8]) s =
            .next (u.answered .S 0x60#8 tag .ok ([0#8] ++ be1 (s.sa.debounced.getD 255)))
        ∧ OnlyAccountMoved { s with sa := { s.sa with forced := none } } u ∧ u.levelInForce = s.sa.debounced
        ∧ u.committed ≤ u.ceiling
        ∧ (s.levelInForce ≠ s.sa.debounced → LatchesGain .levelChange s u
            ∧ u = (({ s with sa := { s.sa with forced := none } } : State).post .levelChange).evaluate)
        ∧ (s.levelInForce = s.sa.debounced →
            NotPosted .levelChange s u ∧ u = { s with sa := { s.sa with forced := none } }.evaluate))

/-- The writes of the working profile, check by check (R123, R124, R193, R194). -/
def ProfileWriteChecks : Prop :=
  ∀ (tag : Byte) (s : State), s.hears .S →
    (∀ level watts, level < 256 → watts < 4294967296 →
      (s.ps.saving = true →
        exec (.writeCeiling .S tag (be1 level ++ be4 watts)) s = .next (s.answered .S 0x61#8 tag .busy []))
      ∧ (s.ps.saving = false → (7 < level ∨ watts % 10 ≠ 0) →
        exec (.writeCeiling .S tag (be1 level ++ be4 watts)) s = .next (s.answered .S 0x61#8 tag .range []))
      ∧ (s.ps.saving = false → level ≤ 7 → watts % 10 = 0 →
        ∃ u, exec (.writeCeiling .S tag (be1 level ++ be4 watts)) s =
              .next (u.answered .S 0x61#8 tag .ok (be4 (min watts 300000)))
          ∧ (s.levelInForce ≠ some level → u = s.writeItem (SharedItem.ceiling level) (min watts 300000))
          ∧ (s.levelInForce = some level → u.committed ≤ u.ceiling
              ∧ u = (s.writeItem (SharedItem.ceiling level) (min watts 300000)).evaluate
              ∧ OnlyAccountMoved (s.writeItem (SharedItem.ceiling level) (min watts 300000)) u)))
    ∧ (∀ p cls, cls < 256 →
      (s.ps.saving = true →
        exec (.setClass .S tag (be1 (pocketCode p) ++ be1 cls)) s = .next (s.answered .S 0x62#8 tag .busy []))
      ∧ (s.ps.saving = false → 2 < cls →
        exec (.setClass .S tag (be1 (pocketCode p) ++ be1 cls)) s = .next (s.answered .S 0x62#8 tag .range []))
      ∧ (s.ps.saving = false → cls ≤ 2 →
        ∃ u, exec (.setClass .S tag (be1 (pocketCode p) ++ be1 cls)) s =
              .next (u.answered .S 0x62#8 tag .ok (be1 cls))
          ∧ u = (s.writeItem (itemNumber p PocketItem.priorityClass) cls).evaluate
          ∧ OnlyAccountMoved (s.writeItem (itemNumber p PocketItem.priorityClass) cls) u ∧ u.committed ≤ u.ceiling))
    ∧ (∀ number value, number < 65536 → value < 4294967296 →
      (itemRow? number = none →
        exec (.writeProfile .S tag (be2 number ++ be4 value)) s = .next (s.answered .S 0x63#8 tag .range []))
      ∧ ∀ row, itemRow? number = some row →
        (notByWriteProfile number = true →
          exec (.writeProfile .S tag (be2 number ++ be4 value)) s = .next (s.answered .S 0x63#8 tag .denied []))
        ∧ (notByWriteProfile number = false → (s.ps.saving = true ∨ ∃ p ∈ itemPockets number, (s.pocket p).ce.writable = false) →
          exec (.writeProfile .S tag (be2 number ++ be4 value)) s = .next (s.answered .S 0x63#8 tag .busy []))
        ∧ (notByWriteProfile number = false → s.ps.saving = false → (∀ p ∈ itemPockets number, (s.pocket p).ce.writable = true) →
            (value < row.least ∨ row.greatest < value ∨ value % row.step ≠ 0
              ∨ (s.ps.profile.write number value).jointlyValid = false) →
          exec (.writeProfile .S tag (be2 number ++ be4 value)) s = .next (s.answered .S 0x63#8 tag .range []))
        ∧ (notByWriteProfile number = false → s.ps.saving = false → (∀ p ∈ itemPockets number, (s.pocket p).ce.writable = true) →
            row.least ≤ value → value ≤ row.greatest → value % row.step = 0 →
            (s.ps.profile.write number value).jointlyValid = true →
          exec (.writeProfile .S tag (be2 number ++ be4 value)) s =
            .next ((s.writeItem number value).answered .S 0x63#8 tag .ok (be2 number ++ be4 value))))
    ∧ (∀ number value other, number ∈ s.ps.profile.map (·.1) →
        (s.writeItem number value).ps.unsaved = true ∧ (s.writeItem number value).shared number = value
        ∧ (other ≠ number → (s.writeItem number value).shared other = s.shared other))

/-- A pocket's items as R27, R28, R49, R67, R87, R99, R100, R2, R21, R185 and R124 give them: index, least, greatest, step, default. -/
def pocketItems : List (Nat × Nat × Nat × Nat × Nat) :=
  [(0x00, 2, 20, 1, 8), (0x01, 1, 20, 1, 6), (0x02, 0, 15, 1, 2), (0x03, 5, 50, 1, 25), (0x04, 0, 3, 1, 2),
   (0x10, 10, 600, 1, 120), (0x11, 0, 600, 1, 120), (0x12, 2, 60, 1, 4), (0x13, 0, 1, 1, 1), (0x14, 0, 1, 1, 1),
   (0x18, 10, 600, 1, 300), (0x19, 0, 600, 1, 0), (0x1A, 2, 60, 1, 4), (0x1B, 0, 1, 1, 1), (0x1C, 0, 1, 1, 0),
   (0x20, 10, 600, 1, 60), (0x21, 0, 600, 1, 60), (0x22, 2, 60, 1, 4), (0x23, 0, 1, 1, 0), (0x24, 0, 1, 1, 1),
   (0x28, 10, 600, 1, 10), (0x29, 0, 600, 1, 10), (0x2A, 2, 60, 1, 60), (0x2B, 0, 1, 1, 0), (0x2C, 0, 1, 1, 0),
   (0x30, 0, 1, 1, 0), (0x31, 5, 100, 1, 10), (0x32, 6, 20, 1, 6), (0x33, 20, 60, 1, 40), (0x34, 100, 4000, 1, 1200),
   (0x35, 1, 30, 1, 8), (0x38, 1, 6, 1, 3), (0x39, 0, 15, 1, 3), (0x3A, 0, 15, 1, 1), (0x3B, 0, 200, 1, 80),
   (0x40, 10, 500, 1, 60), (0x41, 20, 2000, 1, 250), (0x42, 2, 15, 1, 8), (0x43, 10, 300, 1, 20)]
  ++ [(0x48, 0, 20000, 10, 3000), (0x49, 0, 20000, 10, 3000), (0x4A, 0, 20000, 10, 3000), (0x4B, 0, 20000, 10, 3000),
   (0x4C, 0, 20000, 10, 0), (0x4D, 0, 20000, 10, 0), (0x50, 5, 100, 1, 20), (0x51, 2, 60, 1, 10), (0x52, 0, 120, 1, 30),
   (0x53, 5, 50, 1, 20), (0x54, 250, 5000, 250, 1000), (0x55, 20, 500, 1, 100), (0x56, 5, 60, 1, 20), (0x58, 40, 90, 1, 80),
   (0x59, 35, 60, 1, 45), (0x5A, 1, 30, 1, 5), (0x5F, 0, 2, 1, 1)]

/-- The shared items as R125, R150 and R123 give them: number, least, greatest, step, default. -/
def sharedItems : List (Nat × Nat × Nat × Nat × Nat) :=
  [(0x00, 0, 1, 1, 0), (0x01, 0, 20000, 10, 1000), (0x02, 500, 2000, 1, 1732), (0x03, 2000, 4500, 1, 3600),
   (0x04, 3800, 5600, 1, 4400), (0x05, 10, 200, 1, 50), (0x08, 0, 300000, 10, 24000), (0x09, 0, 300000, 10, 20000),
   (0x0A, 0, 300000, 10, 16000), (0x0B, 0, 300000, 10, 12000), (0x0C, 0, 300000, 10, 8000), (0x0D, 0, 300000, 10, 6000),
   (0x0E, 0, 300000, 10, 3000), (0x0F, 0, 300000, 10, 0)]

/-- The items, their ranges, steps and defaults are those of R192's tables; the ceilings and classes are the items WRITE_PROFILE may not
write, a pocket's items wait for its own state and the shared ones for both, IDLE or FAULTED after its wind-down (R193); the joint
conditions are those of R194. -/
def ItemsAreThoseOfTheTables : Prop :=
  (∀ row : ItemRow, itemRow? row.number = some row ↔
    (row.number, row.least, row.greatest, row.step, row.default) ∈ sharedItems
    ∨ ∃ index, (index, row.least, row.greatest, row.step, row.default) ∈ pocketItems
        ∧ (row.number = 0x100 + index ∨ row.number = 0x200 + index))
  ∧ (∀ n, notByWriteProfile n = true ↔ (0x08 ≤ n ∧ n ≤ 0x0F) ∨ n = 0x15F ∨ n = 0x25F)
  ∧ (∀ n p, p ∈ itemPockets n ↔ (p = .A ∧ ¬ (0x200 ≤ n ∧ n < 0x300)) ∨ (p = .B ∧ ¬ (0x100 ≤ n ∧ n < 0x200)))
  ∧ (∀ c : CycleEngine, c.writable = true ↔ c.state = .idle ∨ (c.state = .faulted ∧ c.windingDown = false))
  ∧ (∀ f : Profile, f.jointlyValid = true ↔
      f.value 0x03 + f.value 0x05 + f.value 0x05 ≤ f.value 0x04
      ∧ (f.value 0x139 ≠ 0 ∨ f.value 0x13A ≠ 0) ∧ (f.value 0x239 ≠ 0 ∨ f.value 0x23A ≠ 0))

/-- O48. The writes of the working profile (R123, R124, R194): while SAVING each is BUSY; WRITE_CEILING is RANGE for an entry above 7
or watts off the step of 10, stores at most 300,000 W, and evaluates where the entry is the level in force's; SET_CLASS is RANGE for
a class above 2 and evaluates always; WRITE_PROFILE is RANGE for no item, DENIED for a ceiling or a class, BUSY in a state that R193
does not allow, RANGE for a value that the item does not admit or that breaks a joint condition, and else changes the item alone.
Each accepted write sets the unsaved flag. The items, their ranges and the joint conditions are those of R192 to R194. -/
def Obligations.ProfileWritesAreChecked : Prop := ProfileWriteChecks ∧ ItemsAreThoseOfTheTables

/-! ## The meter (R145 to R154) -/

/-- O49. A voltage sample (R146, R147, R148): it is stored; a sample below the low threshold or a reading of 0 or 6,000 raises the
low-side run, one above the high threshold the high-side run, one within the hysteresis the band run, each to at most 255, and sets the
others to 0, as a margin sample sets all three; the condition is LOW from a low-side run of 5, HIGH from a high-side run of 5 and
NORMAL from a band run of 41; VSENSE_FAULT is the sample's; the held voltage is the latest sample without it. SUPPLY_CONDITION is posted
at a change of either. Each E follows its target (R107, R108), so that without NORMAL no stage stays energized, and nothing but the
meter, the two energized counts with their times, and the latches changes. The clock stands at the sample (the model's choice,
notes/assumptions/2.md). -/
def Obligations.VoltageSampleMovesTheCondition : Prop :=
  ∀ (v : Nat) (s : State), s.mode = .operating → v ≤ 6000 →
    ∃ u low high band, exec (.voltageSample v) s = .next u ∧ u.now = max s.now s.sm.nextSample
      ∧ u.sm = { s.sm with
          nextSample := s.sm.nextSample + 500, sample := some v, lowRun := low, highRun := high, bandRun := band,
          held := if v = 0 ∨ v = 6000 then s.sm.held else some v, senseFault := decide (v = 0 ∨ v = 6000),
          condition := if 5 ≤ low then .low else if 5 ≤ high then .high else if 41 ≤ band then .normal else s.sm.condition }
      ∧ (low = if v = 0 ∨ v = 6000 ∨ v < s.shared SharedItem.lowThreshold then min 255 (s.sm.lowRun + 1) else 0)
      ∧ (high = if ¬ (v = 0 ∨ v = 6000 ∨ v < s.shared SharedItem.lowThreshold) ∧ s.shared SharedItem.highThreshold < v
          then min 255 (s.sm.highRun + 1) else 0)
      ∧ (band = if ¬ (v = 0 ∨ v = 6000 ∨ v < s.shared SharedItem.lowThreshold)
            ∧ s.shared SharedItem.lowThreshold + s.shared SharedItem.voltageHysteresis ≤ v
            ∧ v + s.shared SharedItem.voltageHysteresis ≤ s.shared SharedItem.highThreshold ∧ v ≤ s.shared SharedItem.highThreshold
          then min 255 (s.sm.bandRun + 1) else 0)
      ∧ (u.sm.condition ≠ .normal → ∀ p, (u.pocket p).hsc.energized = 0)
      ∧ ((u.sm.condition ≠ s.sm.condition ∨ u.sm.senseFault ≠ s.sm.senseFault) →
          ∀ q, u.port q = (s.port q).post .supplyCondition)
      ∧ (¬ (u.sm.condition ≠ s.sm.condition ∨ u.sm.senseFault ≠ s.sm.senseFault) → ∀ q, u.port q = s.port q)
      ∧ u.pending = s.pending ∧ u.mode = s.mode ∧ u.loadedAt = s.loadedAt ∧ u.levelLines = s.levelLines
      ∧ u.sa = s.sa ∧ u.ps = s.ps ∧ (∀ p, SameButHeat (s.pocket p) (u.pocket p))
      ∧ ∀ p, FollowsTarget u.now (s.stageTicks p) (u.heatTarget p) (s.pocket p).hsc (u.pocket p).hsc

/-- The blocks of an update in their order (R117, R131; between the rules and between the pockets notes/assumptions/8.md): the readings
are stored; the heater checks of A and of B work from the energized counts and currents of the readings; under METERED the allocator
evaluates; the regulators step; the COOL_TEMP ends, the run-on ends and the releases that waited for the update's end come last. -/
def SupplyUpdateRunsInOrder : Prop :=
  ∀ (r : Readings) (s : State), s.mode = .operating →
    ∃ (taken checked stepped ended u : State) (inputs : Pocket → CheckInputs), exec (.supplyUpdate r) s = .next u
      ∧ taken = (((s.onHsc .A (fun h => { h with freshGrant := false })).onHsc .B (fun h => { h with freshGrant := false })).beginUpdate
          (min r.voltage 6000)).storeReadings r
      ∧ (∀ p, inputs p =
          { energized := (s.pocket p).hsc.energized, current := currentOf r p, expected := (taken.expectedCurrent p (min r.voltage 6000)),
            suspended := taken.checksSuspended p (min r.voltage 6000) })
      ∧ checked = (taken.heaterChecks .A r.exhaustA r.inletA (inputs .A)).heaterChecks .B r.exhaustB r.inletB (inputs .B)
      ∧ stepped = ((if s.shared SharedItem.basis = 1 then checked.evaluate else checked).regulate .A r.exhaustA).regulate .B r.exhaustB
      ∧ ended = (((stepped.coolTempEnd .A).coolTempEnd .B).runOnExhaustEnd .A).runOnExhaustEnd .B
      ∧ u = (ended.endFreshGrant .A (s.pocket .A).hsc.freshGrant).endFreshGrant .B (s.pocket .B).hsc.freshGrant

/-- The end of an update for a pocket (R106): where a grant came before the update (`fresh`) and none came in it, a release hold that has
run out by now asks for the release of the pocket's top stage; otherwise nothing is asked for, and the hold runs on. -/
def UpdateEndAsksForTheRelease : Prop :=
  ∀ (p : Pocket) (s b u : State), b = s.onHsc p (fun h => { h with askedStage := none }) →
    s.endFreshGrant p false = s
    ∧ (u = s.endFreshGrant p true →
        (¬ HoldRanOut s.now (s.holdTicks p) (s.pocket p).hsc → u = b)
        ∧ (HoldRanOut s.now (s.holdTicks p) (s.pocket p).hsc → s.granted p = 0 → u = b)
        ∧ (HoldRanOut s.now (s.holdTicks p) (s.pocket p).hsc → 0 < s.granted p → TopStageReleased p b u))

/-- What an update meters and stores (R65, R109, R127, R145, R151, R153, R154). -/
def SupplyUpdateMeters : Prop :=
  ∀ (r : Readings) (s : State), s.mode = .operating → r.voltage ≤ 6000 →
    ∃ u, exec (.supplyUpdate r) s = .next u ∧ u.now = max s.now s.sm.nextUpdate ∧ u.mode = .operating ∧ u.pending = s.pending
      ∧ u.loadedAt = s.loadedAt ∧ u.levelLines = s.levelLines ∧ u.ps = s.ps
      ∧ u.sm = { s.sm with nextUpdate := s.sm.nextUpdate + 2500, updateVoltage := some r.voltage }
      ∧ u.sa = { s.sa with updateCount := (s.sa.updateCount + 1) % 4294967296, grants := u.sa.grants, requests := u.sa.requests }
      ∧ ∀ p, (u.pocket p).lines = (s.pocket p).lines ∧ (u.pocket p).shedDue = (s.pocket p).shedDue
        ∧ (u.pocket p).me.exhaust = some (exhaustOf r p) ∧ (u.pocket p).me.inlet = some (inletOf r p)
        ∧ ((s.pocket p).ce.windingDown = false ∨ (s.pocket p).ce.runOnSince = none ∨ (s.pocket p).dmc.state ≠ .stopped →
            (u.pocket p).sb = (s.pocket p).sb)
        ∧ (u.pocket p).me.s16 = (s.pocket p).me.s16 ∧ (u.pocket p).me.index = (s.pocket p).me.index
        ∧ (u.pocket p).rcu.nextSequence = (s.pocket p).rcu.nextSequence
        ∧ (u.pocket p).hsc.expected = (if r.voltage = 0 ∨ r.voltage = 6000 then none
            else some (((List.range (s.pocket p).hsc.energized).map (fun k => s.rating p (k + 1))).sum * 1000000
              / (r.voltage * s.shared SharedItem.phaseFactor)))
        ∧ ∃ ic power wh, ic = currentOf r p
          ∧ power = (if r.voltage = 0 ∨ r.voltage = 6000 then s.sm.held.getD 0 else r.voltage) * ic
              * s.shared SharedItem.phaseFactor / 1000000
          ∧ wh * 14400 + (u.pocket p).meter.residual = (s.pocket p).meter.residual + power
          ∧ (u.pocket p).meter.residual < 14400
          ∧ (u.pocket p).meter.totalEnergy = min 4294967295 ((s.pocket p).meter.totalEnergy + wh)
          ∧ ((s.pocket p).ce.inCycle = true →
              (u.pocket p).meter.cycleEnergy = min 4294967295 ((s.pocket p).meter.cycleEnergy + wh))
          ∧ ((s.pocket p).ce.inCycle = false → (u.pocket p).meter.cycleEnergy = (s.pocket p).meter.cycleEnergy)
          ∧ (u.pocket p).meter.reading = some { current := ic, energized := (s.pocket p).hsc.energized, power := power }

/-- O50. A supply update (R65, R109, R127, R145, R151, R153, R154): the clock stands at the update, the update count rises by one and
wraps, the next update is 250 ms on; each pocket's samples are stored as delivered; its power is Vd × Ic × F / 1,000,000 with the
update's voltage, or the held voltage at a sense-fault reading, or 0 without one; the power joins the residual, each whole 14,400 of
which is 1 Wh on the counter since start-up and, within a cycle, on the cycle's; the expected current is the ratings of the stages
energized × 1,000,000 / (Vd × F), none at a sense-fault reading. The rest of the meter, the level items, the profile, the lines, the
buffers but at a wind-down's end, and the shed holds stand. The blocks act in the order of R117, and at the end a release hold that
waited for it asks for its release (R106). The clock at the update (notes/assumptions/2.md) and the order between the pockets and
between the rules (8.md) are the model's choice; that a grant made in the update waits for the next one (28.md), and that the stage then
asked for is the one on top then (38.md), are its readings. -/
def Obligations.SupplyUpdateMetersBothPockets : Prop :=
  SupplyUpdateMeters ∧ SupplyUpdateRunsInOrder ∧ UpdateEndAsksForTheRelease

/-- O51. The stuck-on check (R113, R110): at an update that is not suspended, with no stage energized and the current above the
off-current limit, at which the check's timer reaches the overload time while the check is armed, SAFE opens, HEATER_STUCK_ON is
listed, whatever the list held, and the pocket is FAULTED with no stage energized, from a cycle with its drum stopped (R22, R38). -/
def Obligations.StuckOnOpensSafe : Prop :=
  ∀ (p : Pocket) (r : Readings) (s : State), s.mode = .operating → r.voltage ≠ 0 → r.voltage < 6000 →
    s.sm.condition = .normal → (s.pocket p).hsc.energized = 0 → (s.pocket p).hsc.lastChange + 10000 ≤ max s.now s.sm.nextUpdate →
    s.item p PocketItem.offCurrentLimit < min (match p with | .A => r.currentA | .B => r.currentB) 10000 →
    s.item p PocketItem.overloadTime ≤ (s.pocket p).hsc.stuckTimer + 250 → 0 < s.item p PocketItem.overloadTime →
    (s.pocket p).hsc.stuckArmed = true →
    ∃ u, exec (.supplyUpdate r) s = .next u ∧ (u.pocket p).hsc.safe = false ∧ (u.pocket p).fl.holds .heaterStuckOn = true
      ∧ (u.pocket p).ce.state = .faulted ∧ (u.pocket p).hsc.energized = 0
      ∧ ((s.pocket p).ce.state.stoppable = true →
          DrumHalted (max s.now s.sm.nextUpdate) (s.coastTicks p) (s.pocket p) (u.pocket p))

/-- L becomes `n` by the regulator (R103, R106, R108): a change sets its time and restarts the release hold while g stays above it; at g
the hold is idle; E follows its target. -/
def LevelBecomes (p : Pocket) (n : Nat) (s x : State) : Prop :=
  ∃ h : HeatStages, x = s.onHsc p (fun _ => h)
    ∧ FollowsTarget s.now (s.stageTicks p) (x.heatTarget p)
      { (s.pocket p).hsc with
          level := n,
          lastLevelChange := if n = (s.pocket p).hsc.level then (s.pocket p).hsc.lastLevelChange else some s.now,
          holdSince := if s.granted p ≤ n then none
            else if n ≠ (s.pocket p).hsc.level ∨ (s.pocket p).hsc.holdSince = none then some s.now
            else (s.pocket p).hsc.holdSince,
          askedStage := if s.granted p ≤ n ∨ n ≠ (s.pocket p).hsc.level ∨ (s.pocket p).hsc.holdSince = none then none
            else (s.pocket p).hsc.askedStage } h

/-- A request for stage g + 1 is posted (R103, R132): it joins the pending list with the present update count, behind a request of the
other pocket, but before one of pocket B with the same post time if it is of pocket A (R127), and the allocator evaluates. -/
def RequestPosted (p : Pocket) (s u : State) : Prop :=
  ∃ (r : StageRequest) (rs : List StageRequest), r = { pocket := p, stage := s.granted p + 1, posted := s.sa.updateCount }
    ∧ u = (s.relisted s.sa.grants rs).evaluate ∧ (s.sa.requests = [] → rs = [r])
    ∧ (∀ q, s.sa.requests = [q] → rs = if p = .A ∧ q.pocket = .B ∧ q.posted = r.posted then [r, q] else [q, r])

/-- The regulator of a pocket RUNNING on a heat phase with an exhaust sample `te` (R102 to R104), outside it nothing. -/
def RegulatorSteps : Prop :=
  (∀ (p : Pocket) (te : Int) (s : State), s.heating p = false → s.regulate p te = s)
  ∧ ∀ (p : Pocket) (te : Int) (s u : State) (e : PhaseEntry), s.heating p = true → s.entry p = some e → u = s.regulate p te →
    ∀ (hb l g cap : Nat) (due : Prop) (tt : Int), hb = s.item p PocketItem.hysteresis → tt = e.temperature * 10 →
    l = (s.pocket p).hsc.level → g = s.granted p → cap = s.effectiveCap p →
    (due ↔ ∀ t, (s.pocket p).hsc.lastLevelChange = some t → t + s.stageTicks p ≤ s.now) →
    OnlyAccountMoved s u
    ∧ ((te < -200 ∨ 1500 < te ∨ tt + 3 * hb ≤ te) →
        (∃ x, LevelBecomes p 0 s x ∧ Withdrawn p x u)
        ∧ (u.pocket p).hsc.level = 0 ∧ (u.pocket p).hsc.energized = 0 ∧ u.requestOf p = none)
    ∧ (-200 ≤ te → te ≤ 1500 → te < tt + 3 * hb →
        (tt + hb ≤ te → tt - hb < te → due → ∃ x, LevelBecomes p (l - 1) s x ∧ Withdrawn p x u)
        ∧ (tt - hb < te → (te < tt + hb ∨ ¬ due) → Withdrawn p s u)
        ∧ (tt - hb < te → u.requestOf p = none)
        ∧ (te ≤ tt - hb → 0 < hb →
            (due → l < cap → l < g → LevelBecomes p (l + 1) s u ∧ u.sa = s.sa)
            ∧ (due → l < cap → g = l → s.requestOf p = none → (s.pocket p).shedDue = none → RequestPosted p s u)
            ∧ ((¬ due ∨ cap ≤ l ∨ (g ≤ l ∧ (s.requestOf p ≠ none ∨ (s.pocket p).shedDue ≠ none))) → u = s)))

/-- O52. The regulator (R102, R103, R104, R132), as a supply update runs it (its place among the blocks: R117, notes/assumptions/8.md):
out of the sense range, or at or above the cut threshold, L and E are 0 at once; at or above the upper threshold, with the stage interval
passed, L falls by exactly one; strictly between the thresholds, and before the interval has passed, L stands; in each of these a pending
request is withdrawn, with an evaluation; at or below the lower threshold, with the interval passed and L below the cap, L rises by one
into a stage already granted, or a request for stage g + 1 is posted where g equals L, none is pending and no shed hold runs; in every
other case nothing changes. A hold that ends or restarts keeps no stage as asked for (the model's reading, 38.md). -/
def Obligations.RegulatorStepsTheLevel : Prop := RegulatorSteps ∧ SupplyUpdateRunsInOrder

/-! ## Fault lists and sample buffers (R157 to R170, R185, R186) -/

/-- O53. A report reaches the pocket's fault list (R160 to R164): the list takes it as those rules say; a TRIP, stored or not, moves
the pocket as R22 gives and posts FAULT; a WARNING changes no cycle state and posts FAULT exactly where it makes a new record. That a report of
HEATER_STUCK_ON opens SAFE and takes E to 0 whoever sends it is the model's choice (notes/assumptions/18.md). -/
def Obligations.ReportsAreListedAndTrip : Prop :=
  ∀ (p : Pocket) (k : FaultKind) (detail : Option Nat) (s : State), s.mode = .operating →
    ∃ u, exec (.faultReport p k detail) s = .next u
      ∧ ListTakes (s.pocket p).ce.faultPhase s.secondsCount k detail (s.pocket p).fl (u.pocket p).fl
      ∧ SameRecordsButFaults (s.pocket p) (u.pocket p)
      ∧ (isTrip k = true → Tripped p s u)
      ∧ (k = .heaterStuckOn → (u.pocket p).hsc.safe = false ∧ (u.pocket p).hsc.energized = 0
          ∧ (u.pocket p).fl.holds .heaterStuckOn = true)
      ∧ (isTrip k = false → OnlyPocketAndLatches p s u ∧ (u.pocket p).ce = (s.pocket p).ce ∧ (u.pocket p).hsc = (s.pocket p).hsc
          ∧ (u.pocket p).dmc = (s.pocket p).dmc ∧ (u.pocket p).rcu = (s.pocket p).rcu ∧ (u.pocket p).me = (s.pocket p).me
          ∧ (u.pocket p).tm = (s.pocket p).tm
          ∧ ((s.pocket p).fl.holds k = false ∧ (u.pocket p).fl.holds k = true → LatchesGain (.fault p) s u)
          ∧ (¬ ((s.pocket p).fl.holds k = false ∧ (u.pocket p).fl.holds k = true) → ∀ q, u.port q = s.port q))

/-- The condition of each kind (R167). -/
def ConditionsAreThoseOfTheTable : Prop :=
  ∀ (s : State) (p : Pocket),
    (∀ k : FaultKind, (k = .drumStall ∨ k = .driveFault ∨ k = .beltSlip ∨ k = .airflowFail) → s.conditionPresent p k = false)
    ∧ (s.conditionPresent p .highLimit = true ↔ (s.pocket p).lines.hlimClosed = false)
    ∧ (s.conditionPresent p .heaterStuckOn = true ↔
        ∃ m, (s.pocket p).meter.reading = some m ∧ s.item p PocketItem.offCurrentLimit < m.current)
    ∧ (s.conditionPresent p .heaterOvercurrent = true ↔ (s.pocket p).hsc.overHolds = true)
    ∧ (s.conditionPresent p .heaterUnderload = true ↔ (s.pocket p).hsc.underHolds = true)
    ∧ (s.conditionPresent p .sensorExhaust = true ↔ ∃ t, (s.pocket p).me.exhaust = some t ∧ (t < -200 ∨ 1500 < t))
    ∧ (s.conditionPresent p .sensorInlet = true ↔ ∃ t, (s.pocket p).me.inlet = some t ∧ (t < -200 ∨ 1500 < t))
    ∧ (s.conditionPresent p .tanglePersist = true ↔ (s.pocket p).tm.relief = true)

/-- CLEAR_FAULT as it acts (R168, R23). -/
def ClearFaultActs : Prop :=
  ∀ (p : Pocket) (q : Port) (tag : Byte) (s : State), s.hears q → (q = ownPort p ∨ q = .S) →
    ((s.pocket p).ce.state = .faulted → (s.pocket p).ce.windingDown = true →
      exec (.clearFault q tag (be1 (pocketCode p))) s = .next (s.answered q 0x31#8 tag .busy []))
    ∧ (¬ ((s.pocket p).ce.state = .faulted ∧ (s.pocket p).ce.windingDown = true) →
      ∃ u rest, exec (.clearFault q tag (be1 (pocketCode p))) s =
          .next (u.answered q 0x31#8 tag .ok
            (be1 ((s.pocket p).fl.records.length - rest.length) ++ be1 rest.length
              ++ be1 (rest.filter (fun r => isTrip r.kind)).length ++ flagByte (s.pocket p).fl.full))
        ∧ rest = (s.pocket p).fl.records.filter (fun r => s.conditionPresent p r.kind)
        ∧ (u.pocket p).fl = { records := rest, full := false } ∧ OnlyPocket p s u
        ∧ (((s.pocket p).fl.holds .heaterStuckOn = true ∧ s.conditionPresent p .heaterStuckOn = false) →
            (u.pocket p).hsc.safe = true)
        ∧ (¬ ((s.pocket p).fl.holds .heaterStuckOn = true ∧ s.conditionPresent p .heaterStuckOn = false) →
            (u.pocket p).hsc = (s.pocket p).hsc)
        ∧ (u.pocket p).ce = { (s.pocket p).ce with state :=
            if (s.pocket p).ce.state = .faulted ∧ (∀ r ∈ rest, isTrip r.kind = false) then .idle else (s.pocket p).ce.state }
        ∧ (u.pocket p).dmc = (s.pocket p).dmc ∧ (u.pocket p).rcu = (s.pocket p).rcu ∧ (u.pocket p).me = (s.pocket p).me
        ∧ (u.pocket p).tm = (s.pocket p).tm ∧ SameRecordsButFaults (s.pocket p) (u.pocket p))

/-- O54. CLEAR_FAULT from the own port or port S (R168, R23): BUSY while the pocket's fault wind-down is in progress; else the records
whose condition is absent are removed, the others keep their order, the list-full flag is cleared, SAFE is asserted again where
HEATER_STUCK_ON was removed, and a FAULTED pocket left without a TRIP record is IDLE; the reply counts what was removed, what remains
and the TRIP records among it, and tells the flag as it stood. The condition of each kind is that of R167. -/
def Obligations.ClearFaultRemovesWhatHasGone : Prop := ClearFaultActs ∧ ConditionsAreThoseOfTheTable

/-- O55. FETCH_SAMPLES and the flush timer (R185, R186): EMPTY without a READY buffer, changing nothing; else the older READY buffer
is returned with the overrun flag, the number of records and the records, oldest first, 16 bytes each; it is emptied, and is FILLING
where no buffer is FILLING and FREE otherwise, and the flag is cleared. The flush timer makes a FILLING buffer that holds a record READY
and posts SAMPLES_READY; of two READY buffers the older is the one that became READY first.
The clock stands at the expiry of a timer whose command comes (the model's choice, notes/assumptions/2.md). -/
def Obligations.SamplesAreFetchedOnce : Prop :=
  ∀ (p : Pocket) (q : Port) (tag : Byte) (s : State),
    (s.hears q → (q = ownPort p ∨ q = .S) →
      ((s.pocket p).sb.x.state ≠ .ready → (s.pocket p).sb.y.state ≠ .ready →
        exec (.fetchSamples q tag (be1 (pocketCode p))) s = .next (s.answered q 0x30#8 tag .empty []))
      ∧ (∀ name, ((s.pocket p).sb.buffer name).state = .ready →
          (((s.pocket p).sb.buffer name.other).state ≠ .ready ∨ (s.pocket p).sb.olderReady = name) →
        ∃ u body, exec (.fetchSamples q tag (be1 (pocketCode p))) s =
            .next (u.answered q 0x30#8 tag .ok
              (be1 (bufferCode name) ++ flagByte (s.pocket p).sb.overrun ++ be1 ((s.pocket p).sb.buffer name).records.length ++ body))
          ∧ body.length = 16 * ((s.pocket p).sb.buffer name).records.length
          ∧ body = ((s.pocket p).sb.buffer name).records.flatMap encodeRecord
          ∧ OnlyPocket p s u ∧ { u.pocket p with sb := (s.pocket p).sb } = s.pocket p
          ∧ ((u.pocket p).sb.buffer name).records = [] ∧ (u.pocket p).sb.overrun = false
          ∧ (u.pocket p).sb.buffer name.other = (s.pocket p).sb.buffer name.other
          ∧ (u.pocket p).sb.flushDue = (s.pocket p).sb.flushDue
          ∧ (((s.pocket p).sb.buffer name.other).state = .filling → ((u.pocket p).sb.buffer name).state = .free)
          ∧ (((s.pocket p).sb.buffer name.other).state ≠ .filling → ((u.pocket p).sb.buffer name).state = .filling)))
    ∧ (∀ t name b, s.mode = .operating → (s.pocket p).sb.flushDue = some t → (s.pocket p).sb.fillingHeld = some name →
        b = s.reach t →
        ∃ u, exec (.flushTimerExpired p) s = .next u ∧ OnlyPocketAndLatches p b u ∧ LatchesGain (.samplesReady p) s u
          ∧ { u.pocket p with sb := (s.pocket p).sb } = s.pocket p
          ∧ MadeReady name (s.pocket p).sb (u.pocket p).sb)

/-! ## What every step keeps -/

/-- O56. Heat only where it is permitted (R107): if no pocket's energized count exceeds min(L, g) while its eight interlocks pass, and
0 while one fails, then after any step none does; in states that agree on SAFE and the fault list (O59). -/
def Obligations.StepKeepsHeatPermitted : Prop :=
  ∀ s t : State, FaultsAgree s → HeatAllowed s → step s = .next t → HeatAllowed t

/-- O57. The supply account (R126, R127, R131, R101): entries are stages 1..g within the effective cap, at most one request of stage
g + 1 within the cap, L at most g, neither entries nor a request outside RUNNING on a heat phase or under a shed hold, and committed
power within the ceiling in force; the level lines, the debounced level and a forced level are levels 0 to 7 (R121, R122). Every step keeps
both. -/
def Obligations.StepKeepsTheAccount : Prop :=
  ∀ s t : State, LevelsHold s ∧ AccountHolds s → step s = .next t → LevelsHold t ∧ AccountHolds t

/-- O58. The reversal lockout (R31): a run output is asserted only where the opposite one has been off for 2 s; every step keeps
it. -/
def Obligations.StepKeepsTheLockout : Prop := ∀ s t : State, LockoutKept s → step s = .next t → LockoutKept t

/-- O59. The fault lists (R158, R162, R165, R113): at most six records, each kind once; a TRIP record is listed exactly while the pocket is
FAULTED; from the end of start-up SAFE is deasserted exactly while HEATER_STUCK_ON is listed; every step keeps it. -/
def Obligations.StepKeepsTripsAndSafe : Prop := ∀ s t : State, FaultsAgree s → step s = .next t → FaultsAgree t

/-- O60. The sample buffers (R185) and the ports (R177, R180, R181, R183): every step keeps the buffers' law and the ports'. -/
def Obligations.StepKeepsBuffersAndPorts : Prop :=
  ∀ s t : State, BuffersHold s ∧ PortsHold s → step s = .next t → BuffersHold t ∧ PortsHold t
end

