-- ==== Sys2Proof/Laws/State.lean ====
section
/-! SUPPORT. One lemma per field per update of the state: what reading a field gives after a pocket, a port, a block or the clock
has been replaced. Cited by simp, so that no later proof unfolds a record update. -/

namespace Sys2Proof.Machine

/-! ## Pockets -/

@[simp] theorem otherPocket_ne (p : Pocket) : otherPocket p ≠ p := by cases p <;> decide

@[simp] theorem ne_otherPocket (p : Pocket) : p ≠ otherPocket p := by cases p <;> decide

@[simp] theorem otherPocket_otherPocket (p : Pocket) : otherPocket (otherPocket p) = p := by cases p <;> rfl

theorem pocket_eq_or (p r : Pocket) : r = p ∨ r = otherPocket p := by cases p <;> cases r <;> decide

@[simp] theorem State.pocket_setPocket (s : State) (p : Pocket) (x : PocketState) : (s.setPocket p x).pocket p = x := by
  cases p <;> rfl

@[simp] theorem State.pocket_setPocket_other (s : State) (p : Pocket) (x : PocketState) :
    (s.setPocket p x).pocket (otherPocket p) = s.pocket (otherPocket p) := by cases p <;> rfl

@[simp] theorem State.setPocket_setPocket (s : State) (p : Pocket) (x y : PocketState) :
    (s.setPocket p x).setPocket p y = s.setPocket p y := by cases p <;> rfl

@[simp] theorem State.setPocket_pocket (s : State) (p : Pocket) : s.setPocket p (s.pocket p) = s := by cases p <;> rfl

@[simp] theorem State.setPocket_shared (s : State) (p : Pocket) (x : PocketState) :
    (s.setPocket p x).pending = s.pending ∧ (s.setPocket p x).mode = s.mode ∧ (s.setPocket p x).now = s.now
    ∧ (s.setPocket p x).loadedAt = s.loadedAt ∧ (s.setPocket p x).levelLines = s.levelLines ∧ (s.setPocket p x).sa = s.sa
    ∧ (s.setPocket p x).sm = s.sm ∧ (s.setPocket p x).portA = s.portA ∧ (s.setPocket p x).portB = s.portB
    ∧ (s.setPocket p x).portS = s.portS ∧ (s.setPocket p x).ps = s.ps := by
  cases p <;> and_intros <;> rfl

@[simp] theorem State.port_setPocket (s : State) (p : Pocket) (x : PocketState) (q : Port) :
    (s.setPocket p x).port q = s.port q := by cases p <;> cases q <;> rfl

/-! ## Ports -/

@[simp] theorem State.port_setPort (s : State) (q : Port) (x : PortState) : (s.setPort q x).port q = x := by cases q <;> rfl

theorem State.port_setPort_other (s : State) (q r : Port) (x : PortState) (h : r ≠ q) : (s.setPort q x).port r = s.port r := by
  cases q <;> cases r <;> first | rfl | exact absurd rfl h

@[simp] theorem State.pocket_setPort (s : State) (q : Port) (x : PortState) (p : Pocket) :
    (s.setPort q x).pocket p = s.pocket p := by cases q <;> cases p <;> rfl

@[simp] theorem State.setPort_setPort (s : State) (q : Port) (x y : PortState) :
    (s.setPort q x).setPort q y = s.setPort q y := by cases q <;> rfl

@[simp] theorem State.setPort_port (s : State) (q : Port) : s.setPort q (s.port q) = s := by cases q <;> rfl

@[simp] theorem State.setPort_shared (s : State) (q : Port) (x : PortState) :
    (s.setPort q x).pending = s.pending ∧ (s.setPort q x).mode = s.mode ∧ (s.setPort q x).now = s.now
    ∧ (s.setPort q x).loadedAt = s.loadedAt ∧ (s.setPort q x).levelLines = s.levelLines ∧ (s.setPort q x).sa = s.sa
    ∧ (s.setPort q x).sm = s.sm ∧ (s.setPort q x).a = s.a ∧ (s.setPort q x).b = s.b ∧ (s.setPort q x).ps = s.ps := by
  cases q <;> and_intros <;> rfl

/-! ## The clock -/

@[simp] theorem State.elapse_fields (s : State) (n : Ticks) :
    (s.elapse n).pending = s.pending ∧ (s.elapse n).mode = s.mode ∧ (s.elapse n).now = s.now + n ∧ (s.elapse n).loadedAt = s.loadedAt ∧ (s.elapse n).levelLines = s.levelLines
    ∧ (s.elapse n).sa = s.sa ∧ (s.elapse n).sm = s.sm ∧ (s.elapse n).a = s.a ∧ (s.elapse n).b = s.b ∧ (s.elapse n).portA = s.portA ∧ (s.elapse n).portB = s.portB
    ∧ (s.elapse n).portS = s.portS ∧ (s.elapse n).ps = s.ps :=
  by and_intros <;> rfl

@[simp] theorem State.pocket_elapse (s : State) (n : Ticks) (p : Pocket) : (s.elapse n).pocket p = s.pocket p := by cases p <;> rfl

@[simp] theorem State.port_elapse (s : State) (n : Ticks) (q : Port) : (s.elapse n).port q = s.port q := by cases q <;> rfl

@[simp] theorem State.reach_fields (s : State) (t : Ticks) :
    (s.reach t).pending = s.pending ∧ (s.reach t).mode = s.mode ∧ (s.reach t).now = max s.now t ∧ (s.reach t).loadedAt = s.loadedAt ∧ (s.reach t).levelLines = s.levelLines
    ∧ (s.reach t).sa = s.sa ∧ (s.reach t).sm = s.sm ∧ (s.reach t).a = s.a ∧ (s.reach t).b = s.b ∧ (s.reach t).portA = s.portA ∧ (s.reach t).portB = s.portB
    ∧ (s.reach t).portS = s.portS ∧ (s.reach t).ps = s.ps :=
  by and_intros <;> rfl

@[simp] theorem State.pocket_reach (s : State) (t : Ticks) (p : Pocket) : (s.reach t).pocket p = s.pocket p := by cases p <;> rfl

@[simp] theorem State.port_reach (s : State) (t : Ticks) (q : Port) : (s.reach t).port q = s.port q := by cases q <;> rfl

/-! ## The blocks of a pocket -/

@[simp] theorem State.pocket_onLines (s : State) (p : Pocket) (f : PocketLines → PocketLines) :
    (s.onLines p f).pocket p = { s.pocket p with lines := f (s.pocket p).lines } := by simp [State.onLines]

@[simp] theorem State.pocket_onLines_other (s : State) (p : Pocket) (f : PocketLines → PocketLines) :
    (s.onLines p f).pocket (otherPocket p) = s.pocket (otherPocket p) := by simp [State.onLines]

@[simp] theorem State.onLines_shared (s : State) (p : Pocket) (f : PocketLines → PocketLines) :
    (s.onLines p f).pending = s.pending ∧ (s.onLines p f).mode = s.mode ∧ (s.onLines p f).now = s.now ∧ (s.onLines p f).loadedAt = s.loadedAt
    ∧ (s.onLines p f).levelLines = s.levelLines ∧ (s.onLines p f).sa = s.sa ∧ (s.onLines p f).sm = s.sm ∧ (s.onLines p f).portA = s.portA ∧ (s.onLines p f).portB = s.portB
    ∧ (s.onLines p f).portS = s.portS ∧ (s.onLines p f).ps = s.ps := by simp [State.onLines]

@[simp] theorem State.port_onLines (s : State) (p : Pocket) (f : PocketLines → PocketLines) (q : Port) : (s.onLines p f).port q = s.port q := by
  simp [State.onLines]

@[simp] theorem State.pocket_onCe (s : State) (p : Pocket) (f : CycleEngine → CycleEngine) :
    (s.onCe p f).pocket p = { s.pocket p with ce := f (s.pocket p).ce } := by simp [State.onCe]

@[simp] theorem State.pocket_onCe_other (s : State) (p : Pocket) (f : CycleEngine → CycleEngine) :
    (s.onCe p f).pocket (otherPocket p) = s.pocket (otherPocket p) := by simp [State.onCe]

@[simp] theorem State.onCe_shared (s : State) (p : Pocket) (f : CycleEngine → CycleEngine) :
    (s.onCe p f).pending = s.pending ∧ (s.onCe p f).mode = s.mode ∧ (s.onCe p f).now = s.now ∧ (s.onCe p f).loadedAt = s.loadedAt
    ∧ (s.onCe p f).levelLines = s.levelLines ∧ (s.onCe p f).sa = s.sa ∧ (s.onCe p f).sm = s.sm ∧ (s.onCe p f).portA = s.portA ∧ (s.onCe p f).portB = s.portB
    ∧ (s.onCe p f).portS = s.portS ∧ (s.onCe p f).ps = s.ps := by simp [State.onCe]

@[simp] theorem State.port_onCe (s : State) (p : Pocket) (f : CycleEngine → CycleEngine) (q : Port) : (s.onCe p f).port q = s.port q := by
  simp [State.onCe]

@[simp] theorem State.pocket_onDmc (s : State) (p : Pocket) (f : DrumMotion → DrumMotion) :
    (s.onDmc p f).pocket p = { s.pocket p with dmc := f (s.pocket p).dmc } := by simp [State.onDmc]

@[simp] theorem State.pocket_onDmc_other (s : State) (p : Pocket) (f : DrumMotion → DrumMotion) :
    (s.onDmc p f).pocket (otherPocket p) = s.pocket (otherPocket p) := by simp [State.onDmc]

@[simp] theorem State.onDmc_shared (s : State) (p : Pocket) (f : DrumMotion → DrumMotion) :
    (s.onDmc p f).pending = s.pending ∧ (s.onDmc p f).mode = s.mode ∧ (s.onDmc p f).now = s.now ∧ (s.onDmc p f).loadedAt = s.loadedAt
    ∧ (s.onDmc p f).levelLines = s.levelLines ∧ (s.onDmc p f).sa = s.sa ∧ (s.onDmc p f).sm = s.sm ∧ (s.onDmc p f).portA = s.portA ∧ (s.onDmc p f).portB = s.portB
    ∧ (s.onDmc p f).portS = s.portS ∧ (s.onDmc p f).ps = s.ps := by simp [State.onDmc]

@[simp] theorem State.port_onDmc (s : State) (p : Pocket) (f : DrumMotion → DrumMotion) (q : Port) : (s.onDmc p f).port q = s.port q := by
  simp [State.onDmc]

@[simp] theorem State.pocket_onRcu (s : State) (p : Pocket) (f : RevolutionCounter → RevolutionCounter) :
    (s.onRcu p f).pocket p = { s.pocket p with rcu := f (s.pocket p).rcu } := by simp [State.onRcu]

@[simp] theorem State.pocket_onRcu_other (s : State) (p : Pocket) (f : RevolutionCounter → RevolutionCounter) :
    (s.onRcu p f).pocket (otherPocket p) = s.pocket (otherPocket p) := by simp [State.onRcu]

@[simp] theorem State.onRcu_shared (s : State) (p : Pocket) (f : RevolutionCounter → RevolutionCounter) :
    (s.onRcu p f).pending = s.pending ∧ (s.onRcu p f).mode = s.mode ∧ (s.onRcu p f).now = s.now ∧ (s.onRcu p f).loadedAt = s.loadedAt
    ∧ (s.onRcu p f).levelLines = s.levelLines ∧ (s.onRcu p f).sa = s.sa ∧ (s.onRcu p f).sm = s.sm ∧ (s.onRcu p f).portA = s.portA ∧ (s.onRcu p f).portB = s.portB
    ∧ (s.onRcu p f).portS = s.portS ∧ (s.onRcu p f).ps = s.ps := by simp [State.onRcu]

@[simp] theorem State.port_onRcu (s : State) (p : Pocket) (f : RevolutionCounter → RevolutionCounter) (q : Port) : (s.onRcu p f).port q = s.port q := by
  simp [State.onRcu]

@[simp] theorem State.pocket_onMe (s : State) (p : Pocket) (f : Estimator → Estimator) :
    (s.onMe p f).pocket p = { s.pocket p with me := f (s.pocket p).me } := by simp [State.onMe]

@[simp] theorem State.pocket_onMe_other (s : State) (p : Pocket) (f : Estimator → Estimator) :
    (s.onMe p f).pocket (otherPocket p) = s.pocket (otherPocket p) := by simp [State.onMe]

@[simp] theorem State.onMe_shared (s : State) (p : Pocket) (f : Estimator → Estimator) :
    (s.onMe p f).pending = s.pending ∧ (s.onMe p f).mode = s.mode ∧ (s.onMe p f).now = s.now ∧ (s.onMe p f).loadedAt = s.loadedAt
    ∧ (s.onMe p f).levelLines = s.levelLines ∧ (s.onMe p f).sa = s.sa ∧ (s.onMe p f).sm = s.sm ∧ (s.onMe p f).portA = s.portA ∧ (s.onMe p f).portB = s.portB
    ∧ (s.onMe p f).portS = s.portS ∧ (s.onMe p f).ps = s.ps := by simp [State.onMe]

@[simp] theorem State.port_onMe (s : State) (p : Pocket) (f : Estimator → Estimator) (q : Port) : (s.onMe p f).port q = s.port q := by
  simp [State.onMe]

@[simp] theorem State.pocket_onTm (s : State) (p : Pocket) (f : TangleMonitor → TangleMonitor) :
    (s.onTm p f).pocket p = { s.pocket p with tm := f (s.pocket p).tm } := by simp [State.onTm]

@[simp] theorem State.pocket_onTm_other (s : State) (p : Pocket) (f : TangleMonitor → TangleMonitor) :
    (s.onTm p f).pocket (otherPocket p) = s.pocket (otherPocket p) := by simp [State.onTm]

@[simp] theorem State.onTm_shared (s : State) (p : Pocket) (f : TangleMonitor → TangleMonitor) :
    (s.onTm p f).pending = s.pending ∧ (s.onTm p f).mode = s.mode ∧ (s.onTm p f).now = s.now ∧ (s.onTm p f).loadedAt = s.loadedAt
    ∧ (s.onTm p f).levelLines = s.levelLines ∧ (s.onTm p f).sa = s.sa ∧ (s.onTm p f).sm = s.sm ∧ (s.onTm p f).portA = s.portA ∧ (s.onTm p f).portB = s.portB
    ∧ (s.onTm p f).portS = s.portS ∧ (s.onTm p f).ps = s.ps := by simp [State.onTm]

@[simp] theorem State.port_onTm (s : State) (p : Pocket) (f : TangleMonitor → TangleMonitor) (q : Port) : (s.onTm p f).port q = s.port q := by
  simp [State.onTm]

@[simp] theorem State.pocket_onHsc (s : State) (p : Pocket) (f : HeatStages → HeatStages) :
    (s.onHsc p f).pocket p = { s.pocket p with hsc := f (s.pocket p).hsc } := by simp [State.onHsc]

@[simp] theorem State.pocket_onHsc_other (s : State) (p : Pocket) (f : HeatStages → HeatStages) :
    (s.onHsc p f).pocket (otherPocket p) = s.pocket (otherPocket p) := by simp [State.onHsc]

@[simp] theorem State.onHsc_shared (s : State) (p : Pocket) (f : HeatStages → HeatStages) :
    (s.onHsc p f).pending = s.pending ∧ (s.onHsc p f).mode = s.mode ∧ (s.onHsc p f).now = s.now ∧ (s.onHsc p f).loadedAt = s.loadedAt
    ∧ (s.onHsc p f).levelLines = s.levelLines ∧ (s.onHsc p f).sa = s.sa ∧ (s.onHsc p f).sm = s.sm ∧ (s.onHsc p f).portA = s.portA ∧ (s.onHsc p f).portB = s.portB
    ∧ (s.onHsc p f).portS = s.portS ∧ (s.onHsc p f).ps = s.ps := by simp [State.onHsc]

@[simp] theorem State.port_onHsc (s : State) (p : Pocket) (f : HeatStages → HeatStages) (q : Port) : (s.onHsc p f).port q = s.port q := by
  simp [State.onHsc]

@[simp] theorem State.pocket_onSb (s : State) (p : Pocket) (f : SampleBuffers → SampleBuffers) :
    (s.onSb p f).pocket p = { s.pocket p with sb := f (s.pocket p).sb } := by simp [State.onSb]

@[simp] theorem State.pocket_onSb_other (s : State) (p : Pocket) (f : SampleBuffers → SampleBuffers) :
    (s.onSb p f).pocket (otherPocket p) = s.pocket (otherPocket p) := by simp [State.onSb]

@[simp] theorem State.onSb_shared (s : State) (p : Pocket) (f : SampleBuffers → SampleBuffers) :
    (s.onSb p f).pending = s.pending ∧ (s.onSb p f).mode = s.mode ∧ (s.onSb p f).now = s.now ∧ (s.onSb p f).loadedAt = s.loadedAt
    ∧ (s.onSb p f).levelLines = s.levelLines ∧ (s.onSb p f).sa = s.sa ∧ (s.onSb p f).sm = s.sm ∧ (s.onSb p f).portA = s.portA ∧ (s.onSb p f).portB = s.portB
    ∧ (s.onSb p f).portS = s.portS ∧ (s.onSb p f).ps = s.ps := by simp [State.onSb]

@[simp] theorem State.port_onSb (s : State) (p : Pocket) (f : SampleBuffers → SampleBuffers) (q : Port) : (s.onSb p f).port q = s.port q := by
  simp [State.onSb]

@[simp] theorem State.pocket_onFl (s : State) (p : Pocket) (f : FaultList → FaultList) :
    (s.onFl p f).pocket p = { s.pocket p with fl := f (s.pocket p).fl } := by simp [State.onFl]

@[simp] theorem State.pocket_onFl_other (s : State) (p : Pocket) (f : FaultList → FaultList) :
    (s.onFl p f).pocket (otherPocket p) = s.pocket (otherPocket p) := by simp [State.onFl]

@[simp] theorem State.onFl_shared (s : State) (p : Pocket) (f : FaultList → FaultList) :
    (s.onFl p f).pending = s.pending ∧ (s.onFl p f).mode = s.mode ∧ (s.onFl p f).now = s.now ∧ (s.onFl p f).loadedAt = s.loadedAt
    ∧ (s.onFl p f).levelLines = s.levelLines ∧ (s.onFl p f).sa = s.sa ∧ (s.onFl p f).sm = s.sm ∧ (s.onFl p f).portA = s.portA ∧ (s.onFl p f).portB = s.portB
    ∧ (s.onFl p f).portS = s.portS ∧ (s.onFl p f).ps = s.ps := by simp [State.onFl]

@[simp] theorem State.port_onFl (s : State) (p : Pocket) (f : FaultList → FaultList) (q : Port) : (s.onFl p f).port q = s.port q := by
  simp [State.onFl]

@[simp] theorem State.pocket_onMeter (s : State) (p : Pocket) (f : PocketMeter → PocketMeter) :
    (s.onMeter p f).pocket p = { s.pocket p with meter := f (s.pocket p).meter } := by simp [State.onMeter]

@[simp] theorem State.pocket_onMeter_other (s : State) (p : Pocket) (f : PocketMeter → PocketMeter) :
    (s.onMeter p f).pocket (otherPocket p) = s.pocket (otherPocket p) := by simp [State.onMeter]

@[simp] theorem State.onMeter_shared (s : State) (p : Pocket) (f : PocketMeter → PocketMeter) :
    (s.onMeter p f).pending = s.pending ∧ (s.onMeter p f).mode = s.mode ∧ (s.onMeter p f).now = s.now ∧ (s.onMeter p f).loadedAt = s.loadedAt
    ∧ (s.onMeter p f).levelLines = s.levelLines ∧ (s.onMeter p f).sa = s.sa ∧ (s.onMeter p f).sm = s.sm ∧ (s.onMeter p f).portA = s.portA ∧ (s.onMeter p f).portB = s.portB
    ∧ (s.onMeter p f).portS = s.portS ∧ (s.onMeter p f).ps = s.ps := by simp [State.onMeter]

@[simp] theorem State.port_onMeter (s : State) (p : Pocket) (f : PocketMeter → PocketMeter) (q : Port) : (s.onMeter p f).port q = s.port q := by
  simp [State.onMeter]

@[simp] theorem State.pocket_setShed (s : State) (p : Pocket) (t : Option Ticks) :
    (s.setShed p t).pocket p = { s.pocket p with shedDue := t } := by simp [State.setShed]

@[simp] theorem State.pocket_setShed_other (s : State) (p : Pocket) (t : Option Ticks) :
    (s.setShed p t).pocket (otherPocket p) = s.pocket (otherPocket p) := by simp [State.setShed]

@[simp] theorem State.setShed_shared (s : State) (p : Pocket) (t : Option Ticks) :
    (s.setShed p t).pending = s.pending ∧ (s.setShed p t).mode = s.mode ∧ (s.setShed p t).now = s.now ∧ (s.setShed p t).loadedAt = s.loadedAt
    ∧ (s.setShed p t).levelLines = s.levelLines ∧ (s.setShed p t).sa = s.sa ∧ (s.setShed p t).sm = s.sm ∧ (s.setShed p t).portA = s.portA ∧ (s.setShed p t).portB = s.portB
    ∧ (s.setShed p t).portS = s.portS ∧ (s.setShed p t).ps = s.ps := by simp [State.setShed]

@[simp] theorem State.port_setShed (s : State) (p : Pocket) (t : Option Ticks) (q : Port) : (s.setShed p t).port q = s.port q := by
  simp [State.setShed]

/-! ## Posts -/

@[simp] theorem State.post_shared (s : State) (k : EventKind) :
    (s.post k).pending = s.pending ∧ (s.post k).mode = s.mode ∧ (s.post k).now = s.now ∧ (s.post k).loadedAt = s.loadedAt
    ∧ (s.post k).levelLines = s.levelLines ∧ (s.post k).sa = s.sa ∧ (s.post k).sm = s.sm ∧ (s.post k).a = s.a
    ∧ (s.post k).b = s.b ∧ (s.post k).ps = s.ps :=
  by and_intros <;> rfl

@[simp] theorem State.pocket_post (s : State) (k : EventKind) (p : Pocket) : (s.post k).pocket p = s.pocket p := by
  cases p <;> rfl

@[simp] theorem State.port_post (s : State) (k : EventKind) (q : Port) : (s.post k).port q = (s.port q).post k := by
  cases q <;> rfl

/-! ## Working state -/

theorem State.whenOperating_operating (f : State → State) (s : State) (h : s.mode = .operating) : s.whenOperating f = f s := by
  simp [State.whenOperating, h]

theorem State.whenOperating_other (f : State → State) (s : State) (h : s.mode ≠ .operating) : s.whenOperating f = s := by
  cases hm : s.mode <;> simp_all [State.whenOperating]

end Sys2Proof.Machine
end

