-- ==== Sys2Proof/Laws/Account.lean ====
section
/-! SUPPORT. Everything that the account's operations can do: each answers the state with the two lists, the two heat stage
controllers and the event latches replaced, and nothing else (R131, R140). -/

namespace Sys2Proof.Machine

/-- What the account's operations replace. -/
structure AccountMove where
  grants : List Grant
  requests : List StageRequest
  heatA : HeatStages
  heatB : HeatStages
  latchA : EventSet
  latchB : EventSet
  latchS : EventSet

/-- The state with those parts replaced. -/
def State.move (s : State) (m : AccountMove) : State :=
  { s with sa := { s.sa with grants := m.grants, requests := m.requests }, a := { s.a with hsc := m.heatA },
           b := { s.b with hsc := m.heatB }, portA := { s.portA with latch := m.latchA },
           portB := { s.portB with latch := m.latchB }, portS := { s.portS with latch := m.latchS } }

/-- The heat stage controller of a pocket in a move. -/
def AccountMove.heat (m : AccountMove) : Pocket → HeatStages
  | .A => m.heatA
  | .B => m.heatB

/-- The latch of a port in a move. -/
def AccountMove.latch (m : AccountMove) : Port → EventSet
  | .A => m.latchA
  | .B => m.latchB
  | .S => m.latchS

/-- `t` is `s` with an account move made in which no latch has lost a kind. -/
def MovesTo (s t : State) : Prop := ∃ m, t = s.move m ∧ ∀ q, (s.port q).latch &&& m.latch q = (s.port q).latch

@[simp] theorem State.move_shared (s : State) (m : AccountMove) :
    (s.move m).pending = s.pending ∧ (s.move m).mode = s.mode ∧ (s.move m).now = s.now ∧ (s.move m).loadedAt = s.loadedAt
    ∧ (s.move m).levelLines = s.levelLines ∧ (s.move m).sm = s.sm ∧ (s.move m).ps = s.ps
    ∧ (s.move m).sa = { s.sa with grants := m.grants, requests := m.requests } := by and_intros <;> rfl

@[simp] theorem State.pocket_move (s : State) (m : AccountMove) (p : Pocket) :
    (s.move m).pocket p = { s.pocket p with hsc := m.heat p } := by cases p <;> rfl

@[simp] theorem State.port_move (s : State) (m : AccountMove) (q : Port) :
    (s.move m).port q = { s.port q with latch := m.latch q } := by cases q <;> rfl

/-- A set joined with another holds it. -/
theorem latch_and_or (x y : EventSet) : x &&& (x ||| y) = x := by
  apply BitVec.eq_of_getLsbD_eq
  intro i _
  simp only [BitVec.getLsbD_and, BitVec.getLsbD_or]
  cases x.getLsbD i <;> rfl

namespace MovesTo

theorem refl (s : State) : MovesTo s s := ⟨⟨_, _, _, _, _, _, _⟩, rfl, fun q => by cases q <;> exact BitVec.and_self⟩

theorem trans {s t u : State} (h : MovesTo s t) (k : MovesTo t u) : MovesTo s u := by
  obtain ⟨m, rfl, hm⟩ := h
  obtain ⟨n, rfl, hn⟩ := k
  refine ⟨n, rfl, fun q => ?_⟩
  have h1 := hm q
  have h2 := hn q
  rw [State.port_move] at h2
  rw [← h1, BitVec.and_assoc]
  exact congrArg _ h2

theorem ite {s t u : State} {c : Prop} [Decidable c] (h : MovesTo s t) (k : MovesTo s u) : MovesTo s (if c then t else u) := by
  split <;> assumption

theorem onHsc (p : Pocket) (f : HeatStages → HeatStages) (s : State) : MovesTo s (s.onHsc p f) := by
  cases p <;> exact ⟨⟨_, _, _, _, _, _, _⟩, rfl, fun q => by cases q <;> exact BitVec.and_self⟩

theorem post (k : EventKind) (s : State) : MovesTo s (s.post k) :=
  ⟨⟨_, _, _, _, _, _, _⟩, rfl, fun q => by cases q <;> exact latch_and_or _ _⟩

theorem postIf (c : Bool) (k : EventKind) (s : State) : MovesTo s (s.postIf c k) := ite (post k s) (refl s)

theorem withLists (gs : List Grant) (rs : List StageRequest) (s : State) : MovesTo s (s.withLists gs rs) :=
  ⟨⟨_, _, _, _, _, _, _⟩, rfl, fun q => by cases q <;> exact BitVec.and_self⟩

theorem dropE (p : Pocket) (s : State) : MovesTo s (s.dropE p) := onHsc p _ s

theorem riseE (p : Pocket) (s : State) : MovesTo s (s.riseE p) := ite (onHsc p _ s) (refl s)

theorem followE (p : Pocket) (s : State) : MovesTo s (s.followE p) := (dropE p s).trans (riseE p _)

theorem considerHold (p : Pocket) (c : Bool) (s : State) : MovesTo s (s.considerHold p c) := onHsc p _ s

theorem setLevel (p : Pocket) (n : Nat) (s : State) : MovesTo s (s.setLevel p n) :=
  (onHsc p _ s).trans ((considerHold p _ _).trans (followE p _))

theorem keepAsked (p : Pocket) (n : Nat) (s : State) : MovesTo s (s.keepAsked p n) := ite (onHsc p _ s) (refl s)

theorem tellGranted (p : Pocket) (n : Nat) (s : State) : MovesTo s (s.tellGranted p n) := by
  unfold State.tellGranted
  exact ite ((keepAsked p n s).trans ((onHsc p _ _).trans ((considerHold p _ _).trans (dropE p _)))) (ite ((onHsc p _ s).trans (considerHold p _ _)) (refl s))

theorem evaluate (s : State) : MovesTo s s.evaluate :=
  (withLists _ _ s).trans ((tellGranted .A _ _).trans ((tellGranted .B _ _).trans ((postIf _ _ _).trans (postIf _ _ _))))

theorem removeAll (p : Pocket) (s : State) : MovesTo s (s.removeAll p) := (withLists _ _ s).trans (tellGranted p _ _)

theorem releaseAll (p : Pocket) (s : State) : MovesTo s (s.releaseAll p) := (removeAll p s).trans (evaluate _)

theorem withdraw (p : Pocket) (s : State) : MovesTo s (s.withdraw p) := ite ((withLists _ _ s).trans (evaluate _)) (refl s)

theorem releaseTop (p : Pocket) (s : State) : MovesTo s (s.releaseTop p) :=
  ite (refl s) ((withLists _ _ s).trans ((tellGranted p _ _).trans ((considerHold p _ _).trans (evaluate _))))

theorem applyCap (p : Pocket) (s : State) : MovesTo s (s.applyCap p) :=
  ite ((withLists _ _ s).trans ((tellGranted p _ _).trans (evaluate _))) (ite (withdraw p s) (refl s))

theorem postRequest (p : Pocket) (n : Nat) (s : State) : MovesTo s (s.postRequest p n) :=
  ite ((withLists _ _ s).trans (evaluate _)) (refl s)

theorem stepLevel (p : Pocket) (te : Int) (target hb : Nat) (s : State) : MovesTo s (s.stepLevel p te target hb) :=
  ite (refl s) (ite (setLevel p _ s) (ite (ite (setLevel p _ s) (ite (postRequest p _ s) (refl s))) (refl s)))

theorem regulate (p : Pocket) (te : Int) (s : State) : MovesTo s (s.regulate p te) := by
  unfold State.regulate
  split
  · exact ite (refl s) (ite ((setLevel p 0 s).trans (withdraw p _)) (ite ((setLevel p 0 s).trans (withdraw p _))
      (ite ((stepLevel p te _ _ s).trans (withdraw p _)) (stepLevel p te _ _ s))))
  · exact refl s

theorem meteredEvaluation (s : State) : MovesTo s s.meteredEvaluation := ite (evaluate s) (refl s)

theorem askRelease (p : Pocket) (s : State) : MovesTo s (s.askRelease p) := by
  unfold State.askRelease
  split
  · exact ite (releaseTop p s) (considerHold p true s)
  · exact releaseTop p s

theorem endFreshGrant (p : Pocket) (fresh : Bool) (s : State) : MovesTo s (s.endFreshGrant p fresh) :=
  ite ((onHsc p _ s).trans (ite (releaseTop p _) (refl _))) (refl s)

end MovesTo

/-- An account move changes no more than an evaluation may change. -/
theorem OnlyAccountMoved.of_moves {s t : State} (h : MovesTo s t) : OnlyAccountMoved s t := by
  obtain ⟨m, rfl, -⟩ := h
  refine ⟨by and_intros <;> rfl, fun p => ?_, rfl, fun q => ?_⟩
  · cases p <;> rfl
  · cases q <;> rfl

end Sys2Proof.Machine
end

