-- ==== Sys2Proof/Laws/Heat.lean ====
section
/-! SUPPORT. What the account's operations can do to a pocket's counts: a loss lowers L and E, nothing of an evaluation raises them,
a pocket without a request is granted nothing, and a pocket's own part has no say in an evaluation (R105, R131, R140). -/

namespace Sys2Proof.Machine

/-! ## A heat stage controller lowered by a loss -/

/-- `k` is `h` with L and E lowered or as they were; beside them only the times of their changes and the release hold differ. -/
def HeatStages.LoweredTo (h k : HeatStages) : Prop :=
  k.energized ≤ h.energized ∧ k.level ≤ h.level
  ∧ k = { h with energized := k.energized, level := k.level, lastLevelChange := k.lastLevelChange, lastChange := k.lastChange,
                 holdSince := k.holdSince, askedStage := k.askedStage, freshGrant := k.freshGrant }

theorem HeatStages.LoweredTo.refl (h : HeatStages) : h.LoweredTo h := ⟨le_refl _, le_refl _, rfl⟩

theorem HeatStages.LoweredTo.trans {h k l : HeatStages} (a : h.LoweredTo k) (b : k.LoweredTo l) : h.LoweredTo l := by
  obtain ⟨a1, a2, a3⟩ := a
  obtain ⟨b1, b2, b3⟩ := b
  refine ⟨b1.trans a1, b2.trans a2, ?_⟩
  rw [b3, a3]

@[simp] theorem HeatStages.withEnergized_energized (now : Ticks) (n : Nat) (h : HeatStages) :
    (h.withEnergized now n).energized = n := by
  unfold HeatStages.withEnergized
  split <;> simp_all

@[simp] theorem HeatStages.withLevel_level (now : Ticks) (n : Nat) (h : HeatStages) : (h.withLevel now n).level = n := by
  unfold HeatStages.withLevel
  split <;> simp_all

@[simp] theorem HeatStages.withEnergized_level (now : Ticks) (n : Nat) (h : HeatStages) :
    (h.withEnergized now n).level = h.level := by
  unfold HeatStages.withEnergized
  split <;> rfl

@[simp] theorem HeatStages.withLevel_energized (now : Ticks) (n : Nat) (h : HeatStages) :
    (h.withLevel now n).energized = h.energized := by
  unfold HeatStages.withLevel
  split <;> rfl

theorem HeatStages.withEnergized_lowers (now : Ticks) (n : Nat) (h : HeatStages) (hn : n ≤ h.energized) :
    h.LoweredTo (h.withEnergized now n) := by
  unfold HeatStages.withEnergized
  split
  · exact .refl h
  · exact ⟨hn, le_refl _, rfl⟩

theorem HeatStages.withLevel_lowers (now : Ticks) (n : Nat) (h : HeatStages) (hn : n ≤ h.level) :
    h.LoweredTo (h.withLevel now n) := by
  unfold HeatStages.withLevel
  split
  · exact .refl h
  · exact ⟨le_refl _, hn, rfl⟩

/-! ## One pocket's heat changed -/

theorem State.pocket_onHsc_cases (s : State) (p r : Pocket) (f : HeatStages → HeatStages) :
    (s.onHsc p f).pocket r = if r = p then { s.pocket r with hsc := f (s.pocket r).hsc } else s.pocket r := by
  cases p <;> cases r <;> rfl

/-- Neither pocket's L nor E has risen. -/
def HeatLowered (s t : State) : Prop := ∀ p, (s.pocket p).hsc.LoweredTo (t.pocket p).hsc

theorem HeatLowered.refl (s : State) : HeatLowered s s := fun _ => .refl _

theorem HeatLowered.trans {s t u : State} (a : HeatLowered s t) (b : HeatLowered t u) : HeatLowered s u :=
  fun p => (a p).trans (b p)

theorem HeatLowered.onHsc {s : State} {p : Pocket} {f : HeatStages → HeatStages}
    (hf : (s.pocket p).hsc.LoweredTo (f (s.pocket p).hsc)) : HeatLowered s (s.onHsc p f) := by
  intro r
  rw [State.pocket_onHsc_cases]
  split
  · subst_vars; exact hf
  · exact .refl _

theorem HeatLowered.dropE (p : Pocket) (s : State) : HeatLowered s (s.dropE p) :=
  .onHsc (HeatStages.withEnergized_lowers _ _ _ (min_le_left _ _))

theorem HeatLowered.considerHold (p : Pocket) (c : Bool) (s : State) : HeatLowered s (s.considerHold p c) :=
  .onHsc (by split; exact ⟨le_refl _, le_refl _, rfl⟩; split <;> exact ⟨le_refl _, le_refl _, rfl⟩)

theorem HeatLowered.ite {s t u : State} {c : Prop} [Decidable c] (h : HeatLowered s t) (k : HeatLowered s u) :
    HeatLowered s (if c then t else u) := by split <;> assumption

theorem HeatLowered.keepAsked (p : Pocket) (n : Nat) (s : State) : HeatLowered s (s.keepAsked p n) :=
  .ite (.onHsc ⟨le_refl _, le_refl _, rfl⟩) (.refl s)

theorem HeatLowered.tellGranted (p : Pocket) (n : Nat) (s : State) : HeatLowered s (s.tellGranted p n) := by
  unfold State.tellGranted
  refine .ite ?_ (.ite ?_ (.refl s))
  · exact (HeatLowered.keepAsked p n s).trans ((HeatLowered.onHsc (HeatStages.withLevel_lowers _ _ _ (min_le_left _ _))).trans
      ((HeatLowered.considerHold p _ _).trans (HeatLowered.dropE p _)))
  · exact (HeatLowered.onHsc (s := s) (p := p) (f := fun h => { h with freshGrant := true }) ⟨le_refl _, le_refl _, rfl⟩).trans
      (HeatLowered.considerHold p _ _)

theorem HeatLowered.of_pockets {s t : State} (h : ∀ p, t.pocket p = s.pocket p) : HeatLowered s t := by
  intro p
  rw [h p]
  exact .refl _

theorem HeatLowered.postIf (c : Bool) (k : EventKind) (s : State) : HeatLowered s (s.postIf c k) := by
  refine .of_pockets fun p => ?_
  cases c <;> simp [State.postIf]

@[simp] theorem State.pocket_withLists (s : State) (gs : List Grant) (rs : List StageRequest) (p : Pocket) :
    (s.withLists gs rs).pocket p = s.pocket p := by cases p <;> rfl

theorem HeatLowered.withLists (gs : List Grant) (rs : List StageRequest) (s : State) : HeatLowered s (s.withLists gs rs) :=
  .of_pockets fun p => by simp

theorem HeatLowered.evaluate (s : State) : HeatLowered s s.evaluate :=
  (HeatLowered.withLists _ _ s).trans ((HeatLowered.tellGranted .A _ _).trans ((HeatLowered.tellGranted .B _ _).trans
    ((HeatLowered.postIf _ _ _).trans (HeatLowered.postIf _ _ _))))

theorem HeatLowered.removeAll (p : Pocket) (s : State) : HeatLowered s (s.removeAll p) :=
  (HeatLowered.withLists _ _ s).trans (HeatLowered.tellGranted p _ _)

theorem HeatLowered.releaseAll (p : Pocket) (s : State) : HeatLowered s (s.releaseAll p) :=
  (HeatLowered.removeAll p s).trans (HeatLowered.evaluate _)

theorem HeatLowered.withdraw (p : Pocket) (s : State) : HeatLowered s (s.withdraw p) :=
  .ite ((HeatLowered.withLists _ _ s).trans (HeatLowered.evaluate _)) (.refl s)

theorem HeatLowered.releaseTop (p : Pocket) (s : State) : HeatLowered s (s.releaseTop p) :=
  .ite (.refl s) ((HeatLowered.withLists _ _ s).trans ((HeatLowered.tellGranted p _ _).trans
    ((HeatLowered.considerHold p _ _).trans (HeatLowered.evaluate _))))

theorem HeatLowered.askRelease (p : Pocket) (s : State) : HeatLowered s (s.askRelease p) := by
  unfold State.askRelease
  split
  · exact .ite (.releaseTop p s) (.considerHold p true s)
  · exact .releaseTop p s

theorem HeatLowered.applyCap (p : Pocket) (s : State) : HeatLowered s (s.applyCap p) :=
  .ite ((HeatLowered.withLists _ _ s).trans ((HeatLowered.tellGranted p _ _).trans (HeatLowered.evaluate _)))
    (.ite (HeatLowered.withdraw p s) (.refl s))

theorem HeatLowered.postRequest (p : Pocket) (n : Nat) (s : State) : HeatLowered s (s.postRequest p n) :=
  .ite ((HeatLowered.withLists _ _ s).trans (HeatLowered.evaluate _)) (.refl s)

/-! ## The lists are left alone by everything but withLists -/

theorem State.onHsc_sa (s : State) (p : Pocket) (f : HeatStages → HeatStages) : (s.onHsc p f).sa = s.sa := by simp

theorem State.keepAsked_sa (s : State) (p : Pocket) (n : Nat) : (s.keepAsked p n).sa = s.sa := by
  unfold State.keepAsked
  split <;> simp

theorem State.tellGranted_sa (s : State) (p : Pocket) (n : Nat) : (s.tellGranted p n).sa = s.sa := by
  unfold State.tellGranted
  dsimp only
  split
  · simp [State.considerHold, State.dropE, State.keepAsked_sa]
  · split
    · simp [State.considerHold]
    · rfl

theorem State.evaluate_sa (s : State) :
    s.evaluate.sa = { s.sa with grants := s.evaluated.grants, requests := s.evaluated.requests } := by
  have h : ∀ (c : Bool) (k : EventKind) (t : State), (t.postIf c k).sa = t.sa := by
    intro c k t; cases c <;> simp [State.postIf]
  simp only [State.evaluate, h, State.tellGranted_sa]
  rfl

theorem State.removeAll_sa (s : State) (p : Pocket) :
    (s.removeAll p).sa = { s.sa with grants := s.sa.grants.filter (fun g => g.pocket != p), requests := withoutRequest s.sa.requests p } := by
  simp only [State.removeAll, State.tellGranted_sa]
  rfl

/-! ## A pocket without a request gains nothing -/

/-- From `a` to `b` pocket `p` has gained no entry and no request. -/
def Account.Gainless (p : Pocket) (a b : Account) : Prop :=
  (grantsOf b.grants p).length ≤ (grantsOf a.grants p).length ∧ (∀ r ∈ b.requests, r.pocket ≠ p)

theorem grantsOf_withoutNewest_le (gs : List Grant) (p r : Pocket) :
    (grantsOf (withoutNewest gs r) p).length ≤ (grantsOf gs p).length := by
  have h : (withoutNewest gs r).Sublist gs := by
    have := (List.eraseP_sublist (p := fun g : Grant => g.pocket == r) (l := gs.reverse)).reverse
    simpa [withoutNewest] using this
  exact (h.filter _).length_le

theorem withoutRequest_subset (rs : List StageRequest) (p : Pocket) : ∀ r ∈ withoutRequest rs p, r ∈ rs := by
  intro r hr
  exact (List.mem_filter.mp hr).1

theorem Account.lose_gainless {a : Account} {p r : Pocket} (h : ∀ q ∈ a.requests, q.pocket ≠ p) :
    Account.Gainless p a (a.lose r) :=
  ⟨grantsOf_withoutNewest_le _ _ _, fun q hq => h q (withoutRequest_subset _ _ q hq)⟩

theorem State.shedLoop_gainless (s : State) (p : Pocket) (n : Nat) (a : Account) (h : ∀ q ∈ a.requests, q.pocket ≠ p) :
    Account.Gainless p a (s.shedLoop n a) := by
  induction n generalizing a with
  | zero => exact ⟨le_refl _, h⟩
  | succ n ih =>
    unfold State.shedLoop
    split
    · split
      · rename_i v _
        have h1 := Account.lose_gainless (r := v) h
        have h2 := ih (a.lose v) h1.2
        exact ⟨h2.1.trans h1.1, h2.2⟩
      · exact ⟨le_refl _, h⟩
    · exact ⟨le_refl _, h⟩

theorem State.reclaimLoop_gainless (s : State) (p : Pocket) (r : StageRequest) (n : Nat) (a : Account)
    (h : ∀ q ∈ a.requests, q.pocket ≠ p) : Account.Gainless p a (s.reclaimLoop r n a) := by
  induction n generalizing a with
  | zero => exact ⟨le_refl _, h⟩
  | succ n ih =>
    unfold State.reclaimLoop
    split
    · exact ⟨le_refl _, h⟩
    · have h1 := Account.lose_gainless (r := otherPocket r.pocket) h
      have h2 := ih _ h1.2
      exact ⟨h2.1.trans h1.1, h2.2⟩

theorem State.nextServed_mem (s : State) (rs : List StageRequest) (r : StageRequest) (h : s.nextServed rs = some r) : r ∈ rs := by
  induction rs generalizing r with
  | nil => simp [State.nextServed] at h
  | cons q qs ih =>
    unfold State.nextServed at h
    split at h
    · rename_i x hx
      split at h
      · cases h; exact List.mem_cons_of_mem _ (ih _ hx)
      · cases h; exact List.mem_cons_self
    · cases h; exact List.mem_cons_self

theorem State.grant_gainless (s : State) {p : Pocket} {r : StageRequest} {a : Account} (hr : r.pocket ≠ p)
    (h : ∀ q ∈ a.requests, q.pocket ≠ p) : Account.Gainless p a (s.grant r a) := by
  refine ⟨?_, fun q hq => h q (withoutRequest_subset _ _ q hq)⟩
  simp [State.grant, grantsOf, List.filter_append, hr]

theorem State.serveLoop_gainless (s : State) (p : Pocket) (n : Nat) (a : Account) (h : ∀ q ∈ a.requests, q.pocket ≠ p) :
    Account.Gainless p a (s.serveLoop n a) := by
  induction n generalizing a with
  | zero => exact ⟨le_refl _, h⟩
  | succ n ih =>
    unfold State.serveLoop
    split
    · exact ⟨le_refl _, h⟩
    · rename_i r hr
      have hp := h r (s.nextServed_mem _ _ hr)
      split
      · have h1 := s.grant_gainless hp h
        have h2 := ih _ h1.2
        exact ⟨h2.1.trans h1.1, h2.2⟩
      · split
        · have h0 := s.reclaimLoop_gainless p r (grantsOf a.grants (otherPocket r.pocket)).length a h
          have h1 := s.grant_gainless hp h0.2
          have h2 := ih _ h1.2
          exact ⟨h2.1.trans (h1.1.trans h0.1), h2.2⟩
        · exact ⟨le_refl _, h⟩

theorem State.requestOf_eq_none (s : State) (p : Pocket) : s.requestOf p = none ↔ ∀ r ∈ s.sa.requests, r.pocket ≠ p := by
  simp [State.requestOf, List.find?_eq_none]

/-- A pocket without a pending request gains neither an entry nor a request by an evaluation. -/
theorem State.evaluate_gainless (s : State) (p : Pocket) (h : s.requestOf p = none) :
    s.evaluate.granted p ≤ s.granted p ∧ s.evaluate.requestOf p = none := by
  rw [State.requestOf_eq_none] at h ⊢
  have h1 := s.shedLoop_gainless p s.sa.grants.length s.account h
  have h2 := s.serveLoop_gainless p (s.shedLoop s.sa.grants.length s.account).requests.length _ h1.2
  simp only [State.granted, State.evaluate_sa]
  exact ⟨h2.1.trans h1.1, h2.2⟩

theorem State.removeAll_empty (s : State) (p : Pocket) : (s.removeAll p).granted p = 0 ∧ (s.removeAll p).requestOf p = none := by
  rw [State.requestOf_eq_none]
  simp only [State.granted, State.removeAll_sa, grantsOf, withoutRequest]
  constructor
  · rw [List.length_eq_zero_iff, List.filter_filter, List.filter_eq_nil_iff]
    intro g _
    cases hg : g.pocket == p <;> simp_all
  · intro r hr
    have := (List.mem_filter.mp hr).2
    simpa using this

/-- The release of all (R139) leaves the pocket without entries and without a request. -/
theorem State.releaseAll_empty (s : State) (p : Pocket) : (s.releaseAll p).granted p = 0 ∧ (s.releaseAll p).requestOf p = none := by
  have h := s.removeAll_empty p
  have h2 := (s.removeAll p).evaluate_gainless p h.2
  exact ⟨Nat.le_zero.mp (h.1 ▸ h2.1), h2.2⟩

/-! ## What E may be after it has been considered -/

/-- After a fall of its target is followed, E does not exceed it (R108). -/
theorem State.dropE_energized (s : State) (p : Pocket) :
    ((s.dropE p).pocket p).hsc.energized = min (s.pocket p).hsc.energized (s.heatTarget p) := by
  simp [State.dropE]

/-! ## What an evaluation reads -/

/-- Two states that an evaluation reads alike: the lists, the profile, the level in force and the readings are the same. -/
def ReadAlike (s t : State) : Prop :=
  t.sa = s.sa ∧ t.ps = s.ps ∧ ∀ p, (t.pocket p).meter.reading = (s.pocket p).meter.reading

/-- An evaluation of two states read alike gives one account (R131). -/
theorem ReadAlike.evaluated {s t : State} (h : ReadAlike s t) : t.evaluated = s.evaluated := by
  obtain ⟨hsa, hps, hm⟩ := h
  have hi : ∀ n, t.shared n = s.shared n := fun n => by simp [State.shared, hps]
  have hc : t.ceiling = s.ceiling := by simp [State.ceiling, State.levelInForce, hsa, hi]
  have hs : t.snapshot = s.snapshot := by
    funext p
    simp only [State.snapshot, hm]
  have hb : t.metered = s.metered := by rw [State.metered, hi]; rfl
  have hp : t.meteredPart = s.meteredPart := by
    funext gs p
    rw [State.meteredPart, hs]
    rfl
  have hcom : t.committedOf = s.committedOf := by
    funext gs
    rw [State.committedOf, hb, hp]
    rfl
  have hcls : t.classOf = s.classOf := by
    funext p
    simp only [State.classOf, State.item, hps]
  have hr : t.rating = s.rating := by
    funext p n
    simp only [State.rating, State.item, hps]
  have hf : t.fits = s.fits := by
    funext gs w
    rw [State.fits, hi, hc, hcom]
    rfl
  have hv : t.shedVictim = s.shedVictim := by
    funext gs
    rw [State.shedVictim, hcls]
    rfl
  have hshed : t.shedLoop = s.shedLoop := by
    funext n
    induction n with
    | zero => rfl
    | succ n ih => funext a; rw [State.shedLoop, hc, hcom, hv, ih]; rfl
  have hn : t.nextServed = s.nextServed := by
    funext rs
    induction rs with
    | nil => rfl
    | cons r rs ih => rw [State.nextServed, ih, hcls]; rfl
  have hre : t.reclaimLoop = s.reclaimLoop := by
    funext r n
    induction n with
    | zero => rfl
    | succ n ih => funext a; rw [State.reclaimLoop, hf, hr, ih]; rfl
  have hg : t.grant = s.grant := by
    funext r a
    rw [State.grant, hr]
    rfl
  have hmr : t.mayReclaim = s.mayReclaim := by
    funext r a
    rw [State.mayReclaim, hf, hr, hcls]
    rfl
  have hserve : t.serveLoop = s.serveLoop := by
    funext n
    induction n with
    | zero => rfl
    | succ n ih => funext a; rw [State.serveLoop, hn, hf, hr, hre, hg, hmr, ih]; rfl
  rw [State.evaluated, State.account, hsa, hshed, hserve]
  rfl

/-! ## What a pocket's neighbour is told -/

theorem State.onHsc_setPocket_other (s : State) (p : Pocket) (z : PocketState) (f : HeatStages → HeatStages) :
    (s.setPocket p z).onHsc (otherPocket p) f = (s.onHsc (otherPocket p) f).setPocket p z := by cases p <;> rfl

theorem State.granted_setPocket (s : State) (p r : Pocket) (z : PocketState) : (s.setPocket p z).granted r = s.granted r := by
  simp [State.granted]

theorem State.heatTarget_setPocket_other (s : State) (p : Pocket) (z : PocketState) :
    (s.setPocket p z).heatTarget (otherPocket p) = s.heatTarget (otherPocket p) := by cases p <;> rfl

theorem State.considerHold_setPocket_other (s : State) (p : Pocket) (z : PocketState) (c : Bool) :
    (s.setPocket p z).considerHold (otherPocket p) c = (s.considerHold (otherPocket p) c).setPocket p z := by
  simp only [State.considerHold, State.onHsc_setPocket_other, State.granted_setPocket, State.setPocket_shared]

theorem State.keepAsked_setPocket_other (s : State) (p : Pocket) (z : PocketState) (n : Nat) :
    (s.setPocket p z).keepAsked (otherPocket p) n = (s.keepAsked (otherPocket p) n).setPocket p z := by
  have h : (s.setPocket p z).holdRanOut (otherPocket p) = s.holdRanOut (otherPocket p) := by cases p <;> rfl
  rw [State.keepAsked, h, State.onHsc_setPocket_other, State.pocket_setPocket_other, State.keepAsked]
  split <;> rfl

theorem State.dropE_setPocket_other (s : State) (p : Pocket) (z : PocketState) :
    (s.setPocket p z).dropE (otherPocket p) = (s.dropE (otherPocket p)).setPocket p z := by
  simp only [State.dropE, State.onHsc_setPocket_other, State.heatTarget_setPocket_other, State.setPocket_shared]

/-- A pocket's own part has no say in what its neighbour is told (R105). -/
theorem State.tellGranted_setPocket_other (s : State) (p : Pocket) (z : PocketState) (n : Nat) :
    (s.setPocket p z).tellGranted (otherPocket p) n = (s.tellGranted (otherPocket p) n).setPocket p z := by
  simp only [State.tellGranted, State.granted_setPocket, State.keepAsked_setPocket_other, State.onHsc_setPocket_other,
    State.considerHold_setPocket_other, State.dropE_setPocket_other, State.setPocket_shared, State.pocket_setPocket_other]
  split_ifs <;> rfl

/-- What a pocket is told touches its own heat stage controller alone. -/
theorem State.tellGranted_own (s : State) (p : Pocket) (n : Nat) : ∃ h : HeatStages, s.tellGranted p n = s.onHsc p (fun _ => h) := by
  have own : ∀ (h : HeatStages) (f : HeatStages → HeatStages), (s.onHsc p (fun _ => h)).onHsc p f = s.onHsc p (fun _ => f h) := by
    intro h f; cases p <;> rfl
  have k : ∀ f, s.onHsc p f = s.onHsc p (fun _ => f (s.pocket p).hsc) := by intro f; cases p <;> rfl
  have k0 : s = s.onHsc p (fun _ => (s.pocket p).hsc) := by cases p <;> rfl
  unfold State.tellGranted
  dsimp only
  split
  · have ha : ∃ h, s.keepAsked p n = s.onHsc p (fun _ => h) := by
      unfold State.keepAsked
      split
      · exact ⟨_, k _⟩
      · exact ⟨_, k0⟩
    obtain ⟨h, e⟩ := ha
    rw [e, State.dropE, State.considerHold, own, own, own]
    exact ⟨_, rfl⟩
  · split
    · rw [State.considerHold, k, own]
      exact ⟨_, rfl⟩
    · exact ⟨_, k0⟩

/-- An evaluation works alike beside any own part of a pocket that keeps its reading: it makes the same lists, tells the other pocket the
same, and posts the same (R131). -/
theorem State.evaluate_setPocket (s : State) (p : Pocket) (z : PocketState) (hm : z.meter = (s.pocket p).meter) :
    ∃ y : PocketState, (s.setPocket p z).evaluate = s.evaluate.setPocket p y := by
  have he : (s.setPocket p z).evaluated = s.evaluated := by
    refine ReadAlike.evaluated ⟨by simp, by simp, fun r => ?_⟩
    obtain rfl | rfl := pocket_eq_or p r
    · simp [hm]
    · simp
  have hw : ∀ gs rs, (s.setPocket p z).withLists gs rs = (s.withLists gs rs).setPocket p z := by intro gs rs; cases p <;> rfl
  have hpost : ∀ (t : State) (y : PocketState) c k, (t.setPocket p y).postIf c k = (t.postIf c k).setPocket p y := by
    intro t y c k; cases p <;> cases c <;> rfl
  have own : ∀ (t : State) (y : PocketState) n, ∃ y', (t.setPocket p y).tellGranted p n = (t.tellGranted p n).setPocket p y' := by
    intro t y n
    obtain ⟨h, e⟩ := (t.setPocket p y).tellGranted_own p n
    obtain ⟨k, e'⟩ := t.tellGranted_own p n
    exact ⟨{ y with hsc := h }, by rw [e, e']; cases p <;> rfl⟩
  unfold State.evaluate
  dsimp only
  rw [he, hw, State.granted_setPocket, State.granted_setPocket]
  cases p
  · obtain ⟨y, e⟩ := own (s.withLists s.evaluated.grants s.evaluated.requests) z (s.granted .A)
    rw [e]
    have := State.tellGranted_setPocket_other ((s.withLists s.evaluated.grants s.evaluated.requests).tellGranted .A (s.granted .A)) .A y
      (s.granted .B)
    simp only [otherPocket] at this
    rw [this, hpost, hpost]
    exact ⟨_, rfl⟩
  · have := State.tellGranted_setPocket_other (s.withLists s.evaluated.grants s.evaluated.requests) .B z (s.granted .A)
    simp only [otherPocket] at this
    rw [this]
    obtain ⟨y, e⟩ := own ((s.withLists s.evaluated.grants s.evaluated.requests).tellGranted .A (s.granted .A)) z (s.granted .B)
    rw [e, hpost, hpost]
    exact ⟨_, rfl⟩

theorem withoutRequest_eq (rs : List StageRequest) (p : Pocket) : withoutRequest rs p = rs.filter (fun r => r.pocket ≠ p) := by
  unfold withoutRequest
  congr 1
  funext r
  cases r.pocket <;> cases p <;> rfl

/-- The release of all (R139) is the evaluation of the lists without the pocket, but for the pocket's own part. -/
theorem State.releaseAll_evaluated (s : State) (p : Pocket) (z : PocketState) (hm : z.meter = (s.pocket p).meter) :
    ∃ y : PocketState, (s.setPocket p z).releaseAll p
      = (s.relisted (s.sa.grants.filter (fun g => g.pocket ≠ p)) (s.sa.requests.filter (fun r => r.pocket ≠ p))).evaluate.setPocket p y := by
  have hg : s.sa.grants.filter (fun g => g.pocket != p) = s.sa.grants.filter (fun g => g.pocket ≠ p) := by
    congr 1
    funext g
    cases g.pocket <;> cases p <;> rfl
  have hw : ∀ (gs : List Grant) (rs : List StageRequest) (h : HeatStages),
      ((s.setPocket p z).withLists gs rs).onHsc p (fun _ => h) = (s.relisted gs rs).setPocket p { z with hsc := h } := by
    intro gs rs h; cases p <;> rfl
  unfold State.releaseAll State.removeAll
  obtain ⟨h, e⟩ := ((s.setPocket p z).withLists ((s.setPocket p z).sa.grants.filter (fun g => g.pocket != p))
    (withoutRequest (s.setPocket p z).sa.requests p)).tellGranted_own p ((s.setPocket p z).granted p)
  rw [e, hw]
  simp only [State.setPocket_shared, withoutRequest_eq, hg]
  exact State.evaluate_setPocket _ p _ (by cases p <;> exact hm)

end Sys2Proof.Machine
end

