-- ==== Sys2Proof/Laws/Transitions.lean ====
section
/-! SUPPORT. What the shared transitions do, once each: stopping the drum (R38), entering PAUSED and a wind-down (R14, R20), starting a
phase (R10), a trip (R22), the fault list's take (R160 to R163) and a report (R164). -/

namespace Sys2Proof.Machine

/-! ## Frames -/

theorem OnlyAccountMoved.toPocketAndAccount {s t : State} (p : Pocket) (h : OnlyAccountMoved s t) : OnlyPocketAndAccount p s t :=
  ⟨h.1, h.2.1 _, h.2.2.1, h.2.2.2⟩

theorem SameButHeat.refl (x : PocketState) : SameButHeat x x := rfl

theorem OnlyPocketAndAccount.trans {p : Pocket} {s t u : State} (a : OnlyPocketAndAccount p s t) (b : OnlyPocketAndAccount p t u) :
    OnlyPocketAndAccount p s u := by
  obtain ⟨⟨a1, a2, a3, a4, a5, a6, a7⟩, ah, al, ap⟩ := a
  obtain ⟨⟨b1, b2, b3, b4, b5, b6, b7⟩, bh, bl, bp⟩ := b
  refine ⟨⟨b1.trans a1, b2.trans a2, b3.trans a3, b4.trans a4, b5.trans a5, b6.trans a6, b7.trans a7⟩, ?_, ?_, fun q => ?_⟩
  · unfold SameButHeat at *
    rw [← ah, ← bh]
  · unfold SameButLists at *
    rw [← al, ← bl]
  · have h1 := ap q
    have h2 := bp q
    unfold SameButLatch at *
    rw [← h1, ← h2]

/-- A change of the pocket's own part is within the frame. -/
theorem OnlyPocketAndAccount.setPocket (p : Pocket) (s : State) (x : PocketState) : OnlyPocketAndAccount p s (s.setPocket p x) := by
  refine ⟨by and_intros <;> simp, by simp [SameButHeat], by simp [SameButLists],
    fun q => by simp [SameButLatch]⟩

theorem OnlyPocketAndAccount.of_moves {p : Pocket} {s t : State} (h : MovesTo s t) : OnlyPocketAndAccount p s t :=
  (OnlyAccountMoved.of_moves h).toPocketAndAccount p

/-- What an account move leaves of a pocket: everything but its heat stage controller. -/
theorem MovesTo.pocket {s t : State} (h : MovesTo s t) (p : Pocket) : ∃ k, t.pocket p = { s.pocket p with hsc := k } := by
  obtain ⟨m, rfl, -⟩ := h
  exact ⟨m.heat p, by simp⟩

/-- An account move leaves the clock, the profile and the meter. -/
theorem MovesTo.shared {s t : State} (h : MovesTo s t) :
    t.pending = s.pending ∧ t.mode = s.mode ∧ t.now = s.now ∧ t.loadedAt = s.loadedAt ∧ t.levelLines = s.levelLines ∧ t.sm = s.sm
    ∧ t.ps = s.ps := by
  obtain ⟨m, rfl, -⟩ := h
  and_intros <;> rfl

/-- An account move takes no kind out of a latch. -/
theorem MovesTo.latches {s t : State} (h : MovesTo s t) (q : Port) : (s.port q).latch &&& (t.port q).latch = (s.port q).latch := by
  obtain ⟨m, rfl, hl⟩ := h
  simpa using hl q

/-- An account move leaves the masks. -/
theorem MovesTo.port {s t : State} (h : MovesTo s t) (q : Port) : ∃ l, t.port q = { s.port q with latch := l } := by
  obtain ⟨m, rfl, -⟩ := h
  exact ⟨m.latch q, by simp⟩

/-! ## Event latches (R181) -/

/-- A set that holds another holds it still when joined with a third. -/
theorem EventSet.or_and_or (x y z : EventSet) (h : x &&& y = x) : (x ||| z) &&& (y ||| z) = x ||| z := by
  apply BitVec.eq_of_getLsbD_eq
  intro i _
  have hb := congrArg (fun v : EventSet => v.getLsbD i) h
  simp only [BitVec.getLsbD_and, BitVec.getLsbD_or] at hb ⊢
  cases hx : x.getLsbD i <;> cases hy : y.getLsbD i <;> simp_all

/-- Held sets are held through a further step. -/
theorem EventSet.held_trans {x y z : EventSet} (h : x &&& y = x) (k : y &&& z = y) : x &&& z = x := by
  rw [← h, BitVec.and_assoc, k]

/-- A post at a state whose latches hold what they held. -/
theorem LatchesGain.post {k : EventKind} {s t : State} (hm : ∀ q, (t.port q).mask = (s.port q).mask)
    (hl : ∀ q, (s.port q).latch &&& (t.port q).latch = (s.port q).latch) : LatchesGain k s (t.post k) := by
  intro q
  simp only [State.port_post, PortState.post, hm q]
  exact EventSet.or_and_or _ _ _ (hl q)

/-- What a post has gained is kept while the latches keep what they hold. -/
theorem LatchesGain.keep {k : EventKind} {s t u : State} (h : LatchesGain k s t)
    (hl : ∀ q, (t.port q).latch &&& (u.port q).latch = (t.port q).latch) : LatchesGain k s u :=
  fun q => EventSet.held_trans (h q) (hl q)

theorem OnlyPocketAndAccount.mask {p : Pocket} {s t : State} (h : OnlyPocketAndAccount p s t) (q : Port) :
    (t.port q).mask = (s.port q).mask := by
  have := h.2.2.2 q
  rw [← this]

theorem OnlyPocketAndLatches.toPocketAndAccount {p : Pocket} {s t : State} (h : OnlyPocketAndLatches p s t) :
    OnlyPocketAndAccount p s t := by
  obtain ⟨h1, h2, h3, h4⟩ := h
  refine ⟨h1, ?_, ?_, h4⟩
  · rw [h2]; rfl
  · rw [h3]; rfl

theorem OnlyPocketAndLatches.trans {p : Pocket} {s t u : State} (a : OnlyPocketAndLatches p s t) (b : OnlyPocketAndLatches p t u) :
    OnlyPocketAndLatches p s u := by
  have c := a.toPocketAndAccount.trans b.toPocketAndAccount
  exact ⟨c.1, b.2.1.trans a.2.1, b.2.2.1.trans a.2.2.1, c.2.2.2⟩

theorem OnlyPocketAndLatches.setPocket (p : Pocket) (s : State) (x : PocketState) : OnlyPocketAndLatches p s (s.setPocket p x) := by
  have c := OnlyPocketAndAccount.setPocket p s x
  exact ⟨c.1, by simp, by simp, c.2.2.2⟩

theorem OnlyPocketAndLatches.post (p : Pocket) (s : State) (k : EventKind) : OnlyPocketAndLatches p s (s.post k) := by
  have c := OnlyPocketAndAccount.of_moves (p := p) (MovesTo.post k s)
  exact ⟨c.1, by simp, by simp, c.2.2.2⟩

/-! ## Heat given up (R131, R139) -/

/-- What evaluated without a pocket stays so beside any other own part of it. -/
theorem EvaluatedWithout.setPocket {p : Pocket} {s t : State} (h : EvaluatedWithout p s t) (y : PocketState) :
    EvaluatedWithout p s (t.setPocket p y) := by
  obtain ⟨x, hx, ho, hl⟩ := h
  exact ⟨x, hx, ho.trans (.setPocket p t y), fun q => by simpa using hl q⟩

/-- A post after the evaluation keeps what it posted. -/
theorem EvaluatedWithout.post {p : Pocket} {s t : State} (h : EvaluatedWithout p s t) (k : EventKind) :
    EvaluatedWithout p s (t.post k) := by
  obtain ⟨x, hx, ho, hl⟩ := h
  exact ⟨x, hx, ho.trans (.post p t k), fun q => EventSet.held_trans (hl q) (by simpa [PortState.post] using latch_and_or _ _)⟩

/-- A change of the pocket's own part before the evaluation has no say in it while the reading stands. -/
theorem EvaluatedWithout.of_setPocket {p : Pocket} {s t : State} {z : PocketState} (hm : z.meter = (s.pocket p).meter)
    (h : EvaluatedWithout p (s.setPocket p z) t) : EvaluatedWithout p s t := by
  obtain ⟨x, rfl, ho, hl⟩ := h
  have e : ∀ (gs : List Grant) (rs : List StageRequest), (s.setPocket p z).relisted gs rs = (s.relisted gs rs).setPocket p z := by
    intro gs rs; cases p <;> rfl
  rw [e, (State.setPocket_shared s p z).2.2.2.2.2.1] at ho hl
  refine ⟨_, rfl, ?_⟩
  obtain ⟨y, hy⟩ := (s.relisted (s.sa.grants.filter (fun g => g.pocket ≠ p))
    (s.sa.requests.filter (fun r => r.pocket ≠ p))).evaluate_setPocket p z (by cases p <;> exact hm)
  rw [hy] at ho hl
  exact ⟨(OnlyPocketAndLatches.setPocket p _ y).trans ho, fun q => by simpa using hl q⟩

/-- The release of all evaluates without the pocket. -/
theorem EvaluatedWithout.releaseAll (s : State) (p : Pocket) (z : PocketState) (hm : z.meter = (s.pocket p).meter) :
    EvaluatedWithout p s ((s.setPocket p z).releaseAll p) := by
  obtain ⟨y, e⟩ := s.releaseAll_evaluated p z hm
  rw [e]
  exact ⟨_, rfl, .setPocket p _ y, fun q => by simp⟩

theorem State.onHsc_level (s : State) (p : Pocket) (f : HeatStages → HeatStages) :
    ((s.onHsc p f).pocket p).hsc.level = (f (s.pocket p).hsc).level ∧ (s.onHsc p f).pocket (otherPocket p) = s.pocket (otherPocket p) := by
  rw [State.pocket_onHsc_cases, State.pocket_onHsc_cases, if_pos rfl, if_neg (by cases p <;> decide)]
  exact ⟨rfl, rfl⟩

theorem State.considerHold_level (s : State) (p : Pocket) (c : Bool) :
    ((s.considerHold p c).pocket p).hsc.level = (s.pocket p).hsc.level
    ∧ (s.considerHold p c).pocket (otherPocket p) = s.pocket (otherPocket p) := by
  refine ⟨(State.onHsc_level ..).1.trans ?_, (State.onHsc_level ..).2⟩
  split
  · rfl
  · split <;> rfl

theorem State.keepAsked_level (s : State) (p : Pocket) (n : Nat) :
    ((s.keepAsked p n).pocket p).hsc.level = (s.pocket p).hsc.level
    ∧ (s.keepAsked p n).pocket (otherPocket p) = s.pocket (otherPocket p) := by
  unfold State.keepAsked
  split
  · exact State.onHsc_level ..
  · exact ⟨rfl, rfl⟩

/-- A loss reported to a heat stage controller lowers L to the count left, and leaves the other pocket alone (R105). -/
theorem State.tellGranted_level (s : State) (p : Pocket) (n : Nat) :
    ((s.tellGranted p n).pocket p).hsc.level
      = (if s.granted p < n then min (s.pocket p).hsc.level (s.granted p) else (s.pocket p).hsc.level)
    ∧ (s.tellGranted p n).pocket (otherPocket p) = s.pocket (otherPocket p) := by
  unfold State.tellGranted State.dropE
  dsimp only
  split
  · simp only [State.onHsc_level, State.considerHold_level, State.keepAsked_level, HeatStages.withEnergized_level,
      HeatStages.withLevel_level, and_self]
  · split
    · simp only [State.onHsc_level, State.considerHold_level, and_self]
    · exact ⟨rfl, rfl⟩

/-- The release of all of a pocket that had an entry lowers L to 0 (R105). -/
theorem State.releaseAll_level (s : State) (p : Pocket) (h : 0 < s.granted p) : ((s.releaseAll p).pocket p).hsc.level = 0 := by
  have h1 := (HeatLowered.evaluate (s.removeAll p) p).2.1
  have h2 := (State.tellGranted_level (s.withLists (s.sa.grants.filter (fun g => g.pocket != p)) (withoutRequest s.sa.requests p)) p
    (s.granted p)).1
  have h3 := (s.removeAll_empty p).1
  have h4 : (s.withLists (s.sa.grants.filter (fun g => g.pocket != p)) (withoutRequest s.sa.requests p)).granted p = 0 := by
    rw [← h3, State.removeAll]
    simp only [State.granted, State.tellGranted_sa]
  rw [h4, if_pos h] at h2
  have h5 : ((s.removeAll p).pocket p).hsc.level = 0 := by simpa [State.removeAll] using h2
  rw [h5] at h1
  exact Nat.le_zero.mp h1

/-- A pocket whose target has fallen to 0 gives its heat up: E falls and the allocator releases all (R107, R139). -/
theorem HeatGivenUp.releaseAll (s : State) (p : Pocket) (z : PocketState) (hm : z.meter = (s.pocket p).meter)
    (ht : (s.setPocket p z).heatTarget p = 0) : HeatGivenUp p s (((s.setPocket p z).dropE p).releaseAll p) := by
  have e : (s.setPocket p z).dropE p = s.setPocket p (((s.setPocket p z).dropE p).pocket p) := by cases p <;> rfl
  have hd := State.dropE_energized (s.setPocket p z) p
  rw [ht] at hd
  have hl := (HeatLowered.releaseAll p ((s.setPocket p z).dropE p) p).1
  obtain ⟨h1, h2⟩ := State.releaseAll_empty ((s.setPocket p z).dropE p) p
  have hz : (((s.setPocket p z).dropE p).pocket p).meter = (s.pocket p).meter := by simpa [State.dropE] using hm
  refine ⟨by omega, h1, h2, fun h => State.releaseAll_level _ p ?_, ?_⟩
  · rw [e, State.granted_setPocket]
    exact h
  · rw [e]
    exact .releaseAll s p _ hz

/-- Heat given up stays so beside any own part of the pocket that raises neither L nor E. -/
theorem HeatGivenUp.setPocket {p : Pocket} {s t : State} (h : HeatGivenUp p s t) {y : PocketState}
    (hy : (t.pocket p).hsc.LoweredTo y.hsc) : HeatGivenUp p s (t.setPocket p y) := by
  obtain ⟨h1, h2, h3, h4, h5⟩ := h
  refine ⟨?_, by rw [State.granted_setPocket]; exact h2, by simpa [State.requestOf] using h3, fun hg => ?_, h5.setPocket y⟩
  · have := hy.1
    simp only [State.pocket_setPocket]
    omega
  · have := hy.2.1
    have := h4 hg
    simp only [State.pocket_setPocket]
    omega

theorem HeatGivenUp.post {p : Pocket} {s t : State} (h : HeatGivenUp p s t) (k : EventKind) : HeatGivenUp p s (t.post k) :=
  ⟨by simpa using h.1, h.2.1, h.2.2.1, by simpa using h.2.2.2.1, h.2.2.2.2.post k⟩

/-- Heat given up from any own part of the pocket that keeps its reading is heat given up. -/
theorem HeatGivenUp.of_setPocket {p : Pocket} {s t : State} {z : PocketState} (hm : z.meter = (s.pocket p).meter)
    (h : HeatGivenUp p (s.setPocket p z) t) : HeatGivenUp p s t :=
  ⟨h.1, h.2.1, h.2.2.1, by simpa [State.granted_setPocket] using h.2.2.2.1, h.2.2.2.2.of_setPocket hm⟩

/-! ## The target of E (R107) -/

/-- While an interlock fails the target is 0. -/
theorem State.heatTarget_eq_zero (s : State) (p : Pocket)
    (h : s.heating p = false ∨ (s.pocket p).dmc.state ≠ .run ∨ (s.pocket p).lines.doorClosed = false
      ∨ (s.pocket p).ce.airflowProven = false ∨ (s.pocket p).lines.hlimClosed = false ∨ s.sm.condition ≠ .normal
      ∨ (s.pocket p).hsc.recoveryDue ≠ none ∨ (s.pocket p).hsc.safe = false) : s.heatTarget p = 0 := by
  have : s.heatPermitted p = false := by
    rcases h with h | h | h | h | h | h | h | h <;> simp_all [State.heatPermitted, State.interlocks]
  simp [State.heatTarget, this]

/-- A pocket that is not RUNNING is not heating. -/
theorem State.heating_eq_false (s : State) (p : Pocket) (h : (s.pocket p).ce.state ≠ .running) : s.heating p = false := by
  simp [State.heating, h]

/-! ## The drum stopped (R38, R39) -/

/-- The entry to COAST touches the pocket's drum, window, early-reversal notice and E, which falls to 0. -/
theorem State.toCoast_eq (s : State) (p : Pocket) (u : CoastPurpose) :
    s.toCoast p u = s.setPocket p { s.pocket p with
      dmc := coastBegun u s.now (s.coastTicks p) (s.pocket p).dmc, rcu := { (s.pocket p).rcu with window := none, pulse := none },
      tm := { (s.pocket p).tm with reversalNotice := false }, hsc := (s.pocket p).hsc.withEnergized s.now 0 } := by
  unfold State.toCoast State.dropE
  rw [State.heatTarget_eq_zero]
  · simp [State.onHsc, State.onTm, State.onRcu, State.onDmc, coastBegun, State.coastTicks, DrumMotion.outputOff,
      DrumMotion.quietTime, State.item] <;> rfl
  · simp

/-- A stop of the drum by its state (R38, R39). -/
theorem State.haltDrum_eq (s : State) (p : Pocket) :
    s.haltDrum p = match (s.pocket p).dmc.state with
      | .stopped => s
      | .accel | .run => s.toCoast p .stop
      | .coast => s.onDmc p (fun d => { d with purpose := some .stop })
      | .dwell => s.onDmc p (fun d => { d with state := .stopped, purpose := none, dwellDue := none }) := by
  unfold State.haltDrum
  cases (s.pocket p).dmc.state <;> rfl

/-- Everything a stop of the drum touches in its pocket. -/
theorem State.haltDrum_pocket (s : State) (p : Pocket) :
    ∃ (d : DrumMotion) (r : RevolutionCounter) (h : HeatStages),
      s.haltDrum p = s.setPocket p { s.pocket p with
        dmc := d, rcu := r, hsc := h,
        tm := { (s.pocket p).tm with reversalNotice :=
          if (s.pocket p).dmc.state = .accel ∨ (s.pocket p).dmc.state = .run then false else (s.pocket p).tm.reversalNotice } }
      ∧ (s.pocket p).hsc.LoweredTo h ∧ d.pendingStart = (s.pocket p).dmc.pendingStart
      ∧ DrumHalted s.now (s.coastTicks p) (s.pocket p) ((s.haltDrum p).pocket p) := by
  have still : ∀ d : DrumMotion, s.onDmc p (fun _ => d) = s.setPocket p { s.pocket p with
      dmc := d, rcu := (s.pocket p).rcu, hsc := (s.pocket p).hsc,
      tm := { (s.pocket p).tm with reversalNotice := (s.pocket p).tm.reversalNotice } } := fun _ => rfl
  rw [State.haltDrum_eq]
  cases hd : (s.pocket p).dmc.state <;> simp only [reduceCtorEq, or_self, or_true, true_or, if_true, if_false]
  case stopped =>
    exact ⟨_, _, _, (State.setPocket_pocket s p).symm.trans (still (s.pocket p).dmc), .refl _, rfl,
      by refine ⟨?_, ?_, ?_, ?_⟩ <;> intro h <;> first | (simp [hd] at h; done) | exact ⟨by simp, by simp⟩⟩
  case accel | run =>
    exact ⟨_, _, _, State.toCoast_eq s p .stop, HeatStages.withEnergized_lowers _ _ _ (Nat.zero_le _), rfl,
      by simp [State.toCoast_eq, DrumHalted, hd, coastBegun]⟩
  all_goals exact ⟨_, _, _, still _, .refl _, rfl,
      by refine ⟨?_, ?_, ?_, ?_⟩ <;> intro h <;> first | (simp [hd] at h; done) | exact ⟨by simp, by simp⟩⟩

/-- Two stops of a drum in a row leave what the first leaves. -/
theorem DrumHalted.trans {now coast : Ticks} {x y z : PocketState} (a : DrumHalted now coast x y) (b : DrumHalted now coast y z) :
    DrumHalted now coast x z := by
  obtain ⟨a1, a2, a3, a4⟩ := a
  obtain ⟨-, b2, -, b4⟩ := b
  refine ⟨fun h => ?_, fun h => ?_, fun h => ?_, fun h => ?_⟩
  · obtain ⟨e, er⟩ := a1 h
    obtain ⟨k, kr⟩ := b2 (by rw [e]; rfl)
    exact ⟨by rw [k, e]; rfl, kr.trans er⟩
  · obtain ⟨e, er⟩ := a2 h
    obtain ⟨k, kr⟩ := b2 (by rw [e]; exact h)
    exact ⟨by rw [k, e], kr.trans er⟩
  · obtain ⟨e, er⟩ := a3 h
    obtain ⟨k, kr⟩ := b4 (by rw [e])
    exact ⟨by rw [k, e], kr.trans er⟩
  · obtain ⟨e, er⟩ := a4 h
    obtain ⟨k, kr⟩ := b4 (by rw [e]; exact h)
    exact ⟨by rw [k, e], kr.trans er⟩

/-! ## Leaving a turning cycle (R14, R20) -/

/-- The part that the entries to PAUSED and to a wind-down have in common. -/
def State.leaveCycle (p : Pocket) (c : CycleEngine) (s : State) : State :=
  ((((s.onCe p (fun _ => c)).onMe p (fun m => { m with dryNotice := none })).dropE p).releaseAll p).stopRequest p

theorem State.leaveCycle_left (s : State) (p : Pocket) (c : CycleEngine) (hc : c.state ≠ .running) :
    ((s.leaveCycle p c).pocket p).ce = c ∧ CycleLeft p s (s.leaveCycle p c)
    ∧ SameRecords (s.pocket p) ((s.leaveCycle p c).pocket p)
    ∧ (∀ q, (s.port q).latch &&& ((s.leaveCycle p c).port q).latch = (s.port q).latch) := by
  unfold State.leaveCycle
  set s1 := (s.onCe p (fun _ => c)).onMe p (fun m => { m with dryNotice := none }) with hs1
  have e1 : s1 = s.setPocket p { s.pocket p with ce := c, me := { (s.pocket p).me with dryNotice := none } } := by
    simp [hs1, State.onCe, State.onMe]
  have ht : s1.heatTarget p = 0 := State.heatTarget_eq_zero _ _ (.inl (State.heating_eq_false _ _ (by simp [e1, hc])))
  have hm : MovesTo s1 ((s1.dropE p).releaseAll p) := (MovesTo.dropE p s1).trans (MovesTo.releaseAll p _)
  have hg : HeatGivenUp p s ((s1.dropE p).releaseAll p) := by
    rw [e1] at ht ⊢
    exact .releaseAll s p _ rfl ht
  set s2 := (s1.dropE p).releaseAll p with hs2
  obtain ⟨k, hk⟩ := hm.pocket p
  have hsh := hm.shared
  set s3 := s2.onDmc p (fun d => { d with pendingStart := false }) with hs3
  have e3 : s3 = s2.setPocket p { s2.pocket p with dmc := { (s2.pocket p).dmc with pendingStart := false } } := rfl
  obtain ⟨d, r, h, e4, h4, hp, hd⟩ := State.haltDrum_pocket s3 p
  have hstop : s2.stopRequest p = s3.haltDrum p := rfl
  rw [hstop, e4]
  rw [e4] at hd
  have hpk : s3.pocket p = { s.pocket p with ce := c, me := { (s.pocket p).me with dryNotice := none }, hsc := k, dmc := { (s.pocket p).dmc with pendingStart := false } } := by
    rw [e3, State.pocket_setPocket, hk, e1]
    simp
  have hnow : s3.now = s.now := by rw [e3]; simp [hsh, e1]
  have hps : s3.ps = s.ps := by rw [e3]; simp [hsh, e1]
  have hct : s3.coastTicks p = s.coastTicks p := by simp [State.coastTicks, State.item, hps]
  refine ⟨by simp [hpk], ⟨?_, ?_, ?_, ?_, ?_, ?_⟩, ?_, fun q => ?_⟩
  · have h3 : HeatGivenUp p s s3 := by
      rw [e3]
      exact hg.setPocket (.refl _)
    exact h3.setPocket h4
  · rw [hnow, hct] at hd
    simpa [DrumHalted, hpk, coastBegun] using hd
  · simpa [hpk] using hp
  · simp [hpk]
  · simp [hpk]
  · have a1 : OnlyPocketAndAccount p s s1 := by rw [e1]; exact .setPocket p s _
    have a2 : OnlyPocketAndAccount p s1 s2 := .of_moves hm
    have a3 : OnlyPocketAndAccount p s2 s3 := by rw [e3]; exact .setPocket p s2 _
    exact a1.trans (a2.trans (a3.trans (.setPocket p s3 _)))
  · simp [SameRecords, hpk]
  · have := hm.latches q
    simpa [e1, e3] using this

/-- Leaving a cycle raises neither L nor E and keeps the stages' other items. -/
theorem State.leaveCycle_lowers (s : State) (p : Pocket) (c : CycleEngine) :
    (s.pocket p).hsc.LoweredTo ((s.leaveCycle p c).pocket p).hsc := by
  set s1 := (s.onCe p (fun _ => c)).onMe p (fun m => { m with dryNotice := none }) with hs1
  set s2 := (s1.dropE p).releaseAll p with hs2
  set s3 := s2.onDmc p (fun d => { d with pendingStart := false }) with hs3
  obtain ⟨d, r, h, e4, h4, -⟩ := State.haltDrum_pocket s3 p
  have e : s.leaveCycle p c = s3.haltDrum p := rfl
  have h1 : (s1.pocket p).hsc = (s.pocket p).hsc := by simp [hs1, State.onCe, State.onMe]
  have h3 : (s3.pocket p).hsc = (s2.pocket p).hsc := by simp [hs3, State.onDmc]
  rw [e, e4]
  simp only [State.pocket_setPocket]
  rw [← h1]
  exact (((HeatLowered.dropE p s1).trans (HeatLowered.releaseAll p _)) p).trans (h3 ▸ h4)

/-- The entry to PAUSED (R14). -/
theorem State.enterPaused_entered (s : State) (p : Pocket) (cause : PauseCause) :
    EnteredPaused cause p s (s.enterPaused p cause) := by
  obtain ⟨h1, h2, h3, h4⟩ := s.leaveCycle_left p
    { (s.pocket p).ce with
      state := .paused, pause := some (cause, s.now), purgeDue := some (s.now + seconds 30), provingDue := none, lossDue := none,
      phaseTicks := s.phaseTicks p, runSince := none } (by simp)
  have e : s.enterPaused p cause = (s.leaveCycle p { (s.pocket p).ce with
      state := .paused, pause := some (cause, s.now), purgeDue := some (s.now + seconds 30), provingDue := none, lossDue := none,
      phaseTicks := s.phaseTicks p, runSince := none }).post (.paused p) := rfl
  rw [e]
  set t := s.leaveCycle p _
  refine ⟨by simpa using h1, ?_, by simpa using h3, .post (fun q => h2.2.2.2.2.2.mask q) h4⟩
  · obtain ⟨l1, l2, l3, l4, l5, l6⟩ := h2
    refine ⟨l1.post _, by simpa using l2, by simpa using l3, by simpa using l4, by simpa using l5,
      l6.trans (.of_moves (MovesTo.post _ t))⟩

/-- The entry to a wind-down (R20, R22). -/
theorem State.enterWindDown_left (s : State) (p : Pocket) (state : CycleState) (reason : CycleEndReason) (h : state ≠ .running) :
    WindDownBegun state reason s.now (s.phaseTicks p) (s.pocket p) ((s.enterWindDown p state reason).pocket p)
    ∧ CycleLeft p s (s.enterWindDown p state reason)
    ∧ SameRecords (s.pocket p) ((s.enterWindDown p state reason).pocket p)
    ∧ (∀ q, (s.port q).latch &&& ((s.enterWindDown p state reason).port q).latch = (s.port q).latch) := by
  have e : s.enterWindDown p state reason = s.leaveCycle p { (s.pocket p).ce with
      state := state, endReason := some reason, windingDown := true, pause := none, purgeDue := none, provingDue := none,
      lossDue := none, runOnSince := some s.now, phaseTicks := s.phaseTicks p, runSince := none,
      closureDue := if (s.pocket p).ce.blowerDemand then (s.pocket p).ce.closureDue
        else if (s.pocket p).lines.airfClosed then some (s.now + seconds 1) else none } := by
    unfold State.enterWindDown State.leaveCycle
    simp only [State.onCe, CycleEngine.frozen]
  rw [e]
  exact s.leaveCycle_left p _ h

/-! ## The start of a phase (R10) -/

/-- The taper's evaluation touches the taper cap alone (R82, R83). -/
theorem State.updateTaper_eq (s : State) (p : Pocket) (e : PhaseEntry) (he : s.entry p = some e) :
    s.updateTaper p = s.onMe p (fun m => { m with taperCap := taperBeside (s.item p PocketItem.taperMargin) e m.index }) := by
  simp only [State.updateTaper, he, taperBeside, taperCapOf]
  congr 1
  funext m
  cases m.index <;> simp [and_assoc]

/-- What the operations on the account keep of the items that the effective cap is formed of. -/
theorem MovesTo.effectiveCap {s t : State} (h : MovesTo s t) (p : Pocket) : t.effectiveCap p = s.effectiveCap p := by
  obtain ⟨k, hk⟩ := h.pocket p
  have hps := h.shared.2.2.2.2.2.2
  have hl : t.ps = s.ps := by
    have := h.shared
    simp_all
  simp [State.effectiveCap, State.entry, State.stageCount, State.reliefCap, hk, hl]

/-- An effective cap handed to the allocator (R101, R138). -/
theorem State.applyCap_handed (s : State) (p : Pocket) : CapHanded p s (s.applyCap p) := by
  have hw := withoutRequest_eq s.sa.requests p
  have hg : s.sa.grants.filter (fun g => g.pocket != p || g.stage ≤ s.effectiveCap p)
      = s.sa.grants.filter (fun g => g.pocket ≠ p ∨ g.stage ≤ s.effectiveCap p) := by
    congr 1
    funext g
    cases g.pocket <;> cases p <;> simp
  unfold CapHanded
  rw [(MovesTo.applyCap p s).effectiveCap p]
  refine ⟨fun h => ?_, fun h hr => ?_, fun h => ?_⟩
  · obtain ⟨hl, ho⟩ := State.tellGranted_level
      (s.withLists (s.sa.grants.filter (fun g => g.pocket ≠ p ∨ g.stage ≤ s.effectiveCap p))
        (s.sa.requests.filter (fun r => r.pocket ≠ p))) p (s.granted p)
    refine ⟨_, by rw [State.applyCap, if_pos h, hg, hw], by rw [ho]; simp, by rw [State.tellGranted_sa]; rfl, ?_⟩
    simpa [State.granted, State.tellGranted_sa] using hl
  · refine ⟨s.withLists s.sa.grants (s.sa.requests.filter (fun r => r.pocket ≠ p)), ?_, by simp, rfl, by simp⟩
    rw [State.applyCap, if_neg (by omega), if_pos h, State.withdraw, if_pos (Option.isSome_iff_ne_none.mpr hr), hw]
  · have e : s.applyCap p = s := by
      unfold State.applyCap
      rw [if_neg (by omega)]
      split
      · rw [State.withdraw, if_neg]
        simp_all
      · rfl
    rw [e]
    simp

theorem CapHanded.of_start {p : Pocket} {s s1 t : State} (h : CapHanded p s1 t) (hsa : s1.sa = s.sa)
    (hl : (s1.pocket p).hsc.level = (s.pocket p).hsc.level) (ho : s1.pocket (otherPocket p) = s.pocket (otherPocket p)) :
    CapHanded p s t := by
  have hg : s1.granted p = s.granted p := by simp only [State.granted, hsa]
  have hr : s1.requestOf p = s.requestOf p := by simp only [State.requestOf, hsa]
  unfold CapHanded at h ⊢
  rw [hg, hr, hsa, hl, ho] at h
  exact h

/-- The start of a phase whose entry is `e` (R10, R83, R84, R138). -/
theorem State.phaseStart_started (s : State) (p : Pocket) (e : PhaseEntry) (he : (s.pocket p).ce.entry = some e) :
    PhaseStarted p (s.pocket p).ce s (s.phaseStart p)
    ∧ (∀ q, (s.port q).latch &&& ((s.phaseStart p).port q).latch = (s.port q).latch) := by
  set x : PocketState := { s.pocket p with
      ce := { (s.pocket p).ce with earlierSeconds := s.totalRunning p, phaseTicks := 0, runSince := some s.now, begun := true },
      me := { (s.pocket p).me with
        taperCap := taperBeside (s.item p PocketItem.taperMargin) e (s.pocket p).me.index,
        hold := if e.kind = .heatDry then 0 else (s.pocket p).me.hold,
        lastA := if e.kind = .heatTimed ∨ e.kind = .heatDry then (s.pocket p).me.lastA else none, dryNotice := none },
      hsc := { (s.pocket p).hsc with overCount := 0 } } with hx
  have hheat : s.onHeatEntry p = e.kind.isHeat := by simp [State.onHeatEntry, State.entry, he]
  have h1 : s.phaseStart p = if e.kind.isHeat then (s.setPocket p x).applyCap p else ((s.setPocket p x).dropE p).releaseAll p := by
    unfold State.phaseStart
    dsimp only
    rw [hheat, State.updateTaper_eq _ p e (by simpa [State.entry, CycleEngine.entry] using he)]
    have : ∀ a b : State, a = b → (if e.kind.isHeat then a.applyCap p else (a.dropE p).releaseAll p)
        = if e.kind.isHeat then b.applyCap p else (b.dropE p).releaseAll p := by rintro a _ rfl; rfl
    refine this _ _ ?_
    cases hk : e.kind <;>
      simp [hx, hk, State.onCe, State.onMe, State.onHsc, State.entry, he, State.item, PhaseKind.isHeat]
  have hp1 : (s.setPocket p x).pocket p = x := by simp
  have key : ∀ t, MovesTo (s.setPocket p x) t → HeatLowered (s.setPocket p x) t → (e.kind.isHeat = false → HeatGivenUp p s t) →
      (e.kind.isHeat = true → CapHanded p s t) →
      PhaseStarted p (s.pocket p).ce s t ∧ (∀ q, (s.port q).latch &&& (t.port q).latch = (s.port q).latch) := by
    intro t hm hl hg hc
    obtain ⟨k, hk⟩ := hm.pocket p
    have hh := (hl p).2.2
    rw [hp1] at hk hh
    refine ⟨⟨by simp [hk, hx], by rw [hh], ⟨e, he, by simp [hk, hx], fun h => hg ?_, fun h => hc ?_⟩, by simp [hk, hx],
      by simp [hk, hx], by simp [hk, hx], by simp [SameRecords, hk, hx], ?_⟩, fun q => by simpa using hm.latches q⟩
    · rcases h with h | h <;> rw [h] <;> rfl
    · rcases h with h | h <;> rw [h] <;> rfl
    · exact (OnlyPocketAndAccount.setPocket p s _).trans (.of_moves hm)
  rw [h1]
  split
  · rename_i h
    refine key _ (MovesTo.applyCap p _) (HeatLowered.applyCap p _) (by simp [h]) fun _ => ?_
    exact (State.applyCap_handed _ p).of_start (by simp) (by simp [hx]) (by simp)
  · rename_i h
    have hn : (s.setPocket p x).onHeatEntry p = false := by
      have : (s.setPocket p x).onHeatEntry p = s.onHeatEntry p := by simp [State.onHeatEntry, State.entry, CycleEngine.entry, hx]
      rw [this, hheat]
      simpa using h
    have ht : (s.setPocket p x).heatTarget p = 0 := State.heatTarget_eq_zero _ _ (.inl (by simp [State.heating, hn]))
    exact key _ ((MovesTo.dropE p _).trans (MovesTo.releaseAll p _)) ((HeatLowered.dropE p _).trans (HeatLowered.releaseAll p _))
      (fun _ => .releaseAll s p x rfl ht) (fun k => absurd k h)

/-! ## Trips (R22) -/

/-- The response to a trip (R22): everything it does, and that it raises neither L nor E and keeps the records. -/
theorem State.trip_tripped (s : State) (p : Pocket) :
    Tripped p s (s.trip p) ∧ SameRecords (s.pocket p) ((s.trip p).pocket p)
    ∧ ((s.trip p).pocket p).hsc.energized ≤ (s.pocket p).hsc.energized := by
  have wd : ∀ (h : (s.pocket p).ce.state.stoppable = true),
      s.trip p = (s.enterWindDown p .faulted .fault).post (.fault p) := by
    intro h
    unfold State.trip
    cases hs : (s.pocket p).ce.state <;> simp_all [CycleState.stoppable]
  have other : ∀ c : CycleEngine, (s.pocket p).ce.state.stoppable = false → s.trip p = (s.onCe p (fun _ => c)).post (.fault p) →
      TripResponse s.now (s.phaseTicks p) (s.pocket p) { s.pocket p with ce := c } →
      Tripped p s (s.trip p) ∧ SameRecords (s.pocket p) ((s.trip p).pocket p)
      ∧ ((s.trip p).pocket p).hsc.energized ≤ (s.pocket p).hsc.energized := by
    intro c hs e ht
    rw [e]
    have e1 : s.onCe p (fun _ => c) = s.setPocket p { s.pocket p with ce := c } := rfl
    refine ⟨⟨by simpa using ht, by simp [hs], fun _ => ⟨by simp, by simp, by simp, by simp, ?_⟩,
      .post (by simp) (by simp)⟩, by simp [SameRecords], by simp⟩
    exact (OnlyPocketAndLatches.setPocket p s _).trans (.post p _ _)
  cases hs : (s.pocket p).ce.state
  · refine other _ (by simp [hs, CycleState.stoppable]) ?_ (by simp [TripResponse, hs]; rfl)
    simp [State.trip, hs, State.onCe]
  case windingDown =>
    refine other _ (by simp [hs, CycleState.stoppable]) ?_ (by simp [TripResponse, hs]; rfl)
    simp [State.trip, hs, State.onCe]
  case faulted =>
    refine other (s.pocket p).ce (by simp [hs, CycleState.stoppable]) ?_ (by simp [TripResponse, hs])
    rw [State.trip, hs]
    exact congrArg _ (State.setPocket_pocket s p).symm
  all_goals
    have hst : (s.pocket p).ce.state.stoppable = true := by simp [hs, CycleState.stoppable]
    obtain ⟨h1, h2, h3, h4⟩ := s.enterWindDown_left p .faulted .fault (by simp)
    rw [wd hst]
    obtain ⟨l1, l2, l3, l4, l5, l6⟩ := h2
    refine ⟨⟨by simpa [TripResponse, hs] using h1, fun _ => ⟨l1.post _, by simpa using l2, by simpa using l3,
      by simpa using l4, by simpa using l5, l6.trans (.of_moves (MovesTo.post _ _))⟩, by simp [hst],
      .post (fun q => l6.mask q) h4⟩, by simpa using h3, by simp [l1.1]⟩

/-- A trip leaves the SAFE item to its report (R165). -/
theorem State.trip_safe (s : State) (p : Pocket) : ((s.trip p).pocket p).hsc.safe = (s.pocket p).hsc.safe := by
  have wd : ∀ r, (((s.enterWindDown p .faulted r).post (.fault p)).pocket p).hsc.safe = (s.pocket p).hsc.safe := by
    intro r
    have h := s.leaveCycle_lowers p { (s.pocket p).ce with
      state := .faulted, endReason := some r, windingDown := true, pause := none, purgeDue := none, provingDue := none,
      lossDue := none, runOnSince := some s.now, phaseTicks := s.phaseTicks p, runSince := none,
      closureDue := if (s.pocket p).ce.blowerDemand then (s.pocket p).ce.closureDue
        else if (s.pocket p).lines.airfClosed then some (s.now + seconds 1) else none }
    have := congrArg HeatStages.safe h.2.2
    rw [State.pocket_post]
    refine Eq.trans ?_ this
    unfold State.enterWindDown State.leaveCycle
    simp only [State.onCe, CycleEngine.frozen]
  cases hs : (s.pocket p).ce.state <;> simp only [State.trip, hs]
  all_goals first
    | exact wd _
    | simp [State.onCe]

/-! ## The fault list (R160 to R163) -/

theorem eraseP_split {α : Type} (f : α → Bool) (l : List α) (h : ∃ x ∈ l, f x = true) :
    ∃ before after w, l = before ++ w :: after ∧ f w = true ∧ (∀ x ∈ before, f x = false) ∧ l.eraseP f = before ++ after := by
  obtain ⟨x, hx, hfx⟩ := h
  obtain ⟨w, before, after, h1, h2, h3, h4⟩ := List.exists_of_eraseP hx hfx
  exact ⟨before, after, w, h3, h2, fun y hy => by simpa using h1 y hy, h4⟩

/-- Everything that taking a report does to a list. -/
theorem FaultList.take_takes (phase : Option Nat) (n : Nat) (k : FaultKind) (detail : Option Nat) (f : FaultList) :
    ListTakes phase n k detail f (f.take phase n k detail).1 := by
  unfold ListTakes FaultList.take
  dsimp only
  split
  · refine ⟨rfl, by simp, fun i x hx => ?_⟩
    simp only [List.getElem?_map, hx, Option.map_some, Option.some.injEq]
    by_cases hk : x.kind = k
    · simp only [hk, beq_self_eq_true, if_true, FaultRecord.repeated]
      rw [Nat.min_comm]
    · simp [hk]
  · split
    · rfl
    · by_cases hw : ∃ x ∈ f.records, isTrip x.kind = false
      · rw [if_pos hw, if_pos (by simpa using hw)]
        obtain ⟨before, after, w, h1, h2, h3, h4⟩ := eraseP_split (fun q : FaultRecord => !isTrip q.kind) f.records (by simpa using hw)
        refine ⟨before, after, w, h1, by simpa using h2, fun x hx => by simpa using h3 x hx, ?_⟩
        simp only [h4]
        rfl
      · have hany : (f.records.any fun q => !isTrip q.kind) = false := by simpa using hw
        rw [if_neg hw]
        by_cases hk : k = .heaterStuckOn
        · simp [hany, hk, newRecord]
        · simp [hany, hk]

/-- A report of HEATER_STUCK_ON is always listed (R163). -/
theorem FaultList.take_holds_stuckOn (phase : Option Nat) (n : Nat) (detail : Option Nat) (f : FaultList) :
    (f.take phase n .heaterStuckOn detail).1.holds .heaterStuckOn = true := by
  unfold FaultList.take
  dsimp only
  split
  · rename_i h
    simp only [FaultList.holds, List.any_eq_true, List.mem_map] at h ⊢
    obtain ⟨x, hx, hk⟩ := h
    refine ⟨_, ⟨x, hx, rfl⟩, ?_⟩
    rw [if_pos hk]
    simpa [FaultRecord.repeated] using hk
  · split
    · simp [FaultList.holds, newRecord]
    · split
      · simp [FaultList.holds, newRecord]
      · simp [FaultList.holds, newRecord]

/-- Whether a take made a new record: its kind was not listed and is. -/
theorem FaultList.take_new (phase : Option Nat) (n : Nat) (k : FaultKind) (detail : Option Nat) (f : FaultList) :
    (f.take phase n k detail).2 = (!f.holds k && (f.take phase n k detail).1.holds k) := by
  unfold FaultList.take
  dsimp only
  split
  · rename_i h; simp [h]
  · rename_i h
    split
    · simp [FaultList.holds, newRecord]; simpa [FaultList.holds] using h
    · split
      · simp [FaultList.holds, newRecord]; simpa [FaultList.holds] using h
      · split
        · simp [FaultList.holds, newRecord]; simpa [FaultList.holds] using h
        · simp [FaultList.holds]

/-! ## Reports (R164) -/

/-- The state in which a report's trip is responded to. -/
theorem State.report_eq_trip (s : State) (p : Pocket) (k : FaultKind) (detail : Option Nat) (hk : isTrip k = true) :
    ∃ h : HeatStages, (s.pocket p).hsc.energized ≥ h.energized ∧ (k ≠ .heaterStuckOn → h = (s.pocket p).hsc)
      ∧ (k = .heaterStuckOn → h.safe = false ∧ h.energized = 0)
      ∧ s.report p k detail = (s.setPocket p { s.pocket p with
          fl := ((s.pocket p).fl.take (s.pocket p).ce.faultPhase s.secondsCount k detail).1, hsc := h }).trip p := by
  by_cases h : k = .heaterStuckOn
  · subst h
    refine ⟨{ (s.pocket p).hsc with safe := false }.withEnergized s.now 0, by simp, by simp, fun _ => ⟨?_, by simp⟩, ?_⟩
    · unfold HeatStages.withEnergized; split <;> rfl
    · simp only [State.report, hk, if_true, beq_self_eq_true]
      rw [State.dropE, State.heatTarget_eq_zero]
      · simp [State.onHsc, State.onFl]
      · simp
  · refine ⟨(s.pocket p).hsc, le_refl _, fun _ => rfl, fun e => absurd e h, ?_⟩
    have hb : (k == FaultKind.heaterStuckOn) = false := by simpa using h
    simp only [State.report, hk, if_true, hb]
    simp [State.onFl]

theorem State.report_trip (s : State) (p : Pocket) (k : FaultKind) (detail : Option Nat) (hk : isTrip k = true) :
    Tripped p s (s.report p k detail) ∧ SameRecordsButFaults (s.pocket p) ((s.report p k detail).pocket p)
    ∧ ListTakes (s.pocket p).ce.faultPhase s.secondsCount k detail (s.pocket p).fl ((s.report p k detail).pocket p).fl
    ∧ ((s.report p k detail).pocket p).hsc.energized ≤ (s.pocket p).hsc.energized
    ∧ (k = .heaterStuckOn → ((s.report p k detail).pocket p).hsc.safe = false
        ∧ ((s.report p k detail).pocket p).hsc.energized = 0 ∧ ((s.report p k detail).pocket p).fl.holds .heaterStuckOn = true) := by
  obtain ⟨h, h1, h2, h3, e⟩ := s.report_eq_trip p k detail hk
  rw [e]
  have hf := FaultList.take_takes (s.pocket p).ce.faultPhase s.secondsCount k detail (s.pocket p).fl
  have hs := FaultList.take_holds_stuckOn (s.pocket p).ce.faultPhase s.secondsCount detail (s.pocket p).fl
  generalize hx : ((s.pocket p).fl.take (s.pocket p).ce.faultPhase s.secondsCount k detail).1 = x at hf ⊢
  set s1 := s.setPocket p { s.pocket p with fl := x, hsc := h } with hs1
  have hp : s1.pocket p = { s.pocket p with fl := x, hsc := h } := by simp [hs1]
  have hpt : s1.phaseTicks p = s.phaseTicks p := by unfold State.phaseTicks; rw [hp]; simp [hs1]
  have hct : s1.coastTicks p = s.coastTicks p := by simp [State.coastTicks, State.item, hs1]
  have hnow : s1.now = s.now := by simp [hs1]
  have hport : ∀ q, s1.port q = s.port q := by simp [hs1]
  have ho : OnlyPocketAndAccount p s s1 := .setPocket p s _
  have hol : OnlyPocketAndLatches p s s1 := .setPocket p s _
  obtain ⟨⟨t1, t2, t3, t4⟩, ⟨r1, r2, r3, r4, r5⟩, he⟩ := s1.trip_tripped p
  rw [hp] at t1 t2 t3 r1 r2 r3 r4 r5 he
  rw [hpt, hnow] at t1
  refine ⟨⟨t1, fun hst => ?_, fun hst => ?_, fun q => ?_⟩, ⟨r1, r2, r4, r5⟩, by rw [r3]; exact hf, le_trans he h1, ?_⟩
  · obtain ⟨g, d, d2, m, n, o⟩ := t2 hst
    rw [hp] at d m n
    rw [hct, hnow] at d
    exact ⟨.of_setPocket (by rfl) g, d, d2, m, n, ho.trans o⟩
  · obtain ⟨a1, a2, a3, a4, o⟩ := t3 hst
    exact ⟨a1, a2, a3, a4, hol.trans o⟩
  · rw [← hport q]; exact t4 q
  · intro hk'
    subst hk'
    obtain ⟨q1, q2⟩ := h3 rfl
    refine ⟨by rw [State.trip_safe, hp]; exact q1, Nat.le_zero.mp (le_trans he (le_of_eq q2)), by rw [r3]; exact hx ▸ hs⟩

end Sys2Proof.Machine
end

