-- ==== Sys2Proof/WellFormed.lean ====
section
/-! DEFINITION. Well-formed commands: operands the lines and links can carry. A meaning is total all the same; these checks say
which terms stand for something that can arrive. -/

namespace Sys2Proof

open Machine

/-- A payload of 0..240 bytes (R175). -/
def payloadFits (payload : List Byte) : Bool := payload.length ≤ 240

/-- A code that is none of R179's. -/
def codeUnknown (code : Byte) : Bool := (requestOfCode code).isNone

/-- A voltage reading, 0..6,000 decivolts (R145). -/
def voltageFits (v : Nat) : Bool := v ≤ 6000

/-- A temperature sample, −32,767..32,767 (R191). -/
def temperatureFits (t : Int) : Bool := -32767 ≤ t && t ≤ 32767

/-- The readings of a supply update (R145, R191). -/
def Readings.fits (r : Readings) : Bool :=
  voltageFits r.voltage && temperatureFits r.exhaustA && temperatureFits r.inletA && temperatureFits r.exhaustB
    && temperatureFits r.inletB

/-- A phase index, 1..8 (R3). -/
def phaseFits (i : Nat) : Bool := 1 ≤ i && i ≤ 8

/-- A detail of 0..6 for the kinds that carry one, and none for the others (R157). -/
def detailFits (k : FaultKind) : Option Nat → Bool
  | some n => hasDetail k && n ≤ 6
  | none => !hasDetail k

/-- At least one character, the one the row is about (R176). -/
def charsFit (chars : List Byte) : Bool := !chars.isEmpty

/-- The well-formed commands. -/
def Instr.wellFormed : Instr → Bool
  | .start _ _ b | .pause _ _ b | .resume _ _ b | .stop _ _ b | .addTime _ _ b | .halt _ _ b | .shed _ _ b | .restore _ _ b
  | .fetchSamples _ _ b | .clearFault _ _ b | .readPocket _ _ b | .readFaults _ _ b | .readSupply _ _ b | .readMeter _ _ b
  | .readProfile _ _ b | .readEvents _ _ b | .setEventMask _ _ b | .setLevel _ _ b | .writeCeiling _ _ b | .setClass _ _ b
  | .writeProfile _ _ b | .saveProfile _ _ b => payloadFits b
  | .unknownCode _ code _ b => codeUnknown code && payloadFits b
  | .frameCheckFail _ chars | .frameLengthInvalid _ chars => charsFit chars
  | .characterError _ _ | .frameGapTimeout _ _ | .replyDone _ => true
  | .doorOpen _ | .doorClose _ | .airfClose _ | .airfOpen _ | .airflowProven _ | .provingTimeout _ | .airflowLossTimeout _
  | .hlimOpen _ | .hlimClose _ | .drvfAssert _ | .idxEdge _ _ | .tchEdge _ _ _ | .contactQualified _ => true
  | .dryCondition _ phase => phaseFits phase
  | .earlyReversal _ => true
  | .faultReport _ kind detail => detailFits kind detail
  | .dclrPulseEnd _ _ | .lockoutEnd _ | .accelTimeout _ | .fullRun _ | .stallTimeout _ | .coastEnd _ | .dwellEnd _
  | .minimumRunReached _ | .phaseTimeExpired _ | .purgeEnd _ | .pauseTimeout _ | .runOnTimeout _ => true
  | .supplyUpdate r => r.fits
  | .voltageSample v => voltageFits v
  | .releaseHoldExpired _ | .energizeStep _ | .recoveryEnd _ | .shedHoldExpired _ | .flushTimerExpired _
  | .levelLinesChange _ _ _ | .levelDebounceExpired | .saveDone _ | .resetAssert | .resetRelease => true
  | .profileLoadDone vsup => voltageFits vsup
  | .wetRise _ _ | .wetFall _ _ | .powerLoss => true

end Sys2Proof
end

