-- ==== Sys2Proof/Tests/Slice0.lean ====
section
/-! SUPPORT. Tests: ill-formed commands that each check of WellFormed refuses, worked examples of the spec, one step each, and for every
statement with hypotheses a state and operands that meet them, clause by clause. -/

namespace Sys2Proof.Tests

open Sys2Proof.Machine

set_option Elab.async false

/-! ## WellFormed -/

theorem test_payload_too_long : Instr.wellFormed (.start .A 0#8 (List.replicate 241 0#8)) = false := by decide +kernel
theorem test_payload_longest : Instr.wellFormed (.start .A 0#8 (List.replicate 240 0#8)) = true := by decide +kernel
theorem test_known_code_is_not_unknown : Instr.wellFormed (.unknownCode .S 0x10#8 0#8 []) = false := by decide
theorem test_unknown_code : Instr.wellFormed (.unknownCode .S 0x15#8 0#8 []) = true := by decide
theorem test_failed_check_needs_characters : Instr.wellFormed (.frameCheckFail .A []) = false := by decide
theorem test_invalid_length_needs_characters : Instr.wellFormed (.frameLengthInvalid .A []) = false := by decide
theorem test_phase_index_zero : Instr.wellFormed (.dryCondition .A 0) = false := by decide
theorem test_phase_index_nine : Instr.wellFormed (.dryCondition .A 9) = false := by decide
theorem test_detail_without_need : Instr.wellFormed (.faultReport .A .drumStall (some 1)) = false := by decide
theorem test_detail_missing : Instr.wellFormed (.faultReport .A .heaterOvercurrent none) = false := by decide
theorem test_detail_too_large : Instr.wellFormed (.faultReport .A .heaterOvercurrent (some 7)) = false := by decide
theorem test_voltage_too_high : Instr.wellFormed (.voltageSample 6001) = false := by decide
theorem test_load_voltage_too_high : Instr.wellFormed (.profileLoadDone 6001) = false := by decide

/-- Readings of a cool, unloaded pocket pair. -/
def quiet : Readings :=
  { voltage := 4000, currentA := 0, currentB := 0, exhaustA := 240, inletA := 240, exhaustB := 240, inletB := 240 }

theorem test_temperature_too_high : Instr.wellFormed (.supplyUpdate { quiet with exhaustA := 32768 }) = false := by decide
theorem test_temperature_too_low : Instr.wellFormed (.supplyUpdate { quiet with inletB := -32768 }) = false := by decide
theorem test_reading_too_high : Instr.wellFormed (.supplyUpdate { quiet with voltage := 6001 }) = false := by decide
theorem test_readings : Instr.wellFormed (.supplyUpdate quiet) = true := by decide

/-- The table gives no row bits, so no word spells a command. -/
theorem test_no_word_spells_a_command : decodeTableWord 8 0x10 = none := rfl

/-! ## States -/

/-- The controller at work with the supply NORMAL and nothing running. -/
def live : State :=
  let s := { State.reset with
    mode := .operating, portA := (PortState.silent .A).live .A, portB := (PortState.silent .B).live .B,
    portS := (PortState.silent .S).live .S,
    sm := { SupplyMeter.startUp with
      sample := some 4000, held := some 4000, condition := .normal, nextSample := 500, nextUpdate := 2500 } }
  (s.onHsc .A (fun h => { h with safe := true })).onHsc .B (fun h => { h with safe := true })

/-- The entries of 12.1. -/
def dryEntry : PhaseEntry :=
  { kind := .heatDry, temperature := 70, minutes := 40, dryness := 850, hold := 3, stageCap := 4, pattern := 0 }
def coolEntry : PhaseEntry :=
  { kind := .cool, temperature := 40, minutes := 10, dryness := 0, hold := 0, stageCap := 0, pattern := 2 }
def tumbleEntry : PhaseEntry :=
  { kind := .tumble, temperature := 0, minutes := 5, dryness := 0, hold := 0, stageCap := 0, pattern := 1 }

/-- Pocket `p` in cycle state `c` on entry 1 of three, with AIRF closed. -/
def inState (p : Pocket) (c : CycleState) (s : State) : State :=
  (s.onLines p (fun l => { l with airfClosed := true })).onCe p (fun e =>
    { e with state := c, program := [dryEntry, tumbleEntry, coolEntry], index := some 1, begun := true,
             runSince := if c = .running then some 0 else none, airflowProven := true })

/-- Pocket `p`'s drum in motion state `m`. -/
def drumIn (p : Pocket) (m : MotionState) (s : State) : State :=
  s.onDmc p (fun d =>
    { d with state := m, runOutput := m = .run, latched := { forwardRun := 120, reverseRun := 120, speed := .high, response := true },
             segmentSince := if m = .run then some 0 else none, stallDue := if m = .run then some 25000 else none,
             purpose := if m = .coast then some .stop else none })

/-- Pocket A RUNNING its HEAT_DRY entry, its drum in RUN with an open window. -/
def drying : State :=
  (drumIn .A .run (inState .A .running live)).onRcu .A (fun r =>
    { r with window := some { openedAt := 0, tachEdges := 0, contacts := 0, contactTicks := 0 }, segmentRecords := 5 })
  |>.onMe .A (fun m => { m with exhaust := some 620, inlet := some 240 })

/-- Pocket `p` with stages 1..n granted, in this order, after what is granted already. -/
def granting (gs : List (Pocket × Nat)) (rs : List StageRequest) (s : State) : State :=
  { s with sa := { s.sa with grants := gs.map (fun g => { pocket := g.1, stage := g.2, rating := 3000 }), requests := rs } }

/-- The state after a command that answers a next one. -/
def after (c : Instr) (s : State) : State :=
  match exec c s with
  | .next t => t
  | .fault _ => s
  | .refused _ => s

/-! ## Worked examples of the spec -/

/-- R175: the check over "123456789" is 0x29B1. -/
theorem test_check : checkOf [0x31#8, 0x32#8, 0x33#8, 0x34#8, 0x35#8, 0x36#8, 0x37#8, 0x38#8, 0x39#8] = 0x29B1#16 := by decide +kernel

/-- 1.12: START clamps entry 1 to 80 °C and stage cap 4, and the reply shows the entries as stored. -/
theorem test_start_clamps :
    (((after (.start .A 7#8 ([3#8] ++ encodeEntry { dryEntry with temperature := 85, stageCap := 6 } ++ encodeEntry tumbleEntry
      ++ encodeEntry coolEntry)) live).port .A).reply.map (·.payload)) = some [3#8, 80#8, 4#8, 0#8, 0#8, 40#8, 0#8] := by
  decide +kernel

/-- 1.12: the time remaining after START is (40 + 5 + 10) × 60 s. -/
theorem test_time_remaining : (inState .A .proving live).timeRemaining .A = 3300 := by decide +kernel

/-- 2.8: at COAST entry a last period of 0.80 s gives a quiet time of 1.2 s. -/
theorem test_quiet_time :
    ((after (.stallTimeout .A) (drying.onDmc .A (fun d => { d with lastPeriod := some 8000 }))).a.dmc.quietDue) = some 37000 := by
  decide +kernel

/-- 2.8: REV off for only 1.4 s at the end of the DCLR pulse: FWD waits until 2 s have passed. -/
theorem test_lockout_wait :
    ((after (.dclrPulseEnd .A false) ({ drumIn .A .accel live with now := 2514000 }.onDmc .A (fun d =>
      { d with pulseDue := some 2514000, reverseOff := 2500000 }))).a.dmc.lockoutDue) = some 2520000 := by
  decide +kernel

/-- 3.8: pulse d is counted in the window in which it qualifies and divides its time at the edge. -/
theorem test_contact_divided :
    let s := after (.idxEdge .A 40) (after (.wetRise .A 60) ({ drying with now := 11900 }.onRcu .A (fun r =>
      { r with window := some { openedAt := 0, tachEdges := 1190, contacts := 2, contactTicks := 1150 } })))
    (s.a.sb.x.records.map (fun r => (r.period, r.contacts, r.contactTime, r.tach)) = [(12000, 3, 1190, 1190)])
    ∧ (after (.wetFall .A 60) s).a.rcu.window.map (·.contactTicks) = some 60 := by
  decide +kernel

/-- The figures that 4.11 shows. -/
def figures (m : Estimator) : List (Option Nat) := [m.lastW, m.s16, m.lastM, m.lastA, m.index, some m.hold, m.taperCap]

/-- 4.11: one record's figures, and the taper it brings into force. -/
theorem test_estimate :
    figures (((drying.onMe .A (fun m => { m with s16 := some 12804 })).takeMoisture .A 12000 1860 620 240).pocket .A).me
      = [some 634, some 12472, some 810, some 826, some 814, some 0, some 3] := by
  decide +kernel

/-- 7.10: committed power under METERED. -/
theorem test_metered :
    let s := ((granting [(.A, 1), (.A, 2), (.A, 3), (.A, 4), (.B, 1), (.B, 2)] [] live).writeItem SharedItem.basis 1)
      |>.onMeter .A (fun m => { m with reading := some { current := 1450, energized := 4, power := 10045 } })
      |>.onMeter .B (fun m => { m with reading := some { current := 424, energized := 1, power := 2940 } })
    s.committed = 15985 := by
  decide +kernel

/-- 7.10: 4,000 decivolts and 14.50 A at 1,732 ‰ give 10,045 W. -/
theorem test_power : live.powerOf 4000 1450 = 10045 := by decide +kernel

/-- 8.6, updates 6 and 7: the residual reaches a Wh, which goes to both counters. -/
theorem test_energy :
    ({ reading := none, residual := 14098, cycleEnergy := 0, totalEnergy := 52310 } : PocketMeter).accumulate 2511 true
      = { reading := none, residual := 2209, cycleEnergy := 1, totalEnergy := 52311 } := by decide

/-- 8.7: the fifth low-side sample in a row brings LOW. -/
theorem test_condition_low :
    (after (.voltageSample 3510) { live with sm := { live.sm with lowRun := 4 } }).sm.condition = .low := by decide +kernel

/-- 8.7: a margin sample breaks the low-side run. -/
theorem test_margin_breaks_the_run :
    (after (.voltageSample 3620) { live with sm := { live.sm with lowRun := 2 } }).sm.lowRun = 0 := by decide +kernel

/-- The two pockets of 12.2, A CRITICAL and B LOW, both heating, with level `n` forced. -/
def shared (n : Nat) (gs : List (Pocket × Nat)) (rs : List StageRequest) : State :=
  let s := ((inState .B .running (inState .A .running live)).writeItem (itemNumber .A PocketItem.priorityClass) 0).writeItem
    (itemNumber .B PocketItem.priorityClass) 2
  granting gs rs { s with sa := { s.sa with forced := some n } }

/-- 12.2 at 0.5 s: B3 and B2 are shed, and B's request is withdrawn. -/
theorem test_shedding :
    let s := (shared 2 [(.A, 1), (.A, 2), (.B, 1), (.A, 3), (.B, 2), (.A, 4), (.B, 3)]
      [{ pocket := .B, stage := 4, posted := 0 }]).evaluate
    s.sa.grants.map (fun g => (g.pocket, g.stage)) = [(.A, 1), (.A, 2), (.B, 1), (.A, 3), (.A, 4)] ∧ s.committed = 15000
      ∧ s.sa.requests = [] := by
  decide +kernel

/-- 12.2 at 14.0 s: A's request reclaims B2 and is granted. -/
theorem test_reclaim :
    let s := (shared 2 [(.A, 1), (.A, 2), (.B, 1), (.A, 3), (.B, 2)] []).postRequest .A 4
    s.sa.grants.map (fun g => (g.pocket, g.stage)) = [(.A, 1), (.A, 2), (.B, 1), (.A, 3), (.A, 4)] ∧ s.committed = 15000 := by
  decide +kernel

/-- A record of no contact. -/
def dryRecord : RevolutionRecord :=
  { sequence := 0, direction := .forward, validity := .valid, tangleFlag := false, energized := 0, period := 10000, tach := 0,
    contacts := 0, contactTime := 0, exhaust := none, index := none }

/-- 12.4: the twelfth record makes X READY and Y FILLING. -/
theorem test_buffer_ready :
    let s := (live.onSb .A (fun b => { b with x := { state := .filling, records := List.replicate 11 dryRecord } })).appendSample .A dryRecord
    (s.a.sb.x.state, s.a.sb.x.records.length, s.a.sb.y.state) = (.ready, 12, .filling) := by
  decide +kernel

/-- R191: the status of an idle pocket without a program is 116 bytes. -/
theorem test_status_length : (live.pocketStatus .A).length = 116 := by decide +kernel

/-- The lengths of the two reports whose layout is the model's (notes/assumptions/11.md). -/
theorem test_report_lengths : live.supplyReport.length = 71 ∧ live.meterReport.length = 60 := by decide +kernel

/-! ## Witnesses

For each statement with hypotheses, states and operands that meet them, clause by clause. A hypothesis that only names a state
(`b = …`) is met by the state it names. -/

theorem live_hears (q : Port) : live.hears q := by cases q <;> exact ⟨rfl, by decide +kernel⟩

/-- O2. -/
theorem witness_EmptyQueueWorksByTheClock :
    State.reset.pending = [] ∧ State.reset.mode = .loading ∧ ({ State.reset with mode := .off }).pending = []
    ∧ ({ State.reset with mode := .held }).pending = [] ∧ live.pending = [] ∧ live.mode = .operating
    ∧ (∀ e ∈ live.due, live.now < e.1)
    ∧ (∃ e ∈ live.startStability.due, live.startStability.now < e.1)
    ∧ (∃ e ∈ ({ live.startStability with now := 5000 }).due, e.1 ≤ 5000) := by decide +kernel

/-- O4: a store that passes its check and one that fails it. -/
theorem witness_ResetClearsAndReleaseLoads :
    ({ State.reset with mode := .held }).mode = .held
    ∧ (ProfileStore.factory.check = checkOf ProfileStore.factory.image.bytes ∧ ProfileStore.factory.image.inRange = true
        ∧ ProfileStore.factory.image.jointlyValid = true)
    ∧ ¬ (~~~ checkOf ProfileStore.factory.image.bytes = checkOf ProfileStore.factory.image.bytes) := by
  refine ⟨rfl, ⟨by simp only [ProfileStore.factory], by decide +kernel, by decide +kernel⟩, ?_⟩
  generalize checkOf ProfileStore.factory.image.bytes = w
  intro h
  have h0 := congrArg (fun v : CheckWord => v.getLsbD 0) h
  simp at h0

/-- O5: the state right after reset, and the same with HLIM of pocket A open; first samples in the sense range and at its two ends. -/
theorem witness_LoadDoneOpensTheController :
    State.reset = { State.startUp [] .loading .initial .initial 0 .factory with now := 0 }
    ∧ PocketLines.initial.hlimClosed = true ∧ ({ PocketLines.initial with hlimClosed := false }).hlimClosed = false
    ∧ (1 = min 1 6000 ∧ 0 < 1 ∧ 1 < 6000) ∧ (5999 = min 5999 6000 ∧ 0 < 5999 ∧ 5999 < 6000)
    ∧ 0 = min 0 6000 ∧ 6000 = min 6001 6000 :=
  ⟨rfl, rfl, rfl, by decide, by decide, rfl, rfl⟩

/-- R184: with the first sample in range and HLIM closed each latch holds RESTARTED alone. -/
theorem test_restarted_alone :
    [Port.A, .B, .S].map (fun q => ((after (.profileLoadDone 4000) State.reset).port q).latch)
      = [EventKind.restarted.set, EventKind.restarted.set, EventKind.restarted.set] := by
  decide +kernel

/-- A save in progress. -/
def saving : State := { live with ps := { live.ps with saving := true } }

/-- O6. -/
theorem witness_SaveRunsAndEnds :
    live.hears .S ∧ live.ps.saving = false ∧ saving.hears .S ∧ saving.ps.saving = true := by
  and_intros <;> decide +kernel

/-- O7: the shortest and the longest payload, a known code and an unknown one. -/
theorem witness_WellFormedFrameIsTaken :
    live.hears .B ∧ (live.port .B).receiver = .hunt ∧ ([] : List Byte).length ≤ 240 ∧ (List.replicate 240 (0x7E#8 : Byte)).length ≤ 240
    ∧ requestOfCode 0x50#8 = some .readEvents ∧ requestOfCode 0x15#8 = none := by
  and_intros <;> decide +kernel

/-- O8: a wrong check, the length bytes 1 and 243, and cuts after the first and before the last character. -/
theorem witness_DiscardedFramesLeaveNoTrace :
    live.hears .A ∧ (live.port .A).receiver = .hunt ∧ (0#16 : CheckWord) ≠ checkOf (requestChecked 0x11#8 7#8 [])
    ∧ (1#8 : Byte).toNat < 2 ∧ 242 < (243#8 : Byte).toNat ∧ 1 < (requestFrame 0x11#8 7#8 []).length
    ∧ (requestFrame 0x11#8 7#8 []).length = 6 := by
  and_intros <;> decide +kernel

/-- Port A holding the reply to a READ_EVENTS. -/
def replying : State := after (.readEvents .A 7#8 []) live

/-- O9: any request and any payload, at a port that hears; a port with a reply and one without. -/
theorem witness_OneRequestAtATime :
    live.hears .A ∧ live.hears .B ∧ live.hears .S
    ∧ replying.mode = .operating ∧ (replying.port .A).reply ≠ none ∧ (replying.port .B).reply = none := by
  and_intros <;> decide +kernel

/-- R177: the end of the reply brings the receiver to HUNT. -/
theorem test_reply_done :
    ((after (.replyDone .A) replying).port .A).reply = none ∧ ((after (.replyDone .A) replying).port .A).receiver = .hunt := by
  and_intros <;> decide +kernel

/-- O10: each of the checks 2 to 5 of R178. -/
theorem witness_LinkRefusalsChangeNothing :
    live.hears .A ∧ live.hears .S ∧ Request.lengthFits [] .stop = false
    ∧ (Request.lengthFits [1#8] .stop = true ∧ Request.portMay .S .stop = false)
    ∧ (Request.lengthFits [2#8] .halt = true ∧ Request.portMay .S .halt = true ∧ Request.namesPocket .halt = true
        ∧ 2 ≤ byteAt [2#8] 0)
    ∧ (Request.lengthFits [1#8] .clearFault = true ∧ Request.ownOnly .clearFault = true ∧ ownPocket .A = some .A
        ∧ byteAt [1#8] 0 = pocketCode .B) := by
  and_intros <;> decide +kernel

/-- O11: the shortest and the longest program; an item, and numbers that name none. -/
theorem witness_ReadsAnswerWithTheState :
    live.hears .S ∧ (live.pocket .A).ce.program.length = 0
    ∧ ((live.onCe .A (fun c => { c with program := List.replicate 8 dryEntry })).pocket .A).ce.program.length ≤ 8
    ∧ (itemRow? 0).isSome = true ∧ itemRow? 6 = none ∧ itemRow? 65535 = none := by
  and_intros <;> decide +kernel

/-- O12: a kind that port A's default mask admits, and RESTARTED. -/
theorem witness_ReadEventsEmptiesTheLatch :
    live.hears .A ∧ (EventKind.fault .A).set &&& admitted (live.port .A).mask = (EventKind.fault .A).set
    ∧ EventKind.restarted.set &&& admitted 0#24 = EventKind.restarted.set := by
  and_intros <;> decide +kernel

/-- O13: the largest set that is taken and the smallest that is not; a latch that holds RESTARTED. -/
theorem witness_SetEventMaskFiltersTheLatch :
    live.hears .A ∧ (0x03FFFF#24 : EventSet).toNat < 262144 ∧ 262144 ≤ (0x040000#24 : EventSet).toNat
    ∧ EventKind.restarted.set &&& (live.port .A).latch = EventKind.restarted.set := by
  and_intros <;> decide +kernel

/-- O14: programs of one and of eight entries; the two other kinds stand in the tests above. -/
theorem witness_StartBeginsACycle :
    live.hears .A ∧ (live.pocket .A).ce.state = .idle ∧ (live.pocket .A).lines.doorClosed = true
    ∧ (∀ es ∈ [[coolEntry], List.replicate 8 { dryEntry with temperature := 90, minutes := 240, stageCap := 6, hold := 255 }],
        1 ≤ es.length ∧ es.length ≤ 8 ∧ ∀ e ∈ es, e.temperature < 256 ∧ e.minutes < 256 ∧ e.dryness < 65536 ∧ e.hold < 256
          ∧ e.stageCap < 256 ∧ e.pattern < 256 ∧ e.inRange = true) := by
  and_intros <;> decide +kernel

/-- Pocket A in a cycle state at work. -/
abbrev inA (c : CycleState) : State := inState .A c live

/-- DOOR of pocket A open. -/
abbrev doorOpened (s : State) : State := s.onLines .A (fun l => { l with doorClosed := false })

theorem inA_hears (c : CycleState) (q : Port) : (inA c).hears q := by
  cases c <;> cases q <;> exact ⟨rfl, by decide +kernel⟩

theorem doorOpened_hears (c : CycleState) : (doorOpened (inA c)).hears .A := by
  cases c <;> exact ⟨rfl, by decide +kernel⟩

/-- O15: for each line the cycle state and the payload that meet it; programs in range and out of it, and a kind byte of 4. -/
theorem witness_CycleRequestsAreCheckedInOrder :
    (∀ c, ((inA c).pocket .A).ce.state = c ∧ (inA c).hears .A ∧ (inA c).hears .S ∧ (doorOpened (inA c)).hears .A
      ∧ ((inA c).pocket .A).lines.doorClosed = true ∧ ((doorOpened (inA c)).pocket .A).lines.doorClosed = false)
    ∧ Request.lengthFits ([1#8] ++ encodeEntry dryEntry) .start = true
    ∧ Request.lengthFits ([1#8] ++ encodeEntry { dryEntry with minutes := 0 }) .start = true
    ∧ decodeProgram ([1#8] ++ encodeEntry { dryEntry with minutes := 0 }) = none
    ∧ 2 ≤ (2#8 : Byte).toNat ∧ 240 < (241#8 : Byte).toNat
    ∧ dryEntry.hold ≤ 255 ∧ dryEntry.inRange = true ∧ PhaseEntry.inRange { dryEntry with hold := 0 } = false
    ∧ Request.lengthFits (1#8 :: 4#8 :: List.replicate 7 0#8) .start = true
    ∧ 4 ≤ byteAt (1#8 :: 4#8 :: List.replicate 7 0#8) (1 + 8 * 0) := by
  constructor
  · intro c
    cases c <;> and_intros <;> decide +kernel
  · and_intros <;> decide +kernel

/-- O16: DOOR open already; DOOR closed in RUNNING, in PROVING and in IDLE. -/
theorem witness_DoorOpeningStopsThePocket :
    live.mode = .operating ∧ ((doorOpened live).pocket .A).lines.doorClosed = false ∧ (doorOpened live).mode = .operating
    ∧ (drying.pocket .A).lines.doorClosed = true ∧ (drying.pocket .A).ce.state = .running ∧ drying.mode = .operating
    ∧ ((inA .proving).pocket .A).ce.state = .proving ∧ (live.pocket .A).ce.state = .idle
    ∧ (live.pocket .A).lines.doorClosed = true := by decide +kernel

/-- O17: PAUSE in PROVING and in RUNNING, RESUME in PAUSED. -/
theorem witness_PauseFreezesAndResumeProves :
    (inA .proving).hears .A ∧ ((inA .proving).pocket .A).ce.state = .proving ∧ drying.hears .A
    ∧ (drying.pocket .A).ce.state = .running ∧ (inA .paused).hears .A ∧ ((inA .paused).pocket .A).ce.state = .paused
    ∧ ((inA .paused).pocket .A).lines.doorClosed = true := by
  and_intros <;> decide +kernel

/-- Pocket A RUNNING on the last entry, with no COOL entry after it. -/
def onLastEntry : State := (inA .running).onCe .A (fun c => { c with index := some 3 })

theorem onLastEntry_ahead : ∀ j e, 3 < j → entryAt (onLastEntry.pocket .A).ce.program j = some e → e.kind ≠ .cool := by
  intro j e hj he
  have hl : (onLastEntry.pocket .A).ce.program.length = 3 := by decide +kernel
  unfold entryAt at he
  rw [List.getElem?_eq_none (by omega)] at he
  exact absurd he (by simp)

/-- O18: modes 0 and 1; RUNNING with and without a COOL entry ahead; HALT; a pause timer. -/
theorem witness_StopsBeginTheWindDown :
    (inA .proving).hears .A ∧ ((inA .proving).pocket .A).ce.state = .proving ∧ (0#8 : Byte).toNat ≤ 1 ∧ (1#8 : Byte).toNat ≤ 1
    ∧ (inA .running).hears .A ∧ ((inA .running).pocket .A).ce.state = .running
    ∧ onLastEntry.hears .A ∧ (onLastEntry.pocket .A).ce.index = some 3 ∧ (onLastEntry.pocket .A).ce.state = .running
    ∧ (∀ j e, 3 < j → entryAt (onLastEntry.pocket .A).ce.program j = some e → e.kind ≠ .cool)
    ∧ (inA .paused).hears .S ∧ ((inA .paused).pocket .A).ce.state.stoppable = true
    ∧ (((inA .paused).onCe .A (fun c => { c with pause := some (.door, 0) })).pocket .A).ce.pause = some (.door, 0) := by
  and_intros <;> first | exact onLastEntry_ahead | decide +kernel

/-- O19: from entry 1 to the COOL entry 3, with a HEAT_DRY entry and a TUMBLE entry skipped. -/
theorem witness_StopCoolJumpsToTheCoolPhase :
    drying.hears .A ∧ (drying.pocket .A).ce.state = .running ∧ (drying.pocket .A).ce.index = some 1
    ∧ entryAt (drying.pocket .A).ce.program 3 = some coolEntry ∧ coolEntry.kind = .cool
    ∧ entryAt (drying.pocket .A).ce.program 2 = some tumbleEntry ∧ tumbleEntry.kind ≠ .cool
    ∧ entryAt (drying.pocket .A).ce.program 1 = some dryEntry ∧ dryEntry.kind = .heatDry := by
  and_intros <;> decide +kernel

/-- O20: 1 and 240 minutes. -/
theorem witness_AddTimeRaisesTheCurrentEntry :
    drying.hears .A ∧ (drying.pocket .A).ce.state = .running ∧ (inA .paused).hears .A
    ∧ ((inA .paused).pocket .A).ce.state = .paused ∧ (drying.pocket .A).ce.index = some 1
    ∧ entryAt (drying.pocket .A).ce.program 1 = some dryEntry ∧ 1 ≤ (1#8 : Byte).toNat ∧ (240#8 : Byte).toNat ≤ 240 := by
  and_intros <;> decide +kernel

/-- Pocket A PROVING with the second of closure running. -/
def closing : State :=
  (inA .proving).onCe .A (fun c => { c with closureDue := some 10000, provingDue := some 100000, airflowProven := false })

/-- O21: AIRF open; no closure time; a first proof with the drum STOPPED, DOOR closed and open, in a COAST with purpose STOP and in
RUN; a proof that is not the first. -/
theorem witness_AirflowIsProvenAndStartsTheDrum :
    live.mode = .operating ∧ (live.pocket .A).lines.airfClosed = false ∧ (live.pocket .A).ce.closureDue = none
    ∧ closing.mode = .operating ∧ (closing.pocket .A).ce.closureDue = some 10000 ∧ (closing.pocket .A).ce.state = .proving
    ∧ (closing.pocket .A).ce.provingDue ≠ none ∧ (closing.pocket .A).dmc.state = .stopped
    ∧ (closing.pocket .A).lines.doorClosed = true ∧ ((doorOpened closing).pocket .A).lines.doorClosed = false
    ∧ ((drumIn .A .coast closing).pocket .A).dmc.state = .coast
    ∧ ((drumIn .A .coast closing).pocket .A).dmc.purpose = some .stop
    ∧ ((drumIn .A .run closing).pocket .A).dmc.state = .run
    ∧ ((closing.onCe .A (fun c => { c with provingDue := none })).pocket .A).ce.provingDue = none := by decide +kernel

/-- O22: AIRF open already, and closed. -/
theorem witness_AirflowLossRemovesHeat :
    live.mode = .operating ∧ (live.pocket .A).lines.airfClosed = false ∧ drying.mode = .operating
    ∧ (drying.pocket .A).lines.airfClosed = true := by decide +kernel

/-- O23: no timer, a proving timer and a loss timer. -/
theorem witness_AirflowFailTrips :
    live.mode = .operating ∧ (live.pocket .A).ce.provingDue = none ∧ (live.pocket .A).ce.lossDue = none
    ∧ (closing.pocket .A).ce.provingDue = some 100000
    ∧ ((drying.onCe .A (fun c => { c with lossDue := some 7 })).pocket .A).ce.lossDue = some 7 := by decide +kernel

/-- Pocket A RUNNING on entry `i`, with samples. -/
def onEntry (i : Nat) : State := drying.onCe .A (fun c => { c with index := some i })

/-- Pocket A RUNNING on a COOL entry that has run for `ticks`, with a TUMBLE entry after it. -/
def cooling (ticks : Ticks) : State :=
  drying.onCe .A (fun c => { c with program := [coolEntry, tumbleEntry], index := some 1, phaseTicks := ticks })

/-- O24: the end of a HEAT_DRY, a TUMBLE and a COOL entry, warm and cooled; a dry condition that is met and one that is not; a supply
update at 60 s and one tick before, on a COOL entry with a next one and on the last, with the exhaust at the exit temperature and
above it, at both ends of the sense range. -/
theorem witness_PhasesEndAtTimeDryOrCool :
    (∀ ie ∈ [(1, dryEntry), (2, tumbleEntry), (3, coolEntry)], (onEntry ie.1).mode = .operating
      ∧ ((onEntry ie.1).pocket .A).ce.state = .running ∧ ((onEntry ie.1).pocket .A).ce.index = some ie.1
      ∧ entryAt ((onEntry ie.1).pocket .A).ce.program ie.1 = some ie.2 ∧ ((onEntry ie.1).pocket .A).ce.runSince = some 0
      ∧ ((onEntry ie.1).pocket .A).me.exhaust = some 620)
    ∧ ¬ ((620 : Int) ≤ (coolEntry.temperature : Int) * 10) ∧ (400 : Int) ≤ (coolEntry.temperature : Int) * 10
    ∧ dryEntry.kind = .heatDry ∧ ((onEntry 2).pocket .A).ce.index ≠ some 1
    ∧ (∀ n ∈ [1, 2], (((onEntry 2).onMe .A (fun m => { m with dryNotice := some n })).pocket .A).me.dryNotice = some n)
    ∧ (∀ s ∈ [cooling 597500, cooling 597499, onEntry 3], s.mode = .operating ∧ (s.pocket .A).ce.state = .running
      ∧ (s.pocket .A).ce.runOnSince = none ∧ (s.pocket .A).hsc.energized = 0
      ∧ currentOf quiet .A ≤ s.item .A PocketItem.offCurrentLimit
      ∧ 0 < s.item .A PocketItem.overloadTime ∧ 0 < s.item .A PocketItem.underloadTime)
    ∧ entryAt ((cooling 0).pocket .A).ce.program 1 = some coolEntry ∧ ((cooling 0).pocket .A).ce.program.length = 2
    ∧ ((cooling 597500).reach (cooling 597500).sm.nextUpdate).phaseTicks .A = 600000
    ∧ ((cooling 597499).reach (cooling 597499).sm.nextUpdate).phaseTicks .A = 599999
    ∧ ((onEntry 3).pocket .A).ce.program.length = 3
    ∧ (∀ te ∈ [(-200 : Int), 400, 401, 1500], -200 ≤ exhaustOf { quiet with exhaustA := te } .A
      ∧ exhaustOf { quiet with exhaustA := te } .A ≤ 1500)
    ∧ exhaustOf { quiet with exhaustA := 400 } .A ≤ (coolEntry.temperature : Int) * 10
    ∧ (coolEntry.temperature : Int) * 10 < exhaustOf { quiet with exhaustA := 401 } .A := by
  and_intros <;> decide +kernel

/-- R79: a late dry condition of phase 1 is discarded, and the notice of phase 2 stands. -/
theorem test_late_dry_condition :
    (after (.dryCondition .A 1) ((onEntry 2).onMe .A (fun m => { m with dryNotice := some 2 }))).a.me.dryNotice = some 2 := by
  decide +kernel

/-- A run-on of pocket A in a wind-down that ended for `r`, the drum in `m`. -/
def runOn (c : CycleState) (m : MotionState) : State :=
  drumIn .A m ((inA c).onCe .A (fun e => { e with runOnSince := some 0, windingDown := true, endReason := some .complete }))

theorem runOn_buffers (c : CycleState) (m : MotionState) (n : BufferName) (h : (((runOn c m).pocket .A).sb.buffer n).state = .free) :
    (((runOn c m).pocket .A).sb.buffer n).records = [] := by
  cases n <;> rfl

/-- A run-on of pocket A, the drum STOPPED, with the next update at `t`. -/
def runOnUntil (t : Ticks) : State :=
  let s := runOn .windingDown .stopped
  { s with sm := { s.sm with nextUpdate := t } }

/-- O25: a purge; run-ons in WINDING_DOWN and in FAULTED, the drum STOPPED and still coasting; updates at 30 s and one tick before,
with the exhaust at the purge temperature and above it, and SENSOR_EXHAUST listed; samples just outside the sense range, in
WINDING_DOWN and in FAULTED, with the exhaust check armed and not. -/
theorem witness_PurgeAndRunOnEnd :
    (((inA .paused).onCe .A (fun c => { c with purgeDue := some 300000 })).pocket .A).ce.purgeDue = some 300000
    ∧ ((inA .paused).pocket .A).ce.state = .paused ∧ (inA .paused).mode = .operating
    ∧ (∀ x ∈ [(CycleState.windingDown, MotionState.stopped), (.faulted, .coast)],
        (runOn x.1 x.2).mode = .operating ∧ ((runOn x.1 x.2).pocket .A).ce.runOnSince = some 0
        ∧ ((runOn x.1 x.2).pocket .A).ce.windingDown = true ∧ ((runOn x.1 x.2).pocket .A).ce.endReason ≠ none
        ∧ ((runOn x.1 x.2).pocket .A).ce.state = x.1 ∧ ((runOn x.1 x.2).pocket .A).dmc.state = x.2
        ∧ ¬ (((runOn x.1 x.2).pocket .A).sb.x.state = .filling ∧ ((runOn x.1 x.2).pocket .A).sb.y.state = .filling))
    ∧ (∀ t ∈ [(299999 : Ticks), 300000], ((runOnUntil t).reach (runOnUntil t).sm.nextUpdate).now = t
        ∧ ((runOnUntil t).pocket .A).ce.runOnSince = some 0 ∧ ((runOnUntil t).pocket .A).hsc.energized = 0
        ∧ currentOf quiet .A ≤ (runOnUntil t).item .A PocketItem.offCurrentLimit
        ∧ 0 < (runOnUntil t).item .A PocketItem.overloadTime ∧ 0 < (runOnUntil t).item .A PocketItem.underloadTime
        ∧ ((runOnUntil t).pocket .A).fl.holds .sensorExhaust = false)
    ∧ (runOnUntil 300000).item .A PocketItem.purgeTemperature = 45
    ∧ exhaustOf { quiet with exhaustA := 450 } .A ≤ 45 * 10 ∧ 45 * 10 < exhaustOf { quiet with exhaustA := 451 } .A
    ∧ (((runOnUntil 300000).report .A .sensorExhaust none).pocket .A).fl.holds .sensorExhaust = true
    ∧ (exhaustOf { quiet with exhaustA := -201 } .A < -200 ∧ 1500 < exhaustOf { quiet with exhaustA := 1501 } .A)
    ∧ (∀ c ∈ [CycleState.windingDown, .faulted], ∀ armed,
        (((runOn c .stopped).onHsc .A (fun h => { h with exhaustArmed := armed })).pocket .A).hsc.exhaustArmed = armed) := by
  and_intros <;> decide +kernel

/-- R21: an update at 60 s with the exhaust at -201 leaves the run-on, though -201 is below the purge temperature; 450 ends it. -/
theorem test_run_on_without_a_sample :
    (after (.supplyUpdate { quiet with exhaustA := -201 }) (runOnUntil 600000)).a.ce.runOnSince = some 0
    ∧ (after (.supplyUpdate { quiet with exhaustA := 450 }) (runOnUntil 600000)).a.ce.runOnSince = none := by
  and_intros <;> decide +kernel

/-- O26: DOOR closed already; DOOR open in STOPPED with a pending start and without one. -/
theorem witness_DoorClosingTakesThePendingStart :
    live.mode = .operating ∧ (live.pocket .A).lines.doorClosed = true ∧ ((doorOpened live).pocket .A).lines.doorClosed = false
    ∧ (((doorOpened live).onDmc .A (fun d => { d with pendingStart := true })).pocket .A).dmc.pendingStart = true
    ∧ (live.pocket .A).dmc.state = .stopped ∧ (live.pocket .A).dmc.pendingStart = false := by decide +kernel

/-- Pocket A's drum in ACCEL with the DCLR pulse ending at `t`, REV last off at `off`. -/
def pulsing (m : MotionState) (t off : Ticks) : State :=
  (drumIn .A m live).onDmc .A (fun d => { d with pulseDue := some t, reverseOff := off })

/-- O27: no pulse; a pulse outside ACCEL; the lockout just over and one tick short of it; a lockout wait. -/
theorem witness_RunOutputWaitsForPulseAndLockout :
    live.mode = .operating ∧ (live.pocket .A).dmc.pulseDue = none
    ∧ ((pulsing .stopped 1000 0).pocket .A).dmc.pulseDue = some 1000 ∧ ((pulsing .stopped 1000 0).pocket .A).dmc.state ≠ .accel
    ∧ ((pulsing .accel 21000 1000).pocket .A).dmc.state = .accel
    ∧ ((pulsing .accel 21000 1000).pocket .A).dmc.oppositeOff + 20000 ≤ ((pulsing .accel 21000 1000).reach 21000).now
    ∧ ((pulsing .accel 20999 1000).reach 20999).now < ((pulsing .accel 20999 1000).pocket .A).dmc.oppositeOff + 20000
    ∧ ((live.onDmc .A (fun d => { d with state := .accel, lockoutDue := some 5 })).pocket .A).dmc.lockoutDue = some 5 := by
  decide +kernel

/-- Pocket A's drum in ACCEL with its run output asserted, the pocket in `c`, its phase begun before or not. -/
def rolling (c : CycleState) (begun : Bool) : State :=
  ((drumIn .A .accel (inA c)).onDmc .A (fun d => { d with runOutput := true })).onCe .A (fun e => { e with begun := begun })

/-- O28: a first edge in PROVING, for the first time and after a pause, and outside PROVING, with settle revolutions 0 and above it;
edges in STOPPED, DWELL, ACCEL without output, and COAST with a last period and without. -/
theorem witness_EdgesWithoutAWindow :
    (∀ x ∈ [(CycleState.proving, true), (.proving, false), (.running, true)],
      (rolling x.1 x.2).mode = .operating ∧ ((rolling x.1 x.2).pocket .A).dmc.state = .accel
      ∧ ((rolling x.1 x.2).pocket .A).dmc.runOutput = true ∧ ((rolling x.1 x.2).pocket .A).ce.state = x.1
      ∧ ((rolling x.1 x.2).pocket .A).ce.begun = x.2 ∧ ((rolling x.1 x.2).pocket .A).ce.entry ≠ none)
    ∧ live.item .A PocketItem.settleRevolutions ≠ 0
    ∧ (live.writeItem (itemNumber .A PocketItem.settleRevolutions) 0).item .A PocketItem.settleRevolutions = 0
    ∧ (∀ m ∈ [MotionState.stopped, .dwell, .coast, .accel], ((drumIn .A m live).pocket .A).dmc.state = m
      ∧ ((drumIn .A m live).pocket .A).dmc.runOutput = false ∧ ((drumIn .A m live).pocket .A).dmc.lastPeriod = none)
    ∧ (((drumIn .A .coast live).onDmc .A (fun d => { d with lastPeriod := some 8000 })).pocket .A).dmc.lastPeriod = some 8000 := by
  decide +kernel

/-- Pocket A drying with its drum in RUN in direction `dir` and a last period of 0.80 s. -/
def turning (dir : Direction) : State :=
  drying.onDmc .A (fun d => { d with direction := dir, lastPeriod := some 8000 })

/-- O29: the timers and DRVF, with attempts left (count 1 of 2) and without (2 of 2); DRVF where it is not examined; segments with a
last period and without, in either direction; a drum in RUN beside a cycle engine that is IDLE, and beside one that is RUNNING. -/
theorem witness_StallsAndDriveFaultsRetryOrTrip :
    live.mode = .operating
    ∧ (((drumIn .A .accel live).onDmc .A (fun d => { d with accelDue := some 80000 })).pocket .A).dmc.accelDue = some 80000
    ∧ ((drumIn .A .accel live).pocket .A).dmc.state = .accel ∧ ((drumIn .A .accel live).pocket .A).dmc.pulseDue = none
    ∧ (drying.pocket .A).dmc.state = .run ∧ (drying.pocket .A).dmc.stallDue = some 25000
    ∧ ((pulsing .accel 1000 0).pocket .A).dmc.pulseDue = some 1000 ∧ ((pulsing .accel 1000 0).pocket .A).dmc.state = .accel
    ∧ live.item .A PocketItem.restartAttempts = 2
    ∧ ((drying.onDmc .A (fun d => { d with restartCount := 1 })).pocket .A).dmc.restartCount = 1
    ∧ ((drying.onDmc .A (fun d => { d with restartCount := 2 })).pocket .A).dmc.restartCount = 2
    ∧ (live.pocket .A).dmc.state = .stopped ∧ (drying.pocket .A).dmc.lastPeriod = none
    ∧ (drying.pocket .A).ce.state.stoppable = true ∧ ((drumIn .A .run live).pocket .A).ce.state.stoppable = false
    ∧ ((drumIn .A .run live).pocket .A).dmc.stallDue = some 25000
    ∧ (∀ dir ∈ [Direction.forward, .reverse], ((turning dir).pocket .A).dmc.lastPeriod = some 8000 ∧ ((turning dir).pocket .A).dmc.direction = dir
      ∧ ((turning dir).pocket .A).dmc.runOutput = true ∧ ((turning dir).pocket .A).dmc.stallDue = some 25000) := by
  decide +kernel

/-- R31, R35: a stall records the moment in the off time of the output that it deasserts, and in that one alone. -/
theorem test_off_time :
    [Direction.forward, .reverse].map (fun dir =>
        let d := (after (.stallTimeout .A) (turning dir)).a.dmc
        (d.forwardOff, d.reverseOff, d.runOutput, d.quietDue))
      = [(25000, live.a.dmc.reverseOff, false, some 37000), (live.a.dmc.forwardOff, 25000, false, some 37000)] := by
  decide +kernel

/-- Pocket A RUNNING on the entry of pattern 1, latched without a reverse run. -/
def oneWay (s : Speed) : State :=
  (onEntry 2).onDmc .A (fun d => { d with latched := { forwardRun := 300, reverseRun := 0, speed := s, response := false } })

/-- O30: a run that alternates, one that is renewed (pattern 1, at HIGH), and one whose speed has changed. -/
theorem witness_FullRunAlternatesOrRenews :
    (∀ s ∈ [drying, oneWay .low, oneWay .high], s.mode = .operating ∧ (s.pocket .A).dmc.state = .run
      ∧ (s.pocket .A).dmc.segmentSince = some 0)
    ∧ (drying.pocket .A).dmc.latched.reverseRun ≠ 0
    ∧ (∀ v ∈ [Speed.low, .high], ((oneWay v).pocket .A).dmc.latched.reverseRun = 0 ∧ ((oneWay v).pocket .A).dmc.latched.speed = v
        ∧ (oneWay v).item .A (PocketItem.reverseRun ((oneWay v).pattern .A)) = 0
        ∧ (oneWay v).item .A (PocketItem.speed ((oneWay v).pattern .A)) = 1) := by decide +kernel

/-- A COAST of pocket A that ends at 10,000, in cycle state `c`. -/
def coasting (u : CoastPurpose) (pending : Bool) (s : State) : State :=
  (drumIn .A .coast s).onDmc .A (fun d =>
    { d with purpose := some u, quietDue := some 10000, coastDue := some 60000, pendingStart := pending })

/-- A DWELL of pocket A on entry `i` that ends at 40,000. -/
def dwelling (u : CoastPurpose) (dir : Direction) (i : Nat) : State :=
  (drumIn .A .dwell (onEntry i)).onDmc .A (fun d => { d with purpose := some u, direction := dir, dwellDue := some 40000 })

/-- A wind-down of pocket A whose run-on has ended, the drum coasting. -/
def lastCoast : State := (coasting .stop false (runOn .windingDown .coast)).onCe .A (fun c => { c with runOnSince := none })

/-- O31: coasts with each purpose, with a pending start, in a wind-down before and after its run-on; dwells after each purpose, with
a pattern that has a reverse run and one that has none. -/
theorem witness_CoastAndDwellEnd :
    (∀ s ∈ [coasting .retry false drying, coasting .alternate false drying, coasting .stop true live, coasting .stop false live,
        coasting .stop false (runOn .windingDown .coast), lastCoast],
      s.mode = .operating ∧ (s.pocket .A).dmc.state = .coast ∧ (s.pocket .A).dmc.quietDue = some 10000
      ∧ (s.pocket .A).dmc.coastDue = some 60000)
    ∧ ((coasting .stop true live).pocket .A).dmc.pendingStart = true ∧ (live.pocket .A).lines.doorClosed = true
    ∧ (live.pocket .A).ce.windingDown = false ∧ ((runOn .windingDown .coast).pocket .A).ce.runOnSince ≠ none
    ∧ (lastCoast.pocket .A).ce.windingDown = true ∧ (lastCoast.pocket .A).ce.runOnSince = none
    ∧ (lastCoast.pocket .A).ce.endReason ≠ none
    ∧ (∀ s ∈ [dwelling .retry .reverse 1, dwelling .alternate .forward 1, dwelling .alternate .reverse 1, dwelling .retry .reverse 2],
        s.mode = .operating ∧ (s.pocket .A).dmc.state = .dwell ∧ (s.pocket .A).dmc.dwellDue = some 40000
        ∧ (s.pocket .A).lines.doorClosed = true)
    ∧ (dwelling .retry .reverse 1).item .A (PocketItem.reverseRun ((dwelling .retry .reverse 1).pattern .A)) = 120
    ∧ (dwelling .retry .reverse 2).item .A (PocketItem.reverseRun ((dwelling .retry .reverse 2).pattern .A)) = 0 := by
  decide +kernel

/-- O32: an early reversal in RUN at the counts 1 and 2, and one outside RUN; the minimum run with the flag set and clear. -/
theorem witness_EarlyReversalsAreCalledAndTaken :
    live.mode = .operating ∧ (live.pocket .A).dmc.state ≠ .run
    ∧ (drying.pocket .A).dmc.state = .run ∧ (drying.pocket .A).dmc.latched.response = true
    ∧ 0 < (drying.pocket .A).dmc.latched.reverseRun
    ∧ ((drying.onDmc .A (fun d => { d with reversalCount := 2 })).pocket .A).dmc.reversalCount = 2
    ∧ (drying.pocket .A).dmc.reversalCount ≠ 2
    ∧ ((drying.onDmc .A (fun d => { d with minimumRunDue := some 200000 })).pocket .A).dmc.minimumRunDue = some 200000
    ∧ (drying.pocket .A).dmc.segmentSince = some 0 ∧ 200000 = 0 + seconds (drying.item .A PocketItem.minimumRun)
    ∧ ((drying.onTm .A (fun m => { m with flag := true })).pocket .A).tm.flag = true ∧ (drying.pocket .A).tm.flag = false
    ∧ (drying.pocket .A).ce.state = .running := by decide +kernel

/-- O33: without a window, a falling edge in mode RISING, and a rising edge. -/
theorem witness_TachEdgesAreCounted :
    live.mode = .operating ∧ (live.pocket .A).rcu.window = none ∧ live.item .A PocketItem.tachEdgeMode ≠ 1
    ∧ drying.mode = .operating
    ∧ (drying.pocket .A).rcu.window = some { openedAt := 0, tachEdges := 0, contacts := 0, contactTicks := 0 } := by decide +kernel

/-- A pulse of pocket A's contact that spans the IDX edge at 11,000: it began at `since`, accepted or not; WET is still high at 11,005. -/
def spanning (since : Ticks) (accepted : Bool) : State :=
  { drying with now := 11005 }.onLines .A (fun l => { l with wet := true }) |>.onRcu .A (fun r =>
    { r with window := some { openedAt := 11000, tachEdges := 0, contacts := 0, contactTicks := 0 },
             pulse := some { since := since, accepted := accepted } })

/-- R55: of a pulse that spans an edge the new window takes the ticks from the edge on: counted before, it is not counted again;
qualifying at the fall, measured from its true beginning, it is; a tick short of the width it gives nothing. -/
theorem test_pulse_over_an_edge :
    ([(10900, true), (10996, false), (10997, false)].map (fun x =>
      ((after (.wetFall .A 1) (spanning x.1 x.2)).a.rcu.window.map (fun w => (w.contacts, w.contactTicks)))))
      = [some (0, 6), some (1, 6), some (0, 0)] := by
  decide +kernel

/-- O34: a pulse of the width (10 ticks) and one of 9 in a window; no window; a pulse before and after it has qualified; WET high with a
pulse that spans an edge, accepted, at the width at the fall and a tick short of it, and with none. -/
theorem witness_ContactFilterCountsWidePulses :
    drying.mode = .operating ∧ (drying.pocket .A).lines.wet = false
    ∧ (drying.pocket .A).rcu.window = some { openedAt := 0, tachEdges := 0, contacts := 0, contactTicks := 0 }
    ∧ drying.item .A PocketItem.minimumContact ≤ 10 ∧ 9 < drying.item .A PocketItem.minimumContact
    ∧ (live.pocket .A).rcu.window = none ∧ (live.pocket .A).rcu.pulse = none
    ∧ (∀ accepted, ((drying.onRcu .A (fun r => { r with pulse := some { since := 5, accepted := accepted } })).pocket .A).rcu.pulse
        = some { since := 5, accepted := accepted })
    ∧ (∀ x ∈ [(10900, true), (10996, false), (10997, false)],
        ((spanning x.1 x.2).pocket .A).lines.wet = true ∧ ((spanning x.1 x.2).pocket .A).rcu.pulse = some { since := x.1, accepted := x.2 }
        ∧ ((spanning x.1 x.2).pocket .A).rcu.window ≠ none)
    ∧ 10996 + (spanning 0 false).item .A PocketItem.minimumContact = ((spanning 0 false).elapse 1).now
    ∧ (((spanning 0 false).onRcu .A (fun r => { r with pulse := none })).pocket .A).rcu.pulse = none
    ∧ (((spanning 0 false).onRcu .A (fun r => { r with window := none })).pocket .A).rcu.window = none := by
  and_intros <;> decide +kernel

/-- Pocket A in RUN at the third record of its segment, 12,000 ticks after the window opened, with pulse `v`, a slip run of `n` and
`tach` edges. -/
def recording (v : Option Pulse) (n tach : Nat) : State :=
  { drying with now := 12000 }.onRcu .A (fun r =>
    { r with window := some { openedAt := 0, tachEdges := tach, contacts := 2, contactTicks := 50 }, pulse := v, slipRun := n })

/-- `s` with `n` records in pocket A's FILLING buffer X and its buffer Y in state `y`. -/
def filled (n : Nat) (y : BufferState) (s : State) : State :=
  s.onSb .A (fun b => { b with
    x := { state := .filling, records := List.replicate n dryRecord },
    y := { state := y, records := if y = .ready then [dryRecord] else [] } })

/-- R185: the edge that completes the 12th record makes X READY, idles the flush timer and posts SAMPLES_READY; the 11th loads the timer
with 5 s. -/
theorem test_twelfth_record :
    (after (.idxEdge .A 0) (filled 11 .ready (recording none 0 1200))).a.sb.flushDue = none
    ∧ (after (.idxEdge .A 0) (filled 11 .free (recording none 0 1200))).a.sb.y.state = .filling
    ∧ (after (.idxEdge .A 0) (filled 11 .free (recording none 0 1200))).portA.latch &&& (EventKind.samplesReady .A).set
      = (EventKind.samplesReady .A).set
    ∧ (after (.idxEdge .A 0) (filled 10 .free (recording none 0 1200))).a.sb.flushDue = some 62000 := by
  and_intros <;> decide +kernel

/-- O35: a VALID record; no pulse, one that has qualified, one at the width of 10 ticks and one a tick short of it; a slip at the
limit of 80 per mille and above it, in the fifth run and before; a settling record; a FILLING buffer that takes its
11th and its 12th record beside a FREE and a READY one, and none; a cycle engine that a trip stops and one that is IDLE. -/
theorem witness_RecordsAreCompletedAndHandedOn :
    (recording none 0 1200).mode = .operating ∧ ((recording none 0 1200).pocket .A).dmc.state = .run
    ∧ ((recording none 0 1200).pocket .A).rcu.window
      = some { openedAt := 0, tachEdges := 1200, contacts := 2, contactTicks := 50 }
    ∧ (∀ v ∈ [none, some { since := 11000, accepted := true }, some { since := 11990, accepted := false },
        some { since := 11991, accepted := false }], ((recording v 0 1200).pocket .A).rcu.pulse = v)
    ∧ 11990 + (recording none 0 1200).item .A PocketItem.minimumContact = 12000
    ∧ (recording none 0 1200).item .A PocketItem.settleRevolutions < min 255 (((recording none 0 1200).pocket .A).rcu.segmentRecords + 1)
    ∧ (recording none 0 1200).item .A PocketItem.plausibleMinimum * 1000 ≤ 12000
    ∧ 12000 ≤ (recording none 0 1200).item .A PocketItem.plausibleMaximum * 1000
    ∧ (recording none 0 1200).item .A PocketItem.slipLimit * 10 = 80
    ∧ (1200 - 1103) * 1000 / (recording none 0 1200).item .A PocketItem.nominalTach = 80
    ∧ (1200 - 1102) * 1000 / (recording none 0 1200).item .A PocketItem.nominalTach = 81
    ∧ ((recording none 4 1102).pocket .A).rcu.slipRun + 1 = 5 ∧ ((recording none 3 1102).pocket .A).rcu.slipRun + 1 < 5
    ∧ ((recording none 0 1200).pocket .A).sb.filling = some .x ∧ ((recording none 0 1200).pocket .A).ce.state.stoppable = true
    ∧ (∀ n ∈ [10, 11], ∀ y ∈ [BufferState.free, .ready],
        ((filled n y (recording none 0 1200)).pocket .A).sb.filling = some .x
        ∧ (((filled n y (recording none 0 1200)).pocket .A).sb.buffer .x).records.length = n
        ∧ (((filled n y (recording none 0 1200)).pocket .A).sb.buffer .y).state = y)
    ∧ (((recording none 4 1102).onCe .A (fun c => { c with state := .idle })).pocket .A).ce.state.stoppable = false
    ∧ (((recording none 0 1200).onSb .A (fun b => { b with x := { state := .ready, records := [dryRecord] } })).pocket .A).sb.filling
      = none := by
  and_intros <;> decide +kernel

/-- R62, R63: the fifth slipping record trips BELT_SLIP; the fourth does not. -/
theorem test_belt_slip :
    ((after (.idxEdge .A 0) (recording none 4 1102)).a.fl.records.map (·.kind) = [.beltSlip])
    ∧ (after (.idxEdge .A 0) (recording none 4 1102)).a.ce.state = .faulted
    ∧ (after (.idxEdge .A 0) (recording none 3 1102)).a.rcu.slipRun = 4
    ∧ (after (.idxEdge .A 0) (recording none 3 1103)).a.rcu.slipRun = 0 := by
  and_intros <;> decide +kernel

/-- O36: the last settling record, and records just outside the plausible periods of 6,000 and 40,000 ticks; a FILLING buffer,
one that takes its 12th record, and none. -/
theorem witness_RecordsThatAreNoEvidence :
    drying.mode = .operating ∧ (drying.pocket .A).dmc.state = .run
    ∧ (drying.pocket .A).rcu.window = some { openedAt := 0, tachEdges := 0, contacts := 0, contactTicks := 0 }
    ∧ min 255 (((drying.onRcu .A (fun r => { r with segmentRecords := 1 })).pocket .A).rcu.segmentRecords + 1)
        ≤ drying.item .A PocketItem.settleRevolutions
    ∧ max 1 (min (drying.now + 5999 - 0) 16777215) < drying.item .A PocketItem.plausibleMinimum * 1000
    ∧ drying.item .A PocketItem.plausibleMaximum * 1000 < max 1 (min (drying.now + 40001 - 0) 16777215)
    ∧ (drying.pocket .A).sb.filling = some .x ∧ ((filled 11 .free drying).pocket .A).sb.filling = some .x
    ∧ (((filled 11 .free drying).pocket .A).sb.buffer .x).records.length = 11
    ∧ ((drying.onSb .A (fun b => { b with x := { state := .ready, records := [dryRecord] } })).pocket .A).sb.filling = none := by
  decide +kernel

/-- O37, O39, O40: a record in a HEAT_DRY entry and in a COOL entry, before the seeding and after it, of a period of 1 tick and of the
largest. -/
theorem witness_EstimatorTakesTheWetFraction :
    drying.entry .A = some dryEntry ∧ (onEntry 3).entry .A = some coolEntry ∧ (drying.pocket .A).me.s16 = none
    ∧ ((drying.onMe .A (fun m => { m with s16 := some 12804 })).pocket .A).me.s16 = some 12804
    ∧ 1 ≤ 1 ∧ 16777215 ≤ 16777215 := by
  and_intros <;> decide +kernel

/-- O38: at and beyond the dead band, in both directions. -/
theorem witness_FilterMovesTowardTheWetFraction :
    1 ≤ 3 ∧ 12804 ≤ 65536 ∧ 634 ≤ 4096 ∧ 634 * 16 ≤ 12804 ∧ 10144 ≤ 634 * 16 ∧ 634 * 16 - 10137 < 2 ^ 3
    ∧ ¬ 634 * 16 - 10136 < 2 ^ 3 := by decide

/-- O39: spans of 49 and 50 (70 °C against 65.1 and 65.0 °C), and an exhaust below, at and above the inlet. -/
theorem witness_DrynessIndexIsTheWeightedMean :
    drying.entry .A = some dryEntry ∧ (onEntry 2).entry .A = some tumbleEntry
    ∧ (dryEntry.temperature : Int) * 10 - 651 < 50 ∧ 50 ≤ (dryEntry.temperature : Int) * 10 - 650
    ∧ (640 : Int) ≤ 650 ∧ (650 : Int) ≤ 660
    ∧ 1 ≤ drying.item .A PocketItem.moistureWeight + drying.item .A PocketItem.temperatureWeight := by decide +kernel

/-- O40: RUNNING in HEAT_DRY with the flag clear, and with it set. -/
theorem witness_DryHoldCountsInHeatDry :
    drying.entry .A = some dryEntry ∧ (drying.pocket .A).ce.state = .running ∧ dryEntry.kind = .heatDry
    ∧ (drying.pocket .A).tm.flag = false ∧ ((drying.onTm .A (fun m => { m with flag := true })).pocket .A).tm.flag = true := by
  decide +kernel

/-- Pocket A in RUN since 0 at `now`, with the tangle score at 10. -/
def tangled (now : Ticks) : State := { drying with now := now }.onTm .A (fun m => { m with score := 10, reference := some 10000 })

/-- R93: an uneven and lumpy record that raises the flag requests the early reversal once the segment has lasted the minimum run of 20 s,
and not a tick before. -/
theorem test_reversal_requested :
    [199999, 200000].map (fun n => (((tangled n).takeTangle .A 20000 1 5000).pocket .A).tm.reversalNotice) = [false, true]
    ∧ [199999, 200000].map (fun n => (((tangled n).takeTangle .A 20000 1 5000).pocket .A).tm.flag) = [true, true] := by
  and_intros <;> decide +kernel

/-- O41: deviations of 59 and 60 per mille, contacts of 24.9 and 25.0 ms, no reference and no contact; a segment at the minimum run and a
tick short of it, and a notice that stands. -/
theorem witness_TangleScoreFollowsTheEvidence :
    let s := drying.onTm .A (fun m => { m with reference := some 10000 })
    (s.pocket .A).tm.reference = some 10000 ∧ s.item .A PocketItem.deviationThreshold = 60 ∧ s.item .A PocketItem.lumpLength = 250
    ∧ ((10599 : Int) - (10000 : Nat)).natAbs * 1000 / 10000 = 59 ∧ ((10600 : Int) - (10000 : Nat)).natAbs * 1000 / 10000 = 60
    ∧ 4999 / 2 < 250 * 10 ∧ 250 * 10 ≤ 5000 / 2 ∧ (drying.pocket .A).tm.reference = none
    ∧ ((tangled 0).pocket .A).ce.state = .running ∧ ((tangled 0).pocket .A).dmc.state = .run
    ∧ ((tangled 0).pocket .A).dmc.latched.response = true ∧ 0 < ((tangled 0).pocket .A).dmc.latched.reverseRun
    ∧ ((tangled 0).pocket .A).dmc.segmentSince = some 0 ∧ 0 + seconds ((tangled 0).item .A PocketItem.minimumRun) = 200000
    ∧ ((drying.onTm .A (fun m => { m with reversalNotice := true })).pocket .A).tm.reversalNotice = true := by
  and_intros <;> decide +kernel

/-- Pocket A heating with two stages granted, L = 2, E = 1. -/
def heated : State :=
  granting [(.A, 1), (.A, 2)] [] { drying.onHsc .A (fun h => { h with level := 2, energized := 1, lastRise := some 0 }) with
    sa := { drying.sa with forced := some 0 } }

/-- O42: HLIM closed, and open, with E at its target and below it, with the stage interval since its last rise passed and not. -/
theorem witness_HighLimitCutsHeatAndTrips :
    live.mode = .operating ∧ (live.pocket .A).lines.hlimClosed = true
    ∧ (∀ s ∈ [live, heated, { heated with now := 500000 }], s.mode = .operating
      ∧ ((s.onLines .A (fun l => { l with hlimClosed := false })).pocket .A).lines.hlimClosed = false)
    ∧ (heated.pocket .A).hsc.energized < heated.heatTarget .A ∧ (heated.pocket .A).hsc.lastRise = some 0
    ∧ heated.now < 0 + heated.stageTicks .A ∧ 0 + heated.stageTicks .A ≤ 500000
    ∧ (live.pocket .A).hsc.energized = live.heatTarget .A := by
  and_intros <;> decide +kernel

/-- Pocket A with three stages granted and L = 2, its release hold running, a stage kept as asked for or none. -/
def holding (fresh : Bool) (asked : Option Nat) : State :=
  granting [(.A, 1), (.A, 2), (.A, 3)] []
    (heated.onHsc .A (fun h => { h with holdSince := some 0, freshGrant := fresh, askedStage := asked }))

/-- O43: E below its target, with a last rise and without, and at it; a recovery; a release hold with a fresh grant and without, with
no entry and with three, with no stage kept as asked for, with the top one and with one that has gone. -/
theorem witness_HeatStageTimersAct :
    heated.mode = .operating ∧ (heated.pocket .A).hsc.energized < heated.heatTarget .A
    ∧ (heated.pocket .A).hsc.lastRise = some 0 ∧ live.heatTarget .A ≤ (live.pocket .A).hsc.energized
    ∧ ((heated.onHsc .A (fun h => { h with lastRise := none })).pocket .A).hsc.lastRise = none
    ∧ ((heated.onHsc .A (fun h => { h with recoveryDue := some 50000 })).pocket .A).hsc.recoveryDue = some 50000
    ∧ (∀ f, ∀ k ∈ [none, some 3, some 4], (holding f k).mode = .operating ∧ ((holding f k).pocket .A).hsc.holdSince = some 0
      ∧ ((holding f k).pocket .A).hsc.freshGrant = f ∧ (holding f k).granted .A = 3
      ∧ ((holding f k).pocket .A).hsc.askedStage = k)
    ∧ (granting [] [] (holding false none)).granted .A = 0 := by
  and_intros <;> decide +kernel

/-- R106, R137: the release takes the top stage; the two below it stand. -/
theorem test_release :
    ((after (.releaseHoldExpired .A) (holding false none)).sa.grants.map (fun g => (g.pocket, g.stage))) = [(.A, 1), (.A, 2)] := by
  decide +kernel

/-- R106, R137: a hold that has run out keeps its request over a shed that takes the top stage first; the request removes nothing and
the hold begins again. -/
theorem test_release_after_a_loss :
    (let s := { (holding false none).onHsc .A (fun h => { h with level := 1 }) with now := 7000000 }
     let t := (s.withLists (withoutNewest s.sa.grants .A) []).tellGranted .A 3
     t.a.hsc.askedStage = some 3 ∧ (after (.releaseHoldExpired .A) t).sa.grants = t.sa.grants
      ∧ (after (.releaseHoldExpired .A) t).a.hsc.holdSince = some 7000000) := by
  and_intros <;> decide +kernel

/-- Pocket A with one stage of 3,000 W energized since long ago, its timers at `n` ms, `count` overcurrents so far and the next update
at 2 s. -/
def supervised (n count : Nat) : State :=
  { heated with sm := { heated.sm with nextUpdate := 20000 } }.onHsc .A (fun h =>
    { h with overTimer := n, underTimer := 79 * n, overCount := count, underArmed := true, exhaustArmed := true, inletArmed := true })

/-- The readings of an update with `i` hundredths of an ampere in pocket A. -/
def drawing (i : Nat) : Readings := { quiet with currentA := i }

/-- O44: one stage energized, whose expected current is 433; currents at the two limits of 519 and 346 and beyond them; the timers a
step short of their times, and two; the counts 1 and 2; a suspended update; samples at the ends of the sense range and beyond, at an
update with every check made and none taken. -/
theorem witness_HeaterChecksCutAndReport :
    (∀ n ∈ [500, 750], ∀ count ∈ [1, 2],
      (supervised n count).mode = .operating ∧ (supervised n count).heating .A = true
      ∧ (supervised n count).sm.condition = .normal ∧ ((supervised n count).pocket .A).hsc.overCount = count
      ∧ ((supervised n count).pocket .A).hsc.lastChange + 10000
          ≤ ((supervised n count).reach (supervised n count).sm.nextUpdate).now
      ∧ ((supervised n count).pocket .A).hsc.energized = 1 ∧ ((supervised n count).pocket .A).hsc.underArmed = true)
    ∧ (supervised 750 1).item .A PocketItem.overloadTime = 1000
    ∧ (supervised 750 1).item .A PocketItem.overloadTime ≤ ((supervised 750 1).pocket .A).hsc.overTimer + 250
    ∧ ((supervised 500 1).pocket .A).hsc.overTimer + 250 < (supervised 500 1).item .A PocketItem.overloadTime
    ∧ 0 < (supervised 750 1).item .A PocketItem.underloadTime
    ∧ ((List.range 1).map (fun k => (supervised 750 1).rating .A (k + 1))).sum * 1000000
        / ((drawing 0).voltage * (supervised 750 1).shared SharedItem.phaseFactor) = 433
    ∧ 433 * (100 + (supervised 750 1).item .A PocketItem.currentTolerance) / 100 = 519
    ∧ 433 * (100 - (supervised 750 1).item .A PocketItem.currentTolerance) / 100 = 346
    ∧ 519 < currentOf (drawing 520) .A ∧ ¬ 519 < currentOf (drawing 519) .A
    ∧ currentOf (drawing 345) .A < 346 ∧ ¬ currentOf (drawing 346) .A < 346
    ∧ ({ drawing 520 with voltage := 0 }).voltage = 0 ∧ (drawing 520).voltage ≠ 0 ∧ (drawing 520).voltage < 6000
    ∧ (∀ te ∈ [(-200 : Int), 1500], -200 ≤ exhaustOf { quiet with exhaustA := te } .A ∧ exhaustOf { quiet with exhaustA := te } .A ≤ 1500
      ∧ -200 ≤ inletOf { quiet with inletA := te } .A ∧ inletOf { quiet with inletA := te } .A ≤ 1500)
    ∧ (∀ te ∈ [(-201 : Int), 1501], ¬ (-200 ≤ exhaustOf { quiet with exhaustA := te } .A
        ∧ exhaustOf { quiet with exhaustA := te } .A ≤ 1500)
      ∧ ¬ (-200 ≤ inletOf { quiet with inletA := te } .A ∧ inletOf { quiet with inletA := te } .A ≤ 1500))
    ∧ ((supervised 750 1).pocket .A).hsc.exhaustArmed = true ∧ ((supervised 750 1).pocket .A).hsc.inletArmed = true
    ∧ (supervised 750 1).item .A PocketItem.underloadTime * 1000 = 20000
    ∧ (((supervised 750 1).onHsc .A (fun h => { h with underTimer := 19750 })).pocket .A).hsc.underTimer + 250 = 20000
    ∧ ((supervised 0 1).heating .A = true ∧ (0 : Nat) + 250 < (supervised 0 1).item .A PocketItem.overloadTime
      ∧ ((supervised 0 1).pocket .A).hsc.stuckTimer + 250 < (supervised 0 1).item .A PocketItem.overloadTime
      ∧ ((supervised 0 1).pocket .A).hsc.overTimer = 0
      ∧ ((supervised 0 1).pocket .A).hsc.underTimer + 250 < (supervised 0 1).item .A PocketItem.underloadTime * 1000)
    ∧ (({ drawing 433 with exhaustA := 1501 }).voltage ≠ 0 ∧ currentOf { drawing 433 with exhaustA := 1501 } .A = 433
      ∧ ¬ exhaustOf { drawing 433 with exhaustA := 1501 } .A ≤ 1500) := by
  and_intros <;> decide +kernel

/-- R116: a heating update at the expected current with the exhaust out of range reports SENSOR_EXHAUST. -/
theorem test_sensor_while_heating :
    (after (.supplyUpdate { drawing 433 with exhaustA := 1501 }) (supervised 0 1)).a.fl.records.map (·.kind) = [.sensorExhaust] := by
  decide +kernel

/-- R111, R112: the second overcurrent begins a recovery of 5 s, the third trips with E as its detail. -/
theorem test_overcurrent :
    (after (.supplyUpdate (drawing 520)) (supervised 750 1)).a.hsc.recoveryDue = some 70000
    ∧ (after (.supplyUpdate (drawing 520)) (supervised 750 1)).a.ce.state = .running
    ∧ (after (.supplyUpdate (drawing 520)) (supervised 750 2)).a.fl.records.map (fun r => (r.kind, r.detail))
      = [(.heaterOvercurrent, some 1)] := by
  and_intros <;> decide +kernel

/-- O45: both bases, with a reading and before the first update; an evaluation that sheds, one that grants, one that reclaims, and one
that leaves a request unserved. -/
theorem witness_EvaluationShedsAndServes :
    (shared 2 [] []).shared SharedItem.basis ≠ 1 ∧ (live.writeItem SharedItem.basis 1).shared SharedItem.basis = 1
    ∧ (live.pocket .A).meter.reading = none
    ∧ ((shared 2 [(.A, 1), (.A, 2), (.A, 3), (.A, 4), (.B, 1), (.B, 2)] []).ceiling
        < (shared 2 [(.A, 1), (.A, 2), (.A, 3), (.A, 4), (.B, 1), (.B, 2)] []).committed)
    ∧ (shared 2 [(.A, 1)] [{ pocket := .B, stage := 1, posted := 0 }]).evaluate.granted .B = 1
    ∧ (shared 2 [(.A, 1), (.A, 2), (.A, 3), (.B, 1), (.B, 2)] [{ pocket := .A, stage := 4, posted := 0 }]).evaluate.granted .B = 1
    ∧ (let s := shared 2 [(.A, 1), (.A, 2), (.A, 3), (.A, 4), (.B, 1)] [{ pocket := .B, stage := 2, posted := 0 }]
       s.evaluate.nextServed s.evaluate.sa.requests = some { pocket := .B, stage := 2, posted := 0 }) := by
  and_intros <;> decide +kernel

/-- A shed hold of pocket A with 90 s to run. -/
def underShed : State := live.setShed .A (some 900000)

/-- Pocket B waiting for its second stage while pocket A holds four at level 2, A under a shed hold or not. -/
def waiting (hold : Option Ticks) : State :=
  (shared 2 [(.A, 1), (.A, 2), (.A, 3), (.A, 4), (.B, 1)] [{ pocket := .B, stage := 2, posted := 0 }]).setShed .A hold

/-- R141, R131: SHED of pocket A serves the request of pocket B that waited. -/
theorem test_shed_serves :
    ((after (.shed .S 1#8 [0#8, 1#8]) (waiting none)).sa.grants.map (fun g => (g.pocket, g.stage))) = [(.B, 1), (.B, 2)]
    ∧ (after (.shed .S 1#8 [0#8, 1#8]) (waiting none)).sa.requests = [] := by
  and_intros <;> decide +kernel

/-- R139, R131: HALT of pocket A serves the request of pocket B that waited; so does a level with a higher ceiling. -/
theorem test_halt_and_level_serve :
    ((after (.halt .S 1#8 [0#8]) (waiting none)).sa.grants.map (fun g => (g.pocket, g.stage))) = [(.B, 1), (.B, 2)]
    ∧ (after (.setLevel .S 1#8 [0#8]) (waiting none)).granted .B = 2 ∧ (after (.setLevel .S 1#8 [0#8]) (waiting none)).granted .A = 4 := by
  and_intros <;> decide +kernel

/-- O46: 0, 1, 240 and 241 minutes; a pocket with entries; a hold and none; a request of the other pocket that waits. -/
theorem witness_ShedHoldsAndRestores :
    live.hears .S ∧ 240 < (241#8 : Byte).toNat ∧ 1 ≤ (1#8 : Byte).toNat ∧ (240#8 : Byte).toNat ≤ 240
    ∧ heated.hears .S ∧ 0 < heated.granted .A ∧ (live.pocket .A).shedDue = none
    ∧ (waiting none).evaluate.granted .B = 1 ∧ (waiting (some 900000)).hears .S
    ∧ ((waiting (some 900000)).pocket .A).shedDue = some 900000 ∧ (waiting (some 900000)).requestOf .B ≠ none
    ∧ underShed.hears .S ∧ underShed.mode = .operating ∧ (underShed.pocket .A).shedDue = some 900000 := by
  and_intros <;> decide +kernel

/-- A stability timer that runs out at 5,000. -/
def settling : State := live.startStability

/-- A level forced to `n` beside the debounced level 3. -/
def forcedTo (n : Nat) : State := { live with sa := { live.sa with forced := some n, debounced := some 3 } }

/-- R122: forcing the level in force, and a return to the lines that keeps it, post nothing; another level posts LEVEL_CHANGE. -/
theorem test_level_change_posted :
    (after (.setLevel .S 1#8 [3#8]) (forcedTo 3)).portS.latch = (forcedTo 3).portS.latch
    ∧ (after (.setLevel .S 1#8 [255#8]) (forcedTo 3)).portS.latch = (forcedTo 3).portS.latch
    ∧ (after (.setLevel .S 1#8 [2#8]) (forcedTo 3)).portS.latch = (forcedTo 3).portS.latch ||| EventKind.levelChange.set := by
  and_intros <;> decide +kernel

/-- O47: lines that stand and lines that change; no timer; a timer with a level that is new, one that is the debounced level, and one under a
forced level; the values 7, 8, 254 and 255; a level in force that stands and one that changes. -/
theorem witness_SupplyLevelFollowsLinesOrForce :
    live.mode = .operating ∧ levelOfLines false false false = live.levelLines ∧ levelOfLines true true true ≠ live.levelLines
    ∧ live.sa.stabilityDue = none ∧ settling.mode = .operating ∧ settling.sa.stabilityDue = some 5000 ∧ settling.sa.debounced ≠ some settling.levelLines
    ∧ settling.sa.forced = none
    ∧ ({ settling with sa := { settling.sa with debounced := some 0 } }).sa.debounced = some settling.levelLines
    ∧ ({ settling with sa := { settling.sa with forced := some 3 } }).sa.forced ≠ none
    ∧ live.hears .S ∧ (7#8 : Byte).toNat ≤ 7 ∧ 7 < (8#8 : Byte).toNat ∧ (254#8 : Byte) ≠ 255#8 ∧ live.levelInForce ≠ some 7
    ∧ (forcedTo 7).hears .S ∧ (forcedTo 7).levelInForce = some (7#8 : Byte).toNat ∧ (forcedTo 7).levelInForce ≠ (forcedTo 7).sa.debounced
    ∧ (forcedTo 3).levelInForce = (forcedTo 3).sa.debounced ∧ (forcedTo 3).hears .S := by
  and_intros <;> decide +kernel

/-- O48: each check of the three writes at the edges of its range. -/
theorem witness_ProfileWritesAreChecked :
    live.hears .S ∧ saving.hears .S ∧ saving.ps.saving = true ∧ live.ps.saving = false
    ∧ 300010 % 10 = 0 ∧ 5 % 10 ≠ 0 ∧ settling.levelInForce ≠ some 0
    ∧ ({ live with sa := { live.sa with forced := some 7 } }).levelInForce = some 7
    ∧ itemRow? 0x06 = none ∧ notByWriteProfile 0x08 = true ∧ notByWriteProfile 0x15F = true ∧ notByWriteProfile 0x104 = false
    ∧ itemRow? 0x104 = some { number := 0x104, least := 0, greatest := 3, step := 1, default := 2 }
    ∧ itemPockets 0x104 = [.A] ∧ ((inA .running).pocket .A).ce.writable = false ∧ (live.pocket .A).ce.writable = true
    ∧ itemRow? 0x01 = some { number := 0x01, least := 0, greatest := 20000, step := 10, default := 1000 }
    ∧ (live.ps.profile.write 0x104 3).jointlyValid = true ∧ (live.ps.profile.write 0x05 200).jointlyValid = true
    ∧ (live.ps.profile.write 0x04 3800).jointlyValid = true ∧ ((live.ps.profile.write 0x05 200).write 0x04 3800).jointlyValid = false
    ∧ 0x104 ∈ live.ps.profile.map (·.1) := by
  and_intros <;> decide +kernel

/-- O49: the readings at the thresholds and the two sense-fault readings. -/
theorem witness_VoltageSampleMovesTheCondition :
    live.mode = .operating
    ∧ ([0, 3599, 3600, 3649, 3650, 4350, 4351, 4400, 4401, 6000].map live.classifyVoltage)
      = [.lowSide, .lowSide, .margin, .margin, .band, .band, .margin, .margin, .highSide, .lowSide] := by decide +kernel

/-- O50: an update at work, with a reading and with both sense-fault readings; within a cycle and outside it, and no wind-down;
the end of an update with a hold that has run out, one that a grant in the update holds back, and one that still runs, with entries and
without. -/
theorem witness_SupplyUpdateMetersBothPockets :
    live.mode = .operating ∧ quiet.voltage ≤ 6000 ∧ ({ quiet with voltage := 0 }).voltage = 0
    ∧ ({ quiet with voltage := 6000 }).voltage ≤ 6000 ∧ (drying.pocket .A).ce.inCycle = true
    ∧ (live.pocket .A).ce.inCycle = false ∧ (drying.pocket .A).ce.windingDown = false
    ∧ (∀ f, ∀ n ∈ [(299999 : Ticks), 300000],
        (((holding f none).reach n).pocket .A).hsc.holdSince = some 0 ∧ (((holding f none).reach n).pocket .A).hsc.freshGrant = f
        ∧ ((holding f none).reach n).now = n ∧ ((holding f none).reach n).granted .A = 3)
    ∧ (holding false none).holdTicks .A = 300000
    ∧ ((granting [] [] (holding false none)).reach 300000).granted .A = 0 := by
  and_intros <;> decide +kernel

/-- R106: at the end of the first update after a grant the hold that has run out takes the top stage; a grant in that update holds it
back. -/
theorem test_release_at_the_update :
    (((holding false none).reach 300000).endFreshGrant .A true).granted .A = 2
    ∧ (((holding true none).reach 300000).endFreshGrant .A true).granted .A = 3
    ∧ (after (.supplyUpdate { quiet with exhaustA := 700 }) ((holding true none).reach 300000)).granted .A = 2 := by
  and_intros <;> decide +kernel

/-- A long-idle pocket A whose stuck-on timer stands 250 ms short of its time. -/
def nearlyStuck : State := { live with now := 20000 }.onHsc .A (fun h => { h with stuckTimer := 750, stuckArmed := true })

/-- O51: a current one above the off-current limit. -/
theorem witness_StuckOnOpensSafe :
    nearlyStuck.mode = .operating ∧ quiet.voltage ≠ 0 ∧ quiet.voltage < 6000 ∧ nearlyStuck.sm.condition = .normal
    ∧ (nearlyStuck.pocket .A).hsc.energized = 0
    ∧ (nearlyStuck.pocket .A).hsc.lastChange + 10000 ≤ max nearlyStuck.now nearlyStuck.sm.nextUpdate
    ∧ nearlyStuck.item .A PocketItem.offCurrentLimit < min ({ quiet with currentA := 101 }).currentA 10000
    ∧ nearlyStuck.item .A PocketItem.overloadTime ≤ (nearlyStuck.pocket .A).hsc.stuckTimer + 250
    ∧ 0 < nearlyStuck.item .A PocketItem.overloadTime ∧ (nearlyStuck.pocket .A).hsc.stuckArmed = true := by decide +kernel

/-- Pocket A heating with two stages granted and a request of pocket B pending. -/
def contested : State :=
  granting [(.A, 1), (.A, 2)] [{ pocket := .B, stage := 1, posted := 0 }] heated

/-- O52: heating to 70.0 °C with a hysteresis of 2.0 °C, and not; the interval passed and not; samples at each threshold and at each end
of the sense range; a stage granted above L, and none, with no request pending, with one of pocket B, and under a shed hold. -/
theorem witness_RegulatorStepsTheLevel :
    live.heating .A = false ∧ heated.heating .A = true ∧ heated.entry .A = some dryEntry
    ∧ heated.item .A PocketItem.hysteresis = 20
    ∧ (heated.pocket .A).hsc.lastLevelChange = none
    ∧ ¬ 0 + heated.stageTicks .A ≤ ((heated.onHsc .A (fun h => { h with lastLevelChange := some 0 })).now)
    ∧ (-201 : Int) < -200 ∧ (1500 : Int) < 1501 ∧ (760 : Int) = (dryEntry.temperature : Int) * 10 + 3 * (20 : Nat)
    ∧ (720 : Int) = (dryEntry.temperature : Int) * 10 + (20 : Nat) ∧ (680 : Int) = (dryEntry.temperature : Int) * 10 - (20 : Nat)
    ∧ ((holding false none).pocket .A).hsc.level < (holding false none).granted .A
    ∧ ((holding false none).pocket .A).hsc.level < (holding false none).effectiveCap .A
    ∧ heated.granted .A = (heated.pocket .A).hsc.level ∧ (heated.pocket .A).hsc.level < heated.effectiveCap .A
    ∧ heated.sa.requests = [] ∧ (heated.pocket .A).shedDue = none
    ∧ contested.requestOf .A = none ∧ contested.sa.requests = [{ pocket := .B, stage := 1, posted := 0 }]
    ∧ contested.sa.updateCount = 0 ∧ ((heated.setShed .A (some 9)).pocket .A).shedDue ≠ none := by
  and_intros <;> decide +kernel

/-- R103, R127: a request of pocket A posted beside one of pocket B with the same post time is served first where the classes agree. -/
theorem test_request_posted :
    ((contested.writeItem (SharedItem.ceiling 0) 9000).regulate .A 500).sa.requests.map (fun r => (r.pocket, r.stage))
      = [(.A, 3), (.B, 1)] := by decide +kernel

/-- O53: a TRIP and a WARNING, listed and not. -/
theorem witness_ReportsAreListedAndTrip :
    live.mode = .operating ∧ isTrip .drumStall = true ∧ isTrip .heaterStuckOn = true ∧ isTrip .tanglePersist = false
    ∧ (live.pocket .A).fl.holds .tanglePersist = false
    ∧ ((live.report .A .tanglePersist none).pocket .A).fl.holds .tanglePersist = true := by decide +kernel

/-- O54: during a fault wind-down and after it; HEATER_STUCK_ON listed with its condition absent; from the own port and from S. -/
theorem witness_ClearFaultRemovesWhatHasGone :
    (runOn .faulted .stopped).hears .A ∧ ((runOn .faulted .stopped).pocket .A).ce.state = .faulted
    ∧ ((runOn .faulted .stopped).pocket .A).ce.windingDown = true ∧ live.hears .S ∧ ownPort .A = .A
    ∧ ((live.report .A .heaterStuckOn none).pocket .A).fl.holds .heaterStuckOn = true
    ∧ ((live.report .A .heaterStuckOn none).pocket .A).ce.state = .faulted
    ∧ (live.report .A .heaterStuckOn none).conditionPresent .A .heaterStuckOn = false
    ∧ (live.report .A .heaterStuckOn none).hears .A := by
  and_intros <;> decide +kernel

/-- Pocket A's X READY with a record, Y in state `y`, a flush timer beside a FILLING X otherwise. -/
def buffered (x y : BufferState) : State :=
  live.onSb .A (fun b => { b with x := { state := x, records := [dryRecord] },
                                  y := { state := y, records := if y = .ready then [dryRecord] else [] }, flushDue := some 50000 })

/-- O55: no READY buffer; one, beside FREE, FILLING and READY ones; a flush with the other buffer FREE and READY. -/
theorem witness_SamplesAreFetchedOnce :
    live.hears .A ∧ (live.pocket .A).sb.x.state ≠ .ready ∧ (live.pocket .A).sb.y.state ≠ .ready
    ∧ (∀ y ∈ [BufferState.free, .filling, .ready], (((buffered .ready y).pocket .A).sb.buffer .x).state = .ready
        ∧ (((buffered .ready y).pocket .A).sb.buffer BufferName.x.other).state = y
        ∧ ((buffered .ready y).pocket .A).sb.olderReady = .x)
    ∧ (∀ y ∈ [BufferState.free, .ready], (buffered .filling y).mode = .operating
        ∧ ((buffered .filling y).pocket .A).sb.flushDue = some 50000 ∧ ((buffered .filling y).pocket .A).sb.fillingHeld = some .x
        ∧ (((buffered .filling y).pocket .A).sb.buffer BufferName.x.other).state = y)
    ∧ (buffered .ready .free).hears .A := by
  and_intros <;> decide +kernel

/-! O56 to O60: a heated pocket meets each invariant, and steps. -/

theorem heated_steps : ∃ t, step { heated with pending := [.energizeStep .A] } = .next t := ⟨_, rfl⟩

theorem heated_agrees : FaultsAgree { heated with pending := [.energizeStep .A] } := by
  intro p
  cases p <;> and_intros <;> decide +kernel

theorem witness_StepKeepsHeatPermitted :
    FaultsAgree { heated with pending := [.energizeStep .A] } ∧ HeatAllowed { heated with pending := [.energizeStep .A] } :=
  ⟨heated_agrees, fun p => by cases p <;> decide +kernel⟩

theorem heated_levels : LevelsHold { heated with pending := [.energizeStep .A] } := by
  have hd : heated.sa.debounced = none := by decide +kernel
  have hf : heated.sa.forced = some 0 := by decide +kernel
  exact ⟨by decide +kernel, fun l h => absurd (hd.symm.trans h) (by simp), fun l h => by
    rw [← Option.some.inj (hf.symm.trans h)]
    exact Nat.zero_le 7⟩

theorem witness_StepKeepsTheAccount :
    LevelsHold { heated with pending := [.energizeStep .A] } ∧ AccountHolds { heated with pending := [.energizeStep .A] } := by
  refine ⟨heated_levels, ?_⟩
  and_intros <;> decide +kernel

theorem witness_StepKeepsTheLockout : LockoutKept { heated with pending := [.lockoutEnd .A], now := 20000 } := by
  intro p
  have h : ∀ r : Pocket, ((({ heated with pending := [.lockoutEnd .A], now := 20000 } : State).pocket r).dmc.lockoutDue) = none := by
    intro r; cases r <;> decide +kernel
  exact ⟨by cases p <;> decide +kernel, fun t ht => by rw [h p] at ht; exact absurd ht (by simp)⟩

theorem witness_StepKeepsTripsAndSafe :
    FaultsAgree { (live.report .A .heaterStuckOn none) with pending := [.clearFault .A 0#8 [0#8]] } := by
  intro p
  cases p
  all_goals
    refine ⟨⟨?_, ?_, ?_⟩, ?_, ?_, ?_⟩ <;> decide +kernel

/-- A fetch of a READY buffer beside a FILLING one that is empty is about to be taken. -/
def fetching : State :=
  (live.onSb .A (fun b => { b with x := { state := .ready, records := [dryRecord] }, y := { state := .filling, records := [] } }))

theorem witness_StepKeepsBuffersAndPorts :
    BuffersHold { fetching with pending := [.fetchSamples .A 0#8 [0#8]] }
    ∧ PortsHold { fetching with pending := [.fetchSamples .A 0#8 [0#8]] } := by
  constructor
  · intro p
    cases p
    · exact ⟨(⟨by decide, by decide⟩ : 1 ≤ 1 ∧ 1 ≤ 12), (by decide : 0 < 12), by decide +kernel, by decide +kernel⟩
    · exact ⟨(by decide : 0 < 12), (rfl : ([] : List RevolutionRecord) = []), by decide +kernel, by decide +kernel⟩
  · intro q
    cases q <;> refine ⟨?_, ?_, ?_⟩ <;> decide +kernel

end Sys2Proof.Tests
end

/-! PROOF. START accepted (R5): a program and its payload (R189) say the same, a request that passes the checks of the link is
answered by its action (R177, R178), and an accepted START changes its own pocket alone. -/

namespace Sys2Proof.Machine

/-! ## A program and its payload (R179, R189) -/

@[simp] theorem phaseKindOfCode_phaseKindCode (k : PhaseKind) : phaseKindOfCode (phaseKindCode k) = some k := by cases k <;> rfl

theorem phaseKindCode_lt (k : PhaseKind) : phaseKindCode k < 256 := by cases k <;> decide

theorem PhaseKind.isHeat_iff (k : PhaseKind) : k.isHeat = true ↔ k = .heatTimed ∨ k = .heatDry := by cases k <;> decide

/-- The two bytes of a quantity below 65,536 give it back. -/
theorem highLow_toNat (n : Nat) (h : n < 65536) : (BitVec.ofNat 8 (n / 256)).toNat * 256 + (BitVec.ofNat 8 n).toNat = n := by
  simp only [BitVec.toNat_ofNat]
  omega

@[simp] theorem encodeEntry_length (e : PhaseEntry) : (encodeEntry e).length = 8 := rfl

theorem decodeEntry_encodeEntry (e : PhaseEntry) (h : EntryFits e) : decodeEntry (encodeEntry e) = some e := by
  obtain ⟨htemperature, hminutes, hdryness, hhold, hstageCap, hpattern⟩ := h
  have hd := highLow_toNat e.dryness hdryness
  simp only [BitVec.toNat_ofNat, Nat.reducePow] at hd
  simp [encodeEntry, decodeEntry, be1, be2, Nat.mod_eq_of_lt, phaseKindCode_lt, htemperature, hminutes, hd, hhold, hstageCap,
    hpattern]

theorem decodeEntries_flatMap_encodeEntry (es : List PhaseEntry) (h : ∀ e ∈ es, EntryFits e) :
    decodeEntries es.length (es.flatMap encodeEntry) = some es := by
  induction es with
  | nil => rfl
  | cons e es ih =>
    obtain ⟨he, hes⟩ := List.forall_mem_cons.mp h
    have htake : (encodeEntry e ++ es.flatMap encodeEntry).take 8 = encodeEntry e := List.take_left' (encodeEntry_length e)
    have hdrop : (encodeEntry e ++ es.flatMap encodeEntry).drop 8 = es.flatMap encodeEntry :=
      List.drop_left' (encodeEntry_length e)
    simp only [List.length_cons, List.flatMap_cons, decodeEntries, htake, hdrop, decodeEntry_encodeEntry e he, ih hes]

theorem programPayload_length (es : List PhaseEntry) : (programPayload es).length = 1 + 8 * es.length := by
  simp [programPayload, be1, List.length_flatMap, Nat.mul_comm, Nat.add_comm]

theorem byteAt_programPayload_zero (es : List PhaseEntry) (h : es.length ≤ 8) : byteAt (programPayload es) 0 = es.length := by
  have hbyte : es.length < 256 := by omega
  simp [programPayload, byteAt, be1, Nat.mod_eq_of_lt hbyte]

theorem decodeProgram_programPayload (es : List PhaseEntry) (hlen : es.length ≤ 8)
    (h : ∀ e ∈ es, EntryFits e ∧ e.inRange = true) : decodeProgram (programPayload es) = some es := by
  have hcount : (BitVec.ofNat 8 es.length).toNat = es.length := byteAt_programPayload_zero es hlen
  have hdecode := decodeEntries_flatMap_encodeEntry es (fun e he => (h e he).1)
  have hrange : es.all (·.inRange) = true := List.all_eq_true.mpr (fun e he => (h e he).2)
  simp only [programPayload, be1, List.singleton_append, decodeProgram, hcount, hdecode, hrange, if_true]

theorem lengthFits_start_programPayload (es : List PhaseEntry) (hpos : 1 ≤ es.length) (hlen : es.length ≤ 8) :
    Request.lengthFits (programPayload es) .start = true := by
  simp only [Request.lengthFits, programPayload_length, byteAt_programPayload_zero es hlen, beq_self_eq_true, Bool.and_true,
    Bool.and_eq_true, decide_eq_true_eq]
  omega

/-! ## The clamps of R2 -/

theorem clampEntry_eq (maxExhaust stageCount : Nat) (e : PhaseEntry) :
    clampEntry maxExhaust stageCount e =
      if e.kind = .heatTimed ∨ e.kind = .heatDry then
        { e with temperature := min e.temperature maxExhaust, stageCap := min e.stageCap stageCount }
      else e := by
  simp only [clampEntry, PhaseKind.isHeat_iff]

/-! ## A request that a port hears (R177, R178) -/

theorem State.deaf_eq_false {s : State} {q : Port} (h : s.hears q) : s.deaf q = false := by
  obtain ⟨hmode, hreceiver⟩ := h
  simp [State.deaf, hmode, hreceiver]

/-- A port that hears a request replies with what the request comes to. -/
theorem State.request_eq_answered {s : State} {q : Port} (h : s.hears q) (r : Request) (tag : Byte) (payload : List Byte) :
    s.request r q tag payload =
      (s.respond r q payload).state.answered q r.code tag (s.respond r q payload).status (s.respond r q payload).payload := by
  rw [State.request, State.deaf_eq_false h]
  rfl

@[simp] theorem ownPocket_ownPort (p : Pocket) : ownPocket (ownPort p) = some p := by cases p <;> rfl

/-- The link hands a START of fitting length from a pocket's own port to that pocket's cycle engine. -/
theorem State.respond_start (s : State) (p : Pocket) (payload : List Byte) (h : Request.lengthFits payload .start = true) :
    s.respond .start (ownPort p) payload = s.actStart p payload := by
  have hrefusal : Request.linkRefusal (ownPort p) payload .start = none := by
    cases p <;> simp [Request.linkRefusal, h, Request.portMay, ownPort, Request.namesPocket, Request.ownOnly]
  have hsubject : Request.subject (ownPort p) payload .start = some p := ownPocket_ownPort p
  simp only [State.respond, hrefusal, hsubject, Option.getD_some, State.actOn]

theorem exec_start (q : Port) (tag : Byte) (payload : List Byte) (s : State) :
    exec (.start q tag payload) s = .next (s.request .start q tag payload) := rfl

theorem exec_start_eq_answered {s : State} {p : Pocket} (h : s.hears (ownPort p)) (tag : Byte) (payload : List Byte)
    (hfits : Request.lengthFits payload .start = true) :
    exec (.start (ownPort p) tag payload) s =
      .next ((s.actStart p payload).state.answered (ownPort p) 0x10#8 tag (s.actStart p payload).status
        (s.actStart p payload).payload) := by
  rw [exec_start, State.request_eq_answered h, State.respond_start s p payload hfits, Request.code]

/-! ## START accepted (R5) -/

theorem State.actStart_accepted {s : State} {p : Pocket} {payload : List Byte} {es program : List PhaseEntry}
    (hidle : (s.pocket p).ce.state = .idle) (hdoor : (s.pocket p).lines.doorClosed = true) (hes : decodeProgram payload = some es)
    (hprogram : program = es.map (clampEntry (s.item p PocketItem.maximumExhaust) (s.stageCount p))) :
    s.actStart p payload = (s.acceptStart p program).ok (startReply program) := by
  subst hprogram
  simp [State.actStart, hidle, hdoor, hes]

/-- An accepted START changes its own pocket alone. -/
theorem State.acceptStart_onlyPocket (s : State) (p : Pocket) (program : List PhaseEntry) :
    OnlyPocket p s (s.acceptStart p program) := by
  simp [OnlyPocket, State.acceptStart, State.enterProving, State.onCe, State.onMe, State.onTm, State.onRcu, State.onDmc,
    State.onMeter]

/-- Of its pocket, an accepted START replaces the cycle engine and what R5 resets in the other blocks. -/
theorem State.acceptStart_pocket (s : State) (p : Pocket) (program : List PhaseEntry) :
    (s.acceptStart p program).pocket p =
      { s.pocket p with
          ce := { (s.pocket p).ce with
            state := .proving, program := program, index := some 1, phaseTicks := 0, runSince := none, earlierSeconds := 0,
            begun := false, phasesCompleted := 0, hotExit := false, lastDryEnd := none, lastPhaseEnd := none, endReason := none,
            result := none, airflowProven := false, provingDue := some (s.now + seconds 10),
            closureDue := if (s.pocket p).lines.airfClosed then some (s.now + seconds 1) else none,
            lossDue := none, purgeDue := none, pause := none }
          me := { Estimator.startUp with exhaust := (s.pocket p).me.exhaust, inlet := (s.pocket p).me.inlet }
          tm := TangleMonitor.startUp
          rcu := { (s.pocket p).rcu with slipRun := 0 }
          dmc := { (s.pocket p).dmc with restartCount := 0, lastRetry := none, reversalCount := 0 }
          meter := { (s.pocket p).meter with cycleEnergy := 0 } } := by
  simp [State.acceptStart, State.enterProving, Estimator.startUp, TangleMonitor.startUp]

/-- Settles O14: the payload decodes to the program it spells, the link passes it to the cycle engine, and what that does is
`State.acceptStart`. -/
theorem startBeginsACycle : Obligations.StartBeginsACycle := by
  intro p tag es s hhears hidle hdoor hpos hlen hes
  obtain ⟨program, hprogram⟩ : ∃ program, program = es.map (clampEntry (s.item p PocketItem.maximumExhaust) (s.stageCount p)) :=
    ⟨_, rfl⟩
  have hcount : program.length = es.length := by rw [hprogram, List.length_map]
  have haccepted := State.actStart_accepted hidle hdoor (decodeProgram_programPayload es hlen hes) hprogram
  refine ⟨program, (s.acceptStart p program).pocket p, ?clamps, ?reply, ?effects⟩
  case clamps => exact hprogram.trans (List.map_congr_left (fun e _ => clampEntry_eq _ _ e))
  case reply =>
    rw [exec_start_eq_answered hhears tag _ (lengthFits_start_programPayload es hpos hlen), haccepted,
      ← State.acceptStart_onlyPocket, ← hcount]
    rfl
  case effects =>
    rw [State.acceptStart_pocket]
    and_intros <;> rfl

end Sys2Proof.Machine

/-! PROOF. The moisture estimator's computation on a VALID record (R69 to R77): the ranges of its terms, and the figures that a
record taken leaves in the estimator. -/

namespace Sys2Proof.Machine

/-! ## The terms of the computation (R69, R71, R73, R74, R76) -/

/-- Within the counter's range of R59 the period is used as it stands. -/
theorem wetFraction_eq {period : Nat} (contactTime : Nat) (hpos : 1 ≤ period) (hmax : period ≤ 16777215) :
    wetFraction contactTime period = min 4096 (contactTime * 4096 / period) := by
  have hclamp : max 1 (min period counterLimit) = period := by
    rw [counterLimit]
    omega
  rw [wetFraction, hclamp]

theorem wetFraction_le (contactTime period : Nat) : wetFraction contactTime period ≤ 4096 := Nat.min_le_left _ _

theorem wetFraction_no_contact (period : Nat) : wetFraction 0 period = 0 := by simp [wetFraction]

theorem wetFraction_bridged {period : Nat} (hpos : 1 ≤ period) (hmax : period ≤ 16777215) :
    wetFraction period period = 4096 := by
  rw [wetFraction_eq period hpos hmax, Nat.mul_div_cancel_left 4096 hpos, Nat.min_self]

/-- The clamp that R71 keeps as part of the computation. -/
theorem smooth_le (k s16 w : Nat) : smooth k s16 w ≤ 65536 := by
  rw [smooth]
  omega

theorem moistureTerm_le (s16 : Nat) : moistureTerm s16 ≤ 1000 := Nat.sub_le _ _

theorem approachTerm_le (te ti : Int) (target : Nat) : approachTerm te ti target ≤ 1000 := by
  rw [approachTerm]
  split <;> omega

theorem approachTerm_of_short_span (te : Int) {ti : Int} {target : Nat} (hspan : (target : Int) * 10 - ti < 50) :
    approachTerm te ti target = 1000 := if_pos hspan

theorem approachTerm_of_long_span (te : Int) {ti : Int} {target : Nat} (hspan : 50 ≤ (target : Int) * 10 - ti) :
    (approachTerm te ti target : Int) = max 0 (min 1000 (Int.tdiv ((te - ti) * 1000) ((target : Int) * 10 - ti))) := by
  rw [approachTerm, if_neg (by omega)]
  omega

/-- A numerator of 0 or below gives 0 (R74). -/
theorem approachTerm_of_exhaust_le {te ti : Int} {target : Nat} (hspan : 50 ≤ (target : Int) * 10 - ti) (hle : te ≤ ti) :
    approachTerm te ti target = 0 := by
  have hmirrored : 0 ≤ Int.tdiv (-((te - ti) * 1000)) ((target : Int) * 10 - ti) := Int.tdiv_nonneg (by omega) (by omega)
  rw [Int.neg_tdiv] at hmirrored
  have hvalue := approachTerm_of_long_span te hspan
  omega

/-- From a numerator of 0 on the quotient truncated toward zero is the floor, and only the upper clamp can act (R74). -/
theorem approachTerm_of_exhaust_ge {te ti : Int} {target : Nat} (hspan : 50 ≤ (target : Int) * 10 - ti) (hge : ti ≤ te) :
    (approachTerm te ti target : Int) = min 1000 ((te - ti) * 1000 / ((target : Int) * 10 - ti)) := by
  have hnumerator : 0 ≤ (te - ti) * 1000 := by omega
  have hquotient : 0 ≤ (te - ti) * 1000 / ((target : Int) * 10 - ti) := Int.ediv_nonneg hnumerator (by omega)
  rw [approachTerm_of_long_span te hspan, Int.tdiv_eq_ediv_of_nonneg hnumerator]
  omega

/-- The mean of two figures up to 1000 is at most 1000 (R76). -/
theorem drynessIndex_le {m a wS wT : Nat} (hm : m ≤ 1000) (ha : a ≤ 1000) : drynessIndex m a wS wT ≤ 1000 := by
  have hsum : m * wS + a * wT ≤ 1000 * (wS + wT) := by
    rw [Nat.mul_add]
    exact Nat.add_le_add (Nat.mul_le_mul_right wS hm) (Nat.mul_le_mul_right wT ha)
  exact Nat.div_le_of_le_mul (by rwa [Nat.mul_comm (wS + wT)])

/-! ## What a record taken leaves in the estimator -/

/-- S16 after a record of wet fraction `w`: seeded where it was absent, smoothed where it stood (R70, R71). -/
def s16After (k w : Nat) : Option Nat → Nat
  | none => w * 16
  | some v => smooth k v w

theorem s16After_le {w : Nat} (k : Nat) (hw : w ≤ 4096) (prior : Option Nat) : s16After k w prior ≤ 65536 := by
  cases prior with
  | none => exact Nat.mul_le_mul_right 16 hw
  | some v => exact smooth_le k v w

/-- S16 of the pocket after a record of this period and contact time. -/
def State.s16Taken (s : State) (p : Pocket) (period contactTime : Nat) : Nat :=
  s16After (s.item p PocketItem.filterShift) (wetFraction contactTime period) (s.pocket p).me.s16

/-- The dryness index of a record with the moisture term `m` and the approach term `a` (R76, R77). -/
def State.indexTaken (s : State) (p : Pocket) (kind : PhaseKind) (m a : Nat) : Nat :=
  if kind.isHeat then drynessIndex m a (s.item p PocketItem.moistureWeight) (s.item p PocketItem.temperatureWeight) else m

/-- An account move leaves the estimator as it was. -/
theorem MovesTo.me {s t : State} (h : MovesTo s t) (p : Pocket) : (t.pocket p).me = (s.pocket p).me := by
  obtain ⟨heat, hpocket⟩ := h.pocket p
  rw [hpocket]

/-- The estimator after a record taken in the entry `e`: stages 1 to 5 of its computation. What the later stages make of the hold
counter, the taper and the dry notice is left open here. -/
theorem State.takeMoisture_me {s : State} {p : Pocket} {e : PhaseEntry} (he : s.entry p = some e) (period contactTime : Nat)
    (te ti : Int) :
    ∃ hold taperCap dryNotice, ((s.takeMoisture p period contactTime te ti).pocket p).me =
      { (s.pocket p).me with
          lastW := some (wetFraction contactTime period)
          s16 := some (s.s16Taken p period contactTime)
          lastM := some (moistureTerm (s.s16Taken p period contactTime))
          lastA := if e.kind.isHeat then some (approachTerm te ti e.temperature) else (s.pocket p).me.lastA
          index := some (s.indexTaken p e.kind (moistureTerm (s.s16Taken p period contactTime))
            (approachTerm te ti e.temperature))
          hold := hold, taperCap := taperCap, dryNotice := dryNotice } := by
  simp only [State.takeMoisture, he]
  rw [(MovesTo.applyCap p _).me p, State.updateTaper, State.pocket_onMe, State.pocket_onMe]
  unfold State.s16Taken
  cases (s.pocket p).me.s16 <;> exact ⟨_, _, _, rfl⟩

/-- Settles O37: the figures are those of `State.takeMoisture_me`, S16 by the seeding or the filter. -/
theorem estimatorTakesTheWetFraction : Obligations.EstimatorTakesTheWetFraction := by
  intro p s e period c te ti he hpos hmax
  obtain ⟨hold, taperCap, dryNotice, hme⟩ := State.takeMoisture_me he period c te ti
  refine ⟨wetFraction c period, s.s16Taken p period c, moistureTerm (s.s16Taken p period c), ⟨by rw [hme], ?share⟩, ?noContact,
    ?bridged, by rw [hme], ?seeded, ?filtered, by rw [hme], rfl, ?range, moistureTerm_le _, ?dry, ?wet⟩
  case share => exact wetFraction_eq c hpos hmax
  case noContact => rintro rfl; exact wetFraction_no_contact period
  case bridged => rintro rfl; exact wetFraction_bridged hpos hmax
  case seeded => intro hunseeded; rw [State.s16Taken, hunseeded, s16After]
  case filtered => intro v hv; rw [State.s16Taken, hv, s16After]
  case range => exact s16After_le _ (wetFraction_le c period) _
  case dry => intro h; rw [h, moistureTerm]
  case wet => intro h; rw [h, moistureTerm]

/-- Settles O39: in a heat phase by the laws of the approach term and the mean, elsewhere the index is the moisture term. -/
theorem drynessIndexIsTheWeightedMean : Obligations.DrynessIndexIsTheWeightedMean := by
  intro p s e period c te ti he
  obtain ⟨hold, taperCap, dryNotice, hme⟩ := State.takeMoisture_me he period c te ti
  refine ⟨_, moistureTerm (s.s16Taken p period c),
    s.indexTaken p e.kind (moistureTerm (s.s16Taken p period c)) (approachTerm te ti e.temperature), rfl, by rw [hme], by rw [hme],
    ?unheated, ?heated⟩
  case unheated =>
    intro hkind
    have hheat : e.kind.isHeat = false := by rcases hkind with h | h <;> rw [h] <;> rfl
    simp [hme, State.indexTaken, hheat]
  case heated =>
    intro hkind
    have hheat : e.kind.isHeat = true := (PhaseKind.isHeat_iff e.kind).mpr hkind
    simp only [hme, State.indexTaken, hheat, if_true]
    exact ⟨_, rfl, approachTerm_le te ti e.temperature, approachTerm_of_short_span te, approachTerm_of_exhaust_le,
      approachTerm_of_exhaust_ge, rfl, fun _ => drynessIndex_le (moistureTerm_le _) (approachTerm_le te ti e.temperature)⟩

end Sys2Proof.Machine

/-! PROOF. The tangle monitor's evidence of a VALID record (R89 to R93): when a record is uneven or lumpy, when an early reversal is
called, and what a record taken leaves in the monitor. -/

namespace Sys2Proof.Machine

/-! ## A change of the monitor -/

theorem State.onTm_onTm (s : State) (p : Pocket) (f g : TangleMonitor → TangleMonitor) :
    (s.onTm p f).onTm p g = s.onTm p (fun t => g (f t)) := by
  simp [State.onTm]

theorem State.item_onTm (s : State) (p q : Pocket) (f : TangleMonitor → TangleMonitor) (index : Nat) :
    (s.onTm p f).item q index = s.item q index := by
  simp [State.item]

/-! ## The evidence of a record (R89, R90) -/

/-- The difference of R89 is the distance of the two periods. -/
theorem deviation_eq_natAbs (period reference : Nat) :
    deviation period reference = min 1000 (((period : Int) - reference).natAbs * 1000 / reference) := by
  have hdistance : (if reference ≤ period then period - reference else reference - period)
      = ((period : Int) - reference).natAbs := by
    split <;> omega
  rw [deviation, hdistance]

/-- The mean contact length of a record, none without a contact (R90). -/
def meanContactLength (contacts contactTime : Nat) : Option Nat := if contacts = 0 then none else some (contactTime / contacts)

theorem meanContactLength_of_no_contact {contacts : Nat} (contactTime : Nat) (h : contacts = 0) :
    meanContactLength contacts contactTime = none := if_pos h

theorem meanContactLength_of_contact {contacts : Nat} (contactTime : Nat) (h : 1 ≤ contacts) :
    meanContactLength contacts contactTime = some (contactTime / contacts) := if_neg (by omega)

/-- A record of this period is uneven (R89). -/
def State.unevenPeriod (s : State) (p : Pocket) (period : Nat) : Bool :=
  ((s.pocket p).tm.reference.map (deviation period)).any (fun d => s.item p PocketItem.deviationThreshold ≤ d)

theorem State.unevenPeriod_iff (s : State) (p : Pocket) (period : Nat) :
    s.unevenPeriod p period = true ↔ ∃ r, (s.pocket p).tm.reference = some r ∧ s.item p PocketItem.deviationThreshold
      ≤ min 1000 (((period : Int) - r).natAbs * 1000 / r) := by
  simp only [State.unevenPeriod, ← deviation_eq_natAbs]
  cases (s.pocket p).tm.reference <;> simp

/-- A record of these contacts is lumpy (R90). -/
def State.lumpyContacts (s : State) (p : Pocket) (contacts contactTime : Nat) : Bool :=
  (meanContactLength contacts contactTime).any (fun l => s.item p PocketItem.lumpLength * 10 ≤ l)

theorem State.lumpyContacts_iff (s : State) (p : Pocket) (contacts contactTime : Nat) :
    s.lumpyContacts p contacts contactTime = true ↔
      1 ≤ contacts ∧ s.item p PocketItem.lumpLength * 10 ≤ contactTime / contacts := by
  rw [State.lumpyContacts]
  rcases Nat.eq_zero_or_pos contacts with hnone | hsome
  · rw [meanContactLength_of_no_contact contactTime hnone]
    simp [hnone]
  · have hcontact : 1 ≤ contacts := hsome
    simp [meanContactLength_of_contact contactTime hcontact, hcontact]

/-! ## The early reversal (R93) -/

theorem State.reversalCalled_iff (s : State) (p : Pocket) :
    s.reversalCalled p = true ↔
      (s.pocket p).tm.flag = true ∧ (s.pocket p).ce.state = .running ∧ (s.pocket p).dmc.state = .run
        ∧ (s.pocket p).dmc.latched.response = true ∧ 0 < (s.pocket p).dmc.latched.reverseRun
        ∧ ∃ since, (s.pocket p).dmc.segmentSince = some since ∧ since + seconds (s.item p PocketItem.minimumRun) ≤ s.now := by
  rw [State.reversalCalled]
  cases (s.pocket p).dmc.segmentSince <;> simp [and_assoc]

/-- A request on its way stands; one that is called joins it (notes/assumptions/17.md). -/
theorem State.considerReversal_eq_onTm (s : State) (p : Pocket) :
    s.considerReversal p = s.onTm p (fun t => { t with reversalNotice := t.reversalNotice || s.reversalCalled p }) := by
  rw [State.considerReversal]
  cases s.reversalCalled p with
  | true => simp
  | false =>
    simp only [Bool.or_false]
    exact (State.setPocket_pocket s p).symm

/-! ## What a record taken leaves in the monitor (R89 to R92) -/

/-- The score after a record of this period and these contacts (R91). -/
def State.scoreTaken (s : State) (p : Pocket) (period contacts contactTime : Nat) : Nat :=
  scoreAfter (s.pocket p).tm.score (s.unevenPeriod p period) (s.lumpyContacts p contacts contactTime)

/-- The monitor with the evidence of a record, before an early reversal is considered. -/
def State.evidenceTaken (s : State) (p : Pocket) (period contacts contactTime : Nat) : TangleMonitor :=
  { (s.pocket p).tm with
      score := s.scoreTaken p period contacts contactTime
      flag := decide (s.item p PocketItem.scoreThreshold ≤ s.scoreTaken p period contacts contactTime)
      reference := some period
      lastDeviation := (s.pocket p).tm.reference.map (deviation period)
      lastContactLength := meanContactLength contacts contactTime }

theorem State.takeTangle_eq_considerReversal (s : State) (p : Pocket) (period contacts contactTime : Nat) :
    s.takeTangle p period contacts contactTime =
      (s.onTm p (fun _ => s.evidenceTaken p period contacts contactTime)).considerReversal p := rfl

/-- A record taken changes the monitor alone: its evidence, and the request where the flag as it now is calls for one. -/
theorem State.takeTangle_eq_onTm (s : State) (p : Pocket) (period contacts contactTime : Nat) :
    s.takeTangle p period contacts contactTime =
      s.onTm p (fun _ =>
        { s.evidenceTaken p period contacts contactTime with
            reversalNotice := (s.pocket p).tm.reversalNotice
              || (s.onTm p (fun _ => s.evidenceTaken p period contacts contactTime)).reversalCalled p }) := by
  rw [State.takeTangle_eq_considerReversal, State.considerReversal_eq_onTm, State.onTm_onTm]
  rfl

/-- Settles O41: by `State.takeTangle_eq_onTm`, the score by whether the record is uneven and lumpy, the request by the flag that
the record leaves. -/
theorem tangleScoreFollowsTheEvidence : Obligations.TangleScoreFollowsTheEvidence := by
  intro p s period contacts time uneven lumpy huneven hlumpy
  rw [← State.unevenPeriod_iff] at huneven
  rw [← State.lumpyContacts_iff] at hlumpy
  have hnotUneven : ¬ uneven → s.unevenPeriod p period = false := fun h => Bool.eq_false_iff.mpr (mt huneven.mpr h)
  have hnotLumpy : ¬ lumpy → s.lumpyContacts p contacts time = false := fun h => Bool.eq_false_iff.mpr (mt hlumpy.mpr h)
  rw [State.takeTangle_eq_onTm, State.pocket_onTm]
  refine ⟨_, s.scoreTaken p period contacts time, rfl, rfl, ?both, ?unevenOnly, ?lumpyOnly, ?neither, decide_eq_true_iff, rfl,
    meanContactLength_of_no_contact time, meanContactLength_of_contact time, ?noReference, ?deviation, ?request, rfl, rfl⟩
  case both =>
    intro hu hl
    rw [State.scoreTaken, huneven.mp hu, hlumpy.mp hl, scoreAfter]
  case unevenOnly =>
    intro hu hl
    rw [State.scoreTaken, huneven.mp hu, hnotLumpy hl, scoreAfter]
  case lumpyOnly =>
    intro hu hl
    rw [State.scoreTaken, hnotUneven hu, hlumpy.mp hl, scoreAfter]
  case neither =>
    intro hu hl
    rw [State.scoreTaken, hnotUneven hu, hnotLumpy hl, scoreAfter]
  case noReference =>
    intro hnone
    simp only [State.evidenceTaken, hnone, Option.map_none]
  case deviation =>
    intro r hr
    simp only [State.evidenceTaken, hr, Option.map_some, deviation_eq_natAbs]
  case request =>
    rw [Bool.or_eq_true, State.reversalCalled_iff, State.pocket_onTm, State.item_onTm, (State.onTm_shared s p _).2.2.1]

end Sys2Proof.Machine

/-! PROOF. READ_EVENTS (R182): what it leaves at its port, and what a post before it and a post after it come to. -/

namespace Sys2Proof.Machine

/-! ## A port that has answered -/

@[simp] theorem State.port_answered (s : State) (q : Port) (code tag : Byte) (status : Status) (payload : List Byte) :
    (s.answered q code tag status payload).port q =
      { s.port q with
          receiver := .off, reply := some { code := code ||| 0x80#8, tag := tag, status := status, payload := payload } } := by
  simp [State.answered]

/-! ## Posts to a port (R181) -/

/-- A post closes no port. -/
theorem State.hears_post {s : State} {q : Port} (h : s.hears q) (k : EventKind) : (s.post k).hears q := by
  obtain ⟨hmode, hreceiver⟩ := h
  refine ⟨hmode, ?_⟩
  rw [State.port_post]
  exact hreceiver

theorem PortState.post_latch_of_admitted {k : EventKind} {x : PortState} (h : k.set &&& admitted x.mask = k.set) :
    (x.post k).latch = x.latch ||| k.set := by
  rw [PortState.post, h]

theorem EventKind.set_ne_zero (k : EventKind) : k.set ≠ 0#24 := by
  cases k with
  | phaseEnd p | cycleEnd p | paused p | fault p | samplesReady p | heatCurtailed p | tanglePersist p => cases p <;> decide
  | levelChange | supplyCondition | saveDone | restarted => decide

theorem PortState.attn_eq_false {x : PortState} (h : x.latch = 0#24) : x.attn = false := by
  rw [PortState.attn, h]
  rfl

theorem PortState.attn_eq_true {x : PortState} (h : x.latch ≠ 0#24) : x.attn = true := bne_iff_ne.mpr h

/-! ## READ_EVENTS (R182) -/

/-- What a READ_EVENTS leaves: the latch emptied, and in the reply as it stood. -/
def State.eventsRead (s : State) (q : Port) (tag : Byte) : State :=
  (s.setPort q { s.port q with latch := 0#24 }).answered q 0x50#8 tag .ok (be3 (s.port q).latch.toNat)

/-- No check of the link refuses a READ_EVENTS, from whatever port and in whatever state. -/
theorem State.respond_readEvents (s : State) (q : Port) : s.respond .readEvents q [] = s.actReadEvents q := rfl

/-- A port that hears has its READ_EVENTS answered; whether the profile store is SAVING is not asked. -/
theorem exec_readEvents {s : State} {q : Port} (h : s.hears q) (tag : Byte) :
    exec (.readEvents q tag []) s = .next (s.eventsRead q tag) := by
  have hexec : exec (.readEvents q tag []) s = .next (s.request .readEvents q tag []) := rfl
  rw [hexec, State.request_eq_answered h, State.respond_readEvents]
  rfl

theorem State.eventsRead_latch (s : State) (q : Port) (tag : Byte) : ((s.eventsRead q tag).port q).latch = 0#24 := by
  simp [State.eventsRead]

theorem State.eventsRead_mask (s : State) (q : Port) (tag : Byte) : ((s.eventsRead q tag).port q).mask = (s.port q).mask := by
  simp [State.eventsRead]

theorem State.eventsRead_reply (s : State) (q : Port) (tag : Byte) :
    ∃ reply, ((s.eventsRead q tag).port q).reply = some reply ∧ reply.payload = be3 (s.port q).latch.toNat := by
  simp [State.eventsRead]

theorem State.eventsRead_attn (s : State) (q : Port) (tag : Byte) : ((s.eventsRead q tag).port q).attn = false :=
  PortState.attn_eq_false (s.eventsRead_latch q tag)

/-- A kind posted after the read is the whole latch. -/
theorem State.post_eventsRead_latch {s : State} {q : Port} {k : EventKind} (h : k.set &&& admitted (s.port q).mask = k.set)
    (tag : Byte) : (((s.eventsRead q tag).post k).port q).latch = k.set := by
  rw [← s.eventsRead_mask q tag] at h
  rw [State.port_post, PortState.post_latch_of_admitted h, State.eventsRead_latch, BitVec.zero_or]

/-- Settles O12: the two orders of a post and a read, each by the laws of the read; the read that follows the post answers with the
latch that the post left. -/
theorem readEventsEmptiesTheLatch : Obligations.ReadEventsEmptiesTheLatch := by
  intro q tag s hhears
  refine ⟨s.eventsRead q tag, exec_readEvents hhears tag, rfl, s.eventsRead_attn q tag, fun k hk => ?_⟩
  have hlater : (((s.eventsRead q tag).post k).port q).latch = k.set := State.post_eventsRead_latch hk tag
  have hearlier : ((s.post k).port q).latch = (s.port q).latch ||| k.set := by
    rw [State.port_post, PortState.post_latch_of_admitted hk]
  refine ⟨hlater, PortState.attn_eq_true (hlater ▸ k.set_ne_zero), (s.post k).eventsRead q tag,
    exec_readEvents (State.hears_post hhears k) tag, State.eventsRead_latch _ q tag, State.eventsRead_attn _ q tag, ?_⟩
  rw [← hearlier]
  exact State.eventsRead_reply _ q tag

end Sys2Proof.Machine


/-! PROOF. What a step is made of (O56 to O60): every command at work is a chain of the acts below. Each invariant is a law of a
pocket's own part, of a port, or of the supply account, so that it is shown once for each act and holds of every step. -/

namespace Sys2Proof.Machine

/-! ## The invariants as laws of a pocket's own part and of a port -/

/-- The reversal lockout of one drum (R31). -/
def LockoutAt (now : Ticks) (d : DrumMotion) : Prop :=
  (d.runOutput = true → d.oppositeOff + seconds 2 ≤ now) ∧ ∀ t, d.lockoutDue = some t → d.oppositeOff + seconds 2 ≤ t

theorem lockoutKept_iff (s : State) : LockoutKept s ↔ ∀ p, LockoutAt s.now (s.pocket p).dmc := Iff.rfl

/-- The fault list of one pocket with its cycle state and SAFE (R113, R158, R162, R165). -/
def FaultsAt (mode : Mode) (x : PocketState) : Prop :=
  FaultListHolds x.fl ∧ (0 < x.fl.trips ↔ x.ce.state = .faulted)
  ∧ (mode = .operating → (x.hsc.safe = false ↔ x.fl.holds .heaterStuckOn = true))
  ∧ (mode ≠ .operating → x.fl.records = [] ∧ x.hsc.safe = false)

theorem faultsAgree_iff (s : State) : FaultsAgree s ↔ ∀ p, FaultsAt s.mode (s.pocket p) := Iff.rfl

/-- The sample buffers of one pocket (R185). -/
def SampleBuffers.Sound (b : SampleBuffers) : Prop :=
  BufferHolds b.x ∧ BufferHolds b.y ∧ ¬ (b.x.state = .filling ∧ b.y.state = .filling)
  ∧ (b.flushDue.isSome = true → b.fillingHeld.isSome = true)

theorem buffersHold_iff (s : State) : BuffersHold s ↔ ∀ p, (s.pocket p).sb.Sound := Iff.rfl

/-- One port (R177, R180, R181, R183). -/
def PortState.Sound (x : PortState) : Prop :=
  (x.reply.isSome = true → x.receiver = .off) ∧ x.latch &&& admitted x.mask = x.latch ∧ x.mask &&& eventBits = x.mask

theorem portsHold_iff (s : State) : PortsHold s ↔ ∀ q, (s.port q).Sound := Iff.rfl

/-- E of one pocket within its target (R107). -/
def HeatAt (s : State) (p : Pocket) : Prop := (s.pocket p).hsc.energized ≤ s.heatTarget p

theorem heatAllowed_iff (s : State) : HeatAllowed s ↔ ∀ p, HeatAt s p := Iff.rfl

theorem accountHolds_iff (s : State) : AccountHolds s ↔ (∀ p, AllotmentHolds s p) ∧ s.committed ≤ s.ceiling :=
  ⟨fun ⟨a, b, c⟩ => ⟨fun p => by cases p <;> assumption, c⟩, fun ⟨a, c⟩ => ⟨a .A, a .B, c⟩⟩

/-! ## Changes of a pocket's own part -/

/-- A pocket's own part becomes `x` in a way that no invariant forbids. -/
structure OwnSound (p : Pocket) (s : State) (x : PocketState) : Prop where
  lockout : LockoutAt s.now (s.pocket p).dmc → LockoutAt s.now x.dmc
  buffers : (s.pocket p).sb.Sound → x.sb.Sound
  faults : FaultsAt s.mode (s.pocket p) → FaultsAt s.mode x
  heat : FaultsAt s.mode (s.pocket p) → HeatAt s p → HeatAt (s.setPocket p x) p
  reading : x.meter.reading = (s.pocket p).meter.reading

/-- A pocket's own part becomes `x`, which is not RUNNING on a heat phase and has no stage energized; L has not risen. -/
structure OwnUnheated (p : Pocket) (s : State) (x : PocketState) : Prop extends OwnSound p s x where
  unheated : (s.setPocket p x).heating p = false
  level : x.hsc.level ≤ (s.pocket p).hsc.level

/-- A pocket's own part becomes `x` with another effective cap to be handed to the allocator; L has not risen, the shed hold stands, and
a pocket that was RUNNING on a heat phase still is. -/
structure OwnRecapped (p : Pocket) (s : State) (x : PocketState) : Prop extends OwnSound p s x where
  heating : s.heating p = true → (s.setPocket p x).heating p = true
  shed : x.shedDue = (s.pocket p).shedDue
  level : x.hsc.level ≤ (s.pocket p).hsc.level

/-! ## The acts -/

/-- What a command at work does, as a chain of acts: the clock and the queue, a port, a post, a pocket's own part, and the account. -/
inductive Acts : State → State → Prop
  | refl (s : State) : Acts s s
  | trans {s t u : State} (h : Acts s t) (k : Acts t u) : Acts s u
  | clock (s : State) (n : Ticks) (h : s.now ≤ n) : Acts s { s with now := n }
  | queue (s : State) (cs : List Instr) : Acts s { s with pending := cs }
  | port (s : State) (q : Port) (x : PortState) (h : (s.port q).Sound → x.Sound) : Acts s (s.setPort q x)
  | post (s : State) (k : EventKind) : Acts s (s.post k)
  | own (s : State) (p : Pocket) (x : PocketState) (h : OwnSound p s x)
      (allotment : AllotmentHolds s p → AllotmentHolds (s.setPocket p x) p) : Acts s (s.setPocket p x)
  | unheated (s : State) (p : Pocket) (x : PocketState) (h : OwnUnheated p s x) : Acts s ((s.setPocket p x).releaseAll p)
  | recapped (s : State) (p : Pocket) (x : PocketState) (h : OwnRecapped p s x) : Acts s ((s.setPocket p x).applyCap p)
  | remove (s : State) (p : Pocket) : Acts s (s.removeAll p)
  | evaluate (s : State) : Acts s s.evaluate
  | withdraw (s : State) (p : Pocket) : Acts s (s.withdraw p)
  | releaseTop (s : State) (p : Pocket) : Acts s (s.releaseTop p)
  | postRequest (s : State) (p : Pocket) (n : Nat) : Acts s (s.postRequest p n)
  | levels (s : State) (a : Allocator) (lines : Nat) (hg : a.grants = s.sa.grants) (hr : a.requests = s.sa.requests)
      (hl : State.levelInForce { s with sa := a } = s.levelInForce) (h : LevelsHold s → LevelsHold { s with sa := a, levelLines := lines }) :
      Acts s { s with sa := a, levelLines := lines }
  | source (s : State) (a : Allocator) (c : Bool) (k : EventKind) (hg : a.grants = s.sa.grants) (hr : a.requests = s.sa.requests)
      (h : LevelsHold s → LevelsHold { s with sa := a }) : Acts s (State.evaluate (State.postIf c k { s with sa := a }))
  | store (s : State) (f : ProfileStore)
      (ha : ∀ p, AllotmentHolds s p → AllotmentHolds { s with ps := f } p)
      (hc : LevelsHold s → (∀ p, AllotmentHolds s p) → State.committed { s with ps := f } = 0
        ∨ (State.metered { s with ps := f } = s.metered ∧ State.committed { s with ps := f } = s.committed
          ∧ State.ceiling { s with ps := f } = s.ceiling)) : Acts s { s with ps := f }
  | storeEvaluate (s : State) (f : ProfileStore)
      (h : ∀ p, AllotmentHolds s p → AllotmentHolds { s with ps := f } p) : Acts s (State.evaluate { s with ps := f })
  | meter (s : State) (m : SupplyMeter) (h : m.condition = s.sm.condition) : Acts s { s with sm := m }
  | condition (s : State) (m : SupplyMeter) (c : Bool) (k : EventKind) :
      Acts s (((State.postIf c k { s with sm := m }).followE .A).followE .B)
  | readings (s : State) (f g : PocketMeter → PocketMeter) {t : State} (h : Acts ((s.onMeter .A f).onMeter .B g) t) :
      Acts s t.meteredEvaluation

end Sys2Proof.Machine


/-! PROOF. The laws of a pocket's own part and of a port through every act (O58, O59, O60). -/

namespace Sys2Proof.Machine

/-! ## Account moves that leave SAFE -/

/-- An account move that leaves SAFE as it was in both pockets. -/
def SafeMove (s t : State) : Prop := MovesTo s t ∧ ∀ p, (t.pocket p).hsc.safe = (s.pocket p).hsc.safe

theorem SafeMove.of_lowered {s t : State} (hm : MovesTo s t) (hl : HeatLowered s t) : SafeMove s t :=
  ⟨hm, fun p => by rw [(hl p).2.2]⟩

theorem SafeMove.trans {s t u : State} (h : SafeMove s t) (k : SafeMove t u) : SafeMove s u :=
  ⟨h.1.trans k.1, fun p => (k.2 p).trans (h.2 p)⟩

theorem SafeMove.dropE (p : Pocket) (s : State) : SafeMove s (s.dropE p) := .of_lowered (.dropE p s) (.dropE p s)

theorem SafeMove.riseE (p : Pocket) (s : State) : SafeMove s (s.riseE p) := by
  refine ⟨.riseE p s, fun r => ?_⟩
  unfold State.riseE
  split
  · rw [State.pocket_onHsc_cases]
    split <;> rfl
  · rfl

theorem SafeMove.followE (p : Pocket) (s : State) : SafeMove s (s.followE p) := (dropE p s).trans (riseE p _)

theorem SafeMove.evaluate (s : State) : SafeMove s s.evaluate := .of_lowered (.evaluate s) (.evaluate s)

theorem SafeMove.removeAll (p : Pocket) (s : State) : SafeMove s (s.removeAll p) := .of_lowered (.removeAll p s) (.removeAll p s)

theorem SafeMove.releaseAll (p : Pocket) (s : State) : SafeMove s (s.releaseAll p) := .of_lowered (.releaseAll p s) (.releaseAll p s)

theorem SafeMove.applyCap (p : Pocket) (s : State) : SafeMove s (s.applyCap p) := .of_lowered (.applyCap p s) (.applyCap p s)

theorem SafeMove.withdraw (p : Pocket) (s : State) : SafeMove s (s.withdraw p) := .of_lowered (.withdraw p s) (.withdraw p s)

theorem SafeMove.releaseTop (p : Pocket) (s : State) : SafeMove s (s.releaseTop p) := .of_lowered (.releaseTop p s) (.releaseTop p s)

theorem SafeMove.postRequest (p : Pocket) (n : Nat) (s : State) : SafeMove s (s.postRequest p n) :=
  .of_lowered (.postRequest p n s) (.postRequest p n s)

theorem SafeMove.postIf (c : Bool) (k : EventKind) (s : State) : SafeMove s (s.postIf c k) :=
  .of_lowered (.postIf c k s) (.postIf c k s)

theorem SafeMove.meteredEvaluation (s : State) : SafeMove s s.meteredEvaluation := by
  unfold State.meteredEvaluation
  split
  · exact evaluate s
  · exact .of_lowered (.refl s) (.refl s)

/-! ## A pocket's own part replaced -/

/-- What holds of both pockets and of a pocket's new own part holds of both afterwards. -/
theorem State.forall_pocket_setPocket {Q : PocketState → Prop} {s : State} {p : Pocket} {x : PocketState}
    (hs : ∀ r, Q (s.pocket r)) (hx : Q x) (r : Pocket) : Q ((s.setPocket p x).pocket r) := by
  obtain rfl | rfl := pocket_eq_or p r
  · rwa [State.pocket_setPocket]
  · rw [State.pocket_setPocket_other]
    exact hs _

/-! ## Laws of a pocket's own part -/

/-- `Q` is a law of a pocket's own part, in a mode and at a clock: it reads of the heat stage controller SAFE alone, it does not read the
meter, it outlasts the clock, and no sound change breaks it. -/
structure OwnLaw (Q : Mode → Ticks → PocketState → Prop) : Prop where
  later : ∀ {m n k x}, n ≤ k → Q m n x → Q m k x
  heat : ∀ {m n x} {k : HeatStages}, k.safe = x.hsc.safe → Q m n x → Q m n { x with hsc := k }
  meter : ∀ {m n x} (k : PocketMeter), Q m n x → Q m n { x with meter := k }
  own : ∀ {p s x}, OwnSound p s x → Q s.mode s.now (s.pocket p) → Q s.mode s.now x

/-- Both pockets obey the law. -/
def Obeyed (Q : Mode → Ticks → PocketState → Prop) (s : State) : Prop := ∀ p, Q s.mode s.now (s.pocket p)

section
variable {Q : Mode → Ticks → PocketState → Prop}

theorem Obeyed.of_same {s t : State} (h : Obeyed Q s) (hm : t.mode = s.mode) (hn : t.now = s.now)
    (hp : ∀ p, t.pocket p = s.pocket p) : Obeyed Q t := by
  intro p
  rw [hm, hn, hp]
  exact h p

theorem Obeyed.moves (law : OwnLaw Q) {s t : State} (hm : SafeMove s t) (h : Obeyed Q s) : Obeyed Q t := by
  intro p
  obtain ⟨k, hk⟩ := hm.1.pocket p
  obtain ⟨-, hmode, hnow, -⟩ := hm.1.shared
  have hsafe : k.safe = (s.pocket p).hsc.safe := by rw [← hm.2 p, hk]
  rw [hk, hmode, hnow]
  exact law.heat hsafe (h p)

theorem Obeyed.setPocket {s : State} {p : Pocket} {x : PocketState} (h : Obeyed Q s) (hx : Q s.mode s.now x) :
    Obeyed Q (s.setPocket p x) := by
  obtain ⟨-, hmode, hnow, -⟩ := State.setPocket_shared s p x
  intro r
  rw [hmode, hnow]
  exact State.forall_pocket_setPocket h hx r

/-- A law of a pocket's own part holds through every act. -/
theorem Acts.obeyed (law : OwnLaw Q) {s t : State} (h : Acts s t) : Obeyed Q s → Obeyed Q t := by
  induction h with
  | refl s => exact id
  | trans _ _ ih jh => exact jh ∘ ih
  | clock s n hn => exact fun h p => law.later hn (h p)
  | queue s cs => exact fun h => h.of_same rfl rfl fun _ => rfl
  | port s q x _ => exact fun h => h.of_same (by simp) (by simp) (by simp)
  | post s k => exact fun h => h.of_same rfl rfl (by simp)
  | own s p x hx _ => exact fun h => h.setPocket (law.own hx (h p))
  | unheated s p x hx => exact fun h => (h.setPocket (law.own hx.toOwnSound (h p))).moves law (.releaseAll p _)
  | recapped s p x hx => exact fun h => (h.setPocket (law.own hx.toOwnSound (h p))).moves law (.applyCap p _)
  | remove s p => exact .moves law (.removeAll p s)
  | evaluate s => exact .moves law (.evaluate s)
  | withdraw s p => exact .moves law (.withdraw p s)
  | releaseTop s p => exact .moves law (.releaseTop p s)
  | postRequest s p n => exact .moves law (.postRequest p n s)
  | levels s a lines _ _ _ _ => exact fun h => h.of_same rfl rfl fun _ => rfl
  | source s a c k _ _ _ =>
    exact fun h => (h.of_same (t := { s with sa := a }) rfl rfl fun _ => rfl).moves law ((SafeMove.postIf c k _).trans (.evaluate _))
  | store s f _ _ => exact fun h => h.of_same rfl rfl fun _ => rfl
  | storeEvaluate s f _ => exact fun h => (h.of_same (t := { s with ps := f }) rfl rfl fun _ => rfl).moves law (.evaluate _)
  | meter s m _ => exact fun h => h.of_same rfl rfl fun _ => rfl
  | condition s m c k =>
    exact fun h => (h.of_same (t := { s with sm := m }) rfl rfl fun _ => rfl).moves law
      ((SafeMove.postIf c k _).trans ((SafeMove.followE .A _).trans (.followE .B _)))
  | readings s f g _ ih =>
    exact fun h => Obeyed.moves law (.meteredEvaluation _) (ih ((h.setPocket (law.meter _ (h .A))).setPocket (law.meter _ (h .B))))

end

theorem LockoutAt.later {n k : Ticks} {d : DrumMotion} (hk : n ≤ k) (h : LockoutAt n d) : LockoutAt k d :=
  ⟨fun hr => (h.1 hr).trans hk, h.2⟩

theorem ownLaw_lockout : OwnLaw (fun _ n x => LockoutAt n x.dmc) where
  later := LockoutAt.later
  heat _ h := h
  meter _ h := h
  own hx := hx.lockout

theorem ownLaw_buffers : OwnLaw (fun _ _ x => x.sb.Sound) where
  later _ h := h
  heat _ h := h
  meter _ h := h
  own hx := hx.buffers

theorem ownLaw_faults : OwnLaw (fun m _ x => FaultsAt m x) where
  later _ h := h
  heat hk h := by
    unfold FaultsAt at *
    rwa [hk]
  meter _ h := h
  own hx := hx.faults

/-! ## Ports -/

/-- A post leaves a port sound: what enters the latch is what the mask admits (R181). -/
theorem PortState.Sound.post {x : PortState} (h : x.Sound) (k : EventKind) : (x.post k).Sound := by
  obtain ⟨hreply, hlatch, hmask⟩ := h
  refine ⟨hreply, ?_, hmask⟩
  simp only [PortState.post]
  rw [← hlatch]
  apply BitVec.eq_of_getLsbD_eq
  intro i _
  simp only [BitVec.getLsbD_and, BitVec.getLsbD_or]
  cases x.latch.getLsbD i <;> cases (admitted x.mask).getLsbD i <;> simp

theorem PortsHold.of_same {s t : State} (h : PortsHold s) (hp : ∀ q, t.port q = s.port q) : PortsHold t := by
  rw [portsHold_iff] at h ⊢
  intro q
  rw [hp q]
  exact h q

theorem PortsHold.post {s : State} (h : PortsHold s) (k : EventKind) : PortsHold (s.post k) := by
  rw [portsHold_iff] at h ⊢
  intro q
  rw [State.port_post]
  exact (h q).post k

theorem PortsHold.postIf {s : State} (h : PortsHold s) (c : Bool) (k : EventKind) : PortsHold (s.postIf c k) := by
  cases c
  · exact h
  · exact h.post k

theorem PortsHold.onHsc {s : State} (h : PortsHold s) (p : Pocket) (f : HeatStages → HeatStages) : PortsHold (s.onHsc p f) :=
  h.of_same (by simp)

theorem PortsHold.setPocket {s : State} (h : PortsHold s) (p : Pocket) (x : PocketState) : PortsHold (s.setPocket p x) :=
  h.of_same (by simp)

theorem State.port_withLists (s : State) (gs : List Grant) (rs : List StageRequest) (q : Port) :
    (s.withLists gs rs).port q = s.port q := by cases q <;> rfl

theorem State.port_tellGranted (s : State) (p : Pocket) (n : Nat) (q : Port) : (s.tellGranted p n).port q = s.port q := by
  obtain ⟨h, e⟩ := s.tellGranted_own p n
  rw [e, State.port_onHsc]

theorem PortsHold.withLists {s : State} (h : PortsHold s) (gs : List Grant) (rs : List StageRequest) : PortsHold (s.withLists gs rs) :=
  h.of_same (State.port_withLists s gs rs)

theorem PortsHold.tellGranted {s : State} (h : PortsHold s) (p : Pocket) (n : Nat) : PortsHold (s.tellGranted p n) :=
  h.of_same (State.port_tellGranted s p n)

theorem PortsHold.ite {s t : State} {c : Prop} [Decidable c] (h : PortsHold s) (k : PortsHold t) : PortsHold (if c then s else t) := by
  split <;> assumption

theorem PortsHold.evaluate {s : State} (h : PortsHold s) : PortsHold s.evaluate :=
  ((((h.withLists _ _).tellGranted .A _).tellGranted .B _).postIf _ _).postIf _ _

theorem PortsHold.removeAll {s : State} (h : PortsHold s) (p : Pocket) : PortsHold (s.removeAll p) :=
  (h.withLists _ _).tellGranted p _

theorem PortsHold.withdraw {s : State} (h : PortsHold s) (p : Pocket) : PortsHold (s.withdraw p) :=
  .ite (h.withLists _ _).evaluate h

theorem PortsHold.applyCap {s : State} (h : PortsHold s) (p : Pocket) : PortsHold (s.applyCap p) :=
  .ite ((h.withLists _ _).tellGranted p _).evaluate (.ite (h.withdraw p) h)

theorem PortsHold.releaseTop {s : State} (h : PortsHold s) (p : Pocket) : PortsHold (s.releaseTop p) :=
  .ite h (PortsHold.evaluate (((h.withLists _ _).tellGranted p _).onHsc p _))

theorem PortsHold.postRequest {s : State} (h : PortsHold s) (p : Pocket) (n : Nat) : PortsHold (s.postRequest p n) :=
  .ite (h.withLists _ _).evaluate h

theorem PortsHold.followE {s : State} (h : PortsHold s) (p : Pocket) : PortsHold (s.followE p) :=
  .ite ((h.onHsc p _).onHsc p _) (h.onHsc p _)

/-- The ports' law holds through every act. -/
theorem Acts.ports {s t : State} (h : Acts s t) : PortsHold s → PortsHold t := by
  induction h with
  | refl s => exact id
  | trans _ _ ih jh => exact jh ∘ ih
  | clock s n _ => exact fun h => h
  | queue s cs => exact fun h => h
  | port s q x hx =>
    intro h r
    by_cases hr : r = q
    · subst hr
      rw [State.port_setPort]
      exact hx (h r)
    · rw [State.port_setPort_other s q r x hr]
      exact h r
  | post s k => exact fun h => h.post k
  | own s p x _ _ => exact fun h => h.setPocket p x
  | unheated s p x _ => exact fun h => ((h.setPocket p x).removeAll p).evaluate
  | recapped s p x _ => exact fun h => (h.setPocket p x).applyCap p
  | remove s p => exact fun h => h.removeAll p
  | evaluate s => exact fun h => h.evaluate
  | withdraw s p => exact fun h => h.withdraw p
  | releaseTop s p => exact fun h => h.releaseTop p
  | postRequest s p n => exact fun h => h.postRequest p n
  | levels s a lines _ _ _ _ => exact fun h => h
  | source s a c k _ _ _ => exact fun h => (PortsHold.postIf (s := { s with sa := a }) h c k).evaluate
  | store s f _ _ => exact fun h => h
  | storeEvaluate s f _ => exact fun h => PortsHold.evaluate (s := { s with ps := f }) h
  | meter s m _ => exact fun h => h
  | condition s m c k => exact fun h => ((PortsHold.postIf (s := { s with sm := m }) h c k).followE .A).followE .B
  | readings s f g _ ih => exact fun h => .ite (ih ((h.setPocket .A _).setPocket .B _)).evaluate (ih ((h.setPocket .A _).setPocket .B _))

/-- An act keeps the mode. -/
theorem Acts.mode {s t : State} (h : Acts s t) : t.mode = s.mode := by
  induction h with
  | refl s => rfl
  | trans _ _ ih jh => exact jh.trans ih
  | clock s n _ => rfl
  | queue s cs => rfl
  | port s q x _ => simp
  | post s k => rfl
  | own s p x _ _ => simp
  | unheated s p x _ => simpa using (MovesTo.releaseAll p (s.setPocket p x)).shared.2.1
  | recapped s p x _ => simpa using (MovesTo.applyCap p (s.setPocket p x)).shared.2.1
  | remove s p => exact (MovesTo.removeAll p s).shared.2.1
  | evaluate s => exact (MovesTo.evaluate s).shared.2.1
  | withdraw s p => exact (MovesTo.withdraw p s).shared.2.1
  | releaseTop s p => exact (MovesTo.releaseTop p s).shared.2.1
  | postRequest s p n => exact (MovesTo.postRequest p n s).shared.2.1
  | levels s a lines _ _ _ _ => rfl
  | source s a c k _ _ _ => exact ((MovesTo.postIf c k { s with sa := a }).trans (MovesTo.evaluate _)).shared.2.1
  | store s f _ _ => rfl
  | storeEvaluate s f _ => exact (MovesTo.evaluate { s with ps := f }).shared.2.1
  | meter s m _ => rfl
  | condition s m c k =>
    exact ((MovesTo.postIf c k { s with sm := m }).trans ((MovesTo.followE .A _).trans (MovesTo.followE .B _))).shared.2.1
  | readings s f g _ ih => exact (MovesTo.meteredEvaluation _).shared.2.1.trans (ih.trans (by simp))

end Sys2Proof.Machine


/-! PROOF. Heat within what is permitted through every act (O56): a loss lowers E to its target at once, and nothing of an evaluation
raises it (R105, R107, R108). -/

namespace Sys2Proof.Machine

/-! ## What the target of E is formed of (R107) -/

/-- The target of E were `n` stages granted. -/
def State.targetWith (s : State) (p : Pocket) (n : Nat) : Nat := if s.heatPermitted p then min (s.pocket p).hsc.level n else 0

theorem State.heatTarget_eq_targetWith (s : State) (p : Pocket) : s.heatTarget p = s.targetWith p (s.granted p) := rfl

theorem State.targetWith_mono (s : State) (p : Pocket) {n k : Nat} (h : n ≤ k) : s.targetWith p n ≤ s.targetWith p k := by
  unfold State.targetWith
  split <;> omega

/-- The interlocks of a pocket read its own part and the supply condition alone. -/
theorem State.heatPermitted_congr {s t : State} {p : Pocket} {k : HeatStages} (hsm : t.sm.condition = s.sm.condition)
    (hp : t.pocket p = { s.pocket p with hsc := k }) (hrecovery : k.recoveryDue = (s.pocket p).hsc.recoveryDue)
    (hsafe : k.safe = (s.pocket p).hsc.safe) : t.heatPermitted p = s.heatPermitted p := by
  simp only [State.heatPermitted, State.interlocks, State.heating, State.onHeatEntry, State.entry, hp, hsm, hrecovery, hsafe]

theorem State.heatPermitted_of_lowered {s t : State} (hm : MovesTo s t) (hl : HeatLowered s t) (p : Pocket) :
    t.heatPermitted p = s.heatPermitted p := by
  obtain ⟨k, hk⟩ := hm.pocket p
  have hrecovery : (t.pocket p).hsc.recoveryDue = (s.pocket p).hsc.recoveryDue := by rw [(hl p).2.2]
  have hsafe : (t.pocket p).hsc.safe = (s.pocket p).hsc.safe := by rw [(hl p).2.2]
  rw [hk] at hrecovery hsafe
  exact State.heatPermitted_congr (by rw [hm.shared.2.2.2.2.2.1]) hk hrecovery hsafe

/-- E stays within its target where its pocket, its granted count and the supply condition stand. -/
theorem HeatAt.of_same {s t : State} {p : Pocket} (h : HeatAt s p) (hp : t.pocket p = s.pocket p)
    (hg : t.granted p = s.granted p) (hsm : t.sm.condition = s.sm.condition) : HeatAt t p := by
  have hperm : t.heatPermitted p = s.heatPermitted p := State.heatPermitted_congr hsm (hp.trans rfl) rfl rfl
  unfold HeatAt State.heatTarget at *
  rwa [hperm, hp, hg]

/-! ## Changes of the account -/

@[simp] theorem State.withLists_granted (s : State) (gs : List Grant) (rs : List StageRequest) (p : Pocket) :
    (s.withLists gs rs).granted p = (grantsOf gs p).length := rfl

theorem State.granted_onHsc (s : State) (p r : Pocket) (f : HeatStages → HeatStages) : (s.onHsc p f).granted r = s.granted r :=
  State.granted_setPocket s p r _

theorem State.granted_tellGranted (s : State) (p r : Pocket) (n : Nat) : (s.tellGranted p n).granted r = s.granted r := by
  simp only [State.granted, State.tellGranted_sa]

/-- A fall of E leaves the target where it is. -/
theorem State.heatTarget_dropE (s : State) (p : Pocket) : (s.dropE p).heatTarget p = s.heatTarget p := by
  have hperm := State.heatPermitted_of_lowered (.dropE p s) (.dropE p s) p
  have hg : (s.dropE p).granted p = s.granted p := State.granted_onHsc ..
  have hl : ((s.dropE p).pocket p).hsc.level = (s.pocket p).hsc.level := by simp [State.dropE]
  rw [State.heatTarget, State.heatTarget, hperm, hg, hl]

/-- After its fall E is within its target. -/
theorem heatAt_dropE (s : State) (p : Pocket) : HeatAt (s.dropE p) p := by
  unfold HeatAt
  rw [State.heatTarget_dropE, State.dropE_energized]
  exact Nat.min_le_right _ _

theorem HeatAt.riseE {s : State} {p : Pocket} (h : HeatAt s p) : HeatAt (s.riseE p) p := by
  unfold State.riseE
  split
  · rename_i hlow
    simp only [Bool.and_eq_true, decide_eq_true_eq] at hlow
    have hperm : ∀ k : HeatStages, k.recoveryDue = (s.pocket p).hsc.recoveryDue → k.safe = (s.pocket p).hsc.safe →
        (s.onHsc p (fun _ => k)).heatPermitted p = s.heatPermitted p :=
      fun k => State.heatPermitted_congr (by simp) (State.pocket_onHsc ..)
    have htarget : (s.onHsc p (fun h => { h with energized := h.energized + 1, lastRise := some s.now, lastChange := s.now })).heatTarget p
        = s.heatTarget p := by
      have := hperm { (s.pocket p).hsc with energized := (s.pocket p).hsc.energized + 1, lastRise := some s.now, lastChange := s.now } rfl rfl
      rw [State.heatTarget, State.heatTarget, State.granted_onHsc, State.pocket_onHsc]
      exact congrArg (fun b : Bool => if b = true then min (s.pocket p).hsc.level (s.granted p) else 0) this
    unfold HeatAt
    rw [htarget, State.pocket_onHsc]
    exact hlow.1
  · exact h

/-- E that follows its target is within it (R108). -/
theorem heatAt_followE (s : State) (p : Pocket) : HeatAt (s.followE p) p := (heatAt_dropE s p).riseE

/-- A heat stage controller told of its count has E within its target, where E was within the target of the count before (R105). -/
theorem heatAt_tellGranted {s : State} {p : Pocket} {n : Nat} (h : (s.pocket p).hsc.energized ≤ s.targetWith p n) :
    HeatAt (s.tellGranted p n) p := by
  by_cases hloss : s.granted p < n
  · have e : ∃ t : State, s.tellGranted p n = t.dropE p := by
      unfold State.tellGranted
      dsimp only
      rw [if_pos hloss]
      exact ⟨_, rfl⟩
    obtain ⟨t, e⟩ := e
    rw [e]
    exact heatAt_dropE t p
  · have hperm := State.heatPermitted_of_lowered (.tellGranted p n s) (.tellGranted p n s) p
    have hlevel := (s.tellGranted_level p n).1
    rw [if_neg hloss] at hlevel
    have he := (HeatLowered.tellGranted p n s p).1
    have hmono := s.targetWith_mono p (Nat.le_of_not_lt hloss)
    have htarget : (s.tellGranted p n).heatTarget p = s.targetWith p (s.granted p) := by
      rw [State.heatTarget, hperm, hlevel, State.granted_tellGranted]
      rfl
    unfold HeatAt
    omega

/-- What a pocket is told leaves its neighbour's heat alone. -/
theorem HeatAt.tellGranted_other {s : State} {p : Pocket} (h : HeatAt s (otherPocket p)) (n : Nat) :
    HeatAt (s.tellGranted p n) (otherPocket p) :=
  h.of_same (s.tellGranted_level p n).2 (s.granted_tellGranted p _ n) (by rw [(MovesTo.tellGranted p n s).shared.2.2.2.2.2.1])

/-- Other lists and the pocket told of them leave E within its target. -/
theorem HeatAt.tellGranted_withLists {s : State} {p : Pocket} (h : HeatAt s p) (gs : List Grant) (rs : List StageRequest) :
    HeatAt ((s.withLists gs rs).tellGranted p (s.granted p)) p := by
  refine heatAt_tellGranted ?_
  have hperm : (s.withLists gs rs).heatPermitted p = s.heatPermitted p :=
    State.heatPermitted_congr rfl (State.pocket_withLists ..) rfl rfl
  rw [State.targetWith, hperm, State.pocket_withLists]
  exact h

theorem HeatAllowed.heatAt {s : State} (h : HeatAllowed s) (p : Pocket) : HeatAt s p := h p

/-- Both pockets told of their counts on other lists. -/
theorem HeatAllowed.tellBoth {s : State} (h : HeatAllowed s) (gs : List Grant) (rs : List StageRequest) :
    HeatAllowed (((s.withLists gs rs).tellGranted .A (s.granted .A)).tellGranted .B (s.granted .B)) := by
  have hA := (h.heatAt .A).tellGranted_withLists gs rs
  intro p
  cases p
  · exact HeatAt.tellGranted_other (p := .B) hA _
  · refine heatAt_tellGranted ?_
    have hpocket := ((s.withLists gs rs).tellGranted_level .A (s.granted .A)).2
    simp only [otherPocket, State.pocket_withLists] at hpocket
    have hperm := State.heatPermitted_of_lowered
      ((MovesTo.withLists gs rs s).trans (.tellGranted .A (s.granted .A) _))
      ((HeatLowered.withLists gs rs s).trans (.tellGranted .A (s.granted .A) _)) .B
    rw [State.targetWith, hperm, hpocket]
    exact h .B

theorem HeatAllowed.of_same {s t : State} (h : HeatAllowed s) (hp : ∀ p, t.pocket p = s.pocket p)
    (hg : t.sa.grants = s.sa.grants) (hsm : t.sm.condition = s.sm.condition) : HeatAllowed t :=
  fun p => HeatAt.of_same (h p) (hp p) (by simp only [State.granted, hg]) hsm

theorem HeatAllowed.postIf {s : State} (h : HeatAllowed s) (c : Bool) (k : EventKind) : HeatAllowed (s.postIf c k) := by
  cases c
  · exact h
  · exact h.of_same (s.pocket_post k) rfl rfl

/-- An evaluation leaves E within its target (R105, R131). -/
theorem HeatAllowed.evaluate {s : State} (h : HeatAllowed s) : HeatAllowed s.evaluate :=
  ((h.tellBoth _ _).postIf _ _).postIf _ _

/-- A pocket told of its count on lists that leave the neighbour's entries. -/
theorem HeatAllowed.tellOne {s : State} (h : HeatAllowed s) (p : Pocket) (gs : List Grant) (rs : List StageRequest)
    (hg : grantsOf gs (otherPocket p) = grantsOf s.sa.grants (otherPocket p)) :
    HeatAllowed ((s.withLists gs rs).tellGranted p (s.granted p)) := by
  intro r
  obtain rfl | rfl := pocket_eq_or p r
  · exact (h.heatAt r).tellGranted_withLists gs rs
  · have hother : HeatAt (s.withLists gs rs) (otherPocket p) :=
      (h.heatAt _).of_same (State.pocket_withLists ..) (congrArg List.length hg) rfl
    exact hother.tellGranted_other _

theorem grantsOf_filter_ne (gs : List Grant) (p : Pocket) :
    grantsOf (gs.filter (fun g => g.pocket != p)) (otherPocket p) = grantsOf gs (otherPocket p) := by
  unfold grantsOf
  rw [List.filter_filter]
  congr 1
  funext g
  cases g.pocket <;> cases p <;> rfl

theorem grantsOf_filter_cap (gs : List Grant) (p : Pocket) (cap : Nat) :
    grantsOf (gs.filter (fun g => g.pocket != p || g.stage ≤ cap)) (otherPocket p) = grantsOf gs (otherPocket p) := by
  unfold grantsOf
  rw [List.filter_filter]
  congr 1
  funext g
  cases g.pocket <;> cases p <;> simp [otherPocket]

/-- A pocket's newest entry removed leaves the neighbour's entries. -/
theorem grantsOf_withoutNewest_other (gs : List Grant) (p : Pocket) :
    grantsOf (withoutNewest gs p) (otherPocket p) = grantsOf gs (otherPocket p) := by
  have hfilter : ∀ l : List Grant, (l.eraseP (fun g => g.pocket == p)).filter (fun g => g.pocket == otherPocket p)
      = l.filter (fun g => g.pocket == otherPocket p) := by
    intro l
    induction l with
    | nil => rfl
    | cons g l ih =>
      by_cases hg : g.pocket = p
      · have hother : (g.pocket == otherPocket p) = false := by simp [hg]
        simp [hg]
      · simp [hg, List.filter_cons, ih]
  simp only [grantsOf, withoutNewest, List.filter_reverse, hfilter, List.reverse_reverse]

theorem HeatAllowed.removeAll {s : State} (h : HeatAllowed s) (p : Pocket) : HeatAllowed (s.removeAll p) :=
  h.tellOne p _ _ (grantsOf_filter_ne _ p)

theorem HeatAllowed.relisted {s : State} (h : HeatAllowed s) (rs : List StageRequest) : HeatAllowed (s.withLists s.sa.grants rs) :=
  h.of_same (fun _ => State.pocket_withLists ..) rfl rfl

theorem HeatAllowed.withdraw {s : State} (h : HeatAllowed s) (p : Pocket) : HeatAllowed (s.withdraw p) := by
  unfold State.withdraw
  split
  · exact (h.relisted _).evaluate
  · exact h

theorem HeatAllowed.applyCap {s : State} (h : HeatAllowed s) (p : Pocket) : HeatAllowed (s.applyCap p) := by
  unfold State.applyCap
  dsimp only
  split
  · exact (h.tellOne p _ _ (grantsOf_filter_cap _ p _)).evaluate
  · split
    · exact h.withdraw p
    · exact h

theorem HeatAllowed.postRequest {s : State} (h : HeatAllowed s) (p : Pocket) (n : Nat) : HeatAllowed (s.postRequest p n) := by
  unfold State.postRequest
  split
  · exact (h.relisted _).evaluate
  · exact h

/-- The release hold considered afresh leaves L, E and the interlocks. -/
theorem HeatAllowed.considerHold {s : State} (h : HeatAllowed s) (p : Pocket) (c : Bool) : HeatAllowed (s.considerHold p c) := by
  intro r
  have hperm := State.heatPermitted_of_lowered (.considerHold p c s) (.considerHold p c s) r
  have hg : (s.considerHold p c).granted r = s.granted r := State.granted_onHsc ..
  have hsame : ((s.considerHold p c).pocket r).hsc.level = (s.pocket r).hsc.level
      ∧ ((s.considerHold p c).pocket r).hsc.energized = (s.pocket r).hsc.energized := by
    unfold State.considerHold
    rw [State.pocket_onHsc_cases]
    split_ifs <;> exact ⟨rfl, rfl⟩
  have hr := h r
  rw [State.heatTarget, hperm, hg, hsame.1, hsame.2]
  exact hr

theorem HeatAllowed.releaseTop {s : State} (h : HeatAllowed s) (p : Pocket) : HeatAllowed (s.releaseTop p) := by
  unfold State.releaseTop
  split
  · exact h
  · exact ((h.tellOne p _ _ (grantsOf_withoutNewest_other _ p)).considerHold p true).evaluate

/-- E that follows its target leaves the neighbour's heat. -/
theorem HeatAt.followE_other {s : State} {p : Pocket} (h : HeatAt s (otherPocket p)) : HeatAt (s.followE p) (otherPocket p) := by
  have hp : (s.followE p).pocket (otherPocket p) = s.pocket (otherPocket p) := by
    unfold State.followE State.riseE
    split <;> simp [State.dropE]
  have hm := MovesTo.followE p s
  have hg : (s.followE p).granted (otherPocket p) = s.granted (otherPocket p) := by
    unfold State.followE State.riseE
    split <;> simp [State.dropE, State.granted]
  exact h.of_same hp hg (by rw [hm.shared.2.2.2.2.2.1])

/-- Both E following their targets are within them. -/
theorem heatAllowed_followBoth (s : State) : HeatAllowed ((s.followE .A).followE .B) := by
  intro p
  cases p
  · exact HeatAt.followE_other (p := .B) (heatAt_followE s .A)
  · exact heatAt_followE _ .B

theorem HeatAllowed.setPocket {s : State} {p : Pocket} {x : PocketState} (h : HeatAllowed s) (hx : HeatAt (s.setPocket p x) p) :
    HeatAllowed (s.setPocket p x) := by
  intro r
  obtain rfl | rfl := pocket_eq_or p r
  · exact hx
  · rw [State.heatTarget_setPocket_other, State.pocket_setPocket_other]
    exact h _

theorem HeatAllowed.onMeter {s : State} (h : HeatAllowed s) (p : Pocket) (f : PocketMeter → PocketMeter) :
    HeatAllowed (s.onMeter p f) := by
  refine h.setPocket ?_
  have hp := h p
  cases p <;> exact hp

/-- Heat within what is permitted holds through every act. -/
theorem Acts.heat {s t : State} (h : Acts s t) : FaultsAgree s → HeatAllowed s → HeatAllowed t := by
  induction h with
  | refl s => exact fun _ h => h
  | trans k _ ih jh => exact fun f h => jh (k.obeyed ownLaw_faults f) (ih f h)
  | clock s n _ => exact fun _ h => h
  | queue s cs => exact fun _ h => h
  | port s q x _ => exact fun _ h => h.of_same (by simp) (by simp) (by simp)
  | post s k => exact fun _ h => h.of_same (by simp) rfl rfl
  | own s p x hx _ => exact fun f h => h.setPocket (hx.heat (f p) (h p))
  | unheated s p x hx => exact fun f h => ((h.setPocket (hx.heat (f p) (h p))).removeAll p).evaluate
  | recapped s p x hx => exact fun f h => (h.setPocket (hx.heat (f p) (h p))).applyCap p
  | remove s p => exact fun _ h => h.removeAll p
  | evaluate s => exact fun _ h => h.evaluate
  | withdraw s p => exact fun _ h => h.withdraw p
  | releaseTop s p => exact fun _ h => h.releaseTop p
  | postRequest s p n => exact fun _ h => h.postRequest p n
  | levels s a lines hg _ _ _ => exact fun _ h => h.of_same (fun _ => rfl) hg rfl
  | source s a c k hg _ _ =>
    exact fun _ h => ((HeatAllowed.of_same (t := { s with sa := a }) h (fun _ => rfl) hg rfl).postIf c k).evaluate
  | store s f _ _ => exact fun _ h => h.of_same (fun _ => rfl) rfl rfl
  | storeEvaluate s f _ => exact fun _ h => (HeatAllowed.of_same (t := { s with ps := f }) h (fun _ => rfl) rfl rfl).evaluate
  | meter s m hm => exact fun _ h => h.of_same (fun _ => rfl) rfl hm
  | condition s m c k => exact fun _ _ => heatAllowed_followBoth _
  | readings s f g k ih =>
    intro hf h
    have hmeter : FaultsAgree ((s.onMeter .A f).onMeter .B g) := by
      intro p
      cases p
      · exact hf .A
      · exact hf .B
    have ht := ih hmeter ((h.onMeter .A f).onMeter .B g)
    unfold State.meteredEvaluation
    split
    · exact ht.evaluate
    · exact ht

end Sys2Proof.Machine


/-! PROOF. The two lists of the account under an evaluation (R126, R127, R131 to R136): a pocket's entries stay its stages 1..g with a
request for stage g + 1, and committed power comes within the ceiling. -/

namespace Sys2Proof.Machine

/-! ## A pocket's entries and requests -/

/-- A pocket's requests on a pending list. -/
def requestsIn (rs : List StageRequest) (p : Pocket) : List StageRequest := rs.filter (fun r => r.pocket == p)

theorem mem_requestsIn {rs : List StageRequest} {p : Pocket} {r : StageRequest} : r ∈ requestsIn rs p ↔ r ∈ rs ∧ r.pocket = p := by
  simp [requestsIn]

@[simp] theorem requestsIn_withoutRequest (rs : List StageRequest) (p : Pocket) : requestsIn (withoutRequest rs p) p = [] := by
  simp [requestsIn, withoutRequest]

theorem requestsIn_withoutRequest_of_ne (rs : List StageRequest) {p r : Pocket} (h : r ≠ p) :
    requestsIn (withoutRequest rs r) p = requestsIn rs p := by
  unfold requestsIn withoutRequest
  rw [List.filter_filter]
  congr 1
  funext q
  cases p <;> cases r <;> cases q.pocket <;> first | rfl | exact absurd rfl h

theorem grantsOf_append (gs hs : List Grant) (p : Pocket) : grantsOf (gs ++ hs) p = grantsOf gs p ++ grantsOf hs p :=
  List.filter_append ..

/-- A pocket's newest entry is the last of its entries (R126). -/
theorem grantsOf_withoutNewest (gs : List Grant) (p : Pocket) : grantsOf (withoutNewest gs p) p = (grantsOf gs p).dropLast := by
  have hfilter : ∀ l : List Grant, (l.eraseP (fun g => g.pocket == p)).filter (fun g => g.pocket == p)
      = (l.filter (fun g => g.pocket == p)).tail := by
    intro l
    induction l with
    | nil => rfl
    | cons g l ih => by_cases hg : g.pocket = p <;> simp [hg, ih]
  simp only [grantsOf, withoutNewest, List.filter_reverse, hfilter, List.tail_reverse, List.reverse_reverse]

theorem grantsOf_withoutNewest_of_ne (gs : List Grant) {p r : Pocket} (h : r ≠ p) :
    grantsOf (withoutNewest gs r) p = grantsOf gs p := by
  obtain rfl | rfl := pocket_eq_or r p
  · exact absurd rfl h
  · exact grantsOf_withoutNewest_other gs r

/-- The law of a pocket's entries and requests on the two lists (R101, R126, R127): `cap` is its effective cap, and with `idle` it has
neither. -/
structure Allotment (cap : Nat) (idle : Prop) (p : Pocket) (gs : List Grant) (rs : List StageRequest) : Prop where
  stages : (grantsOf gs p).map (·.stage) = (List.range (grantsOf gs p).length).map (· + 1)
  within : (grantsOf gs p).length ≤ cap
  single : (requestsIn rs p).length ≤ 1
  next : ∀ r ∈ requestsIn rs p, r.stage = (grantsOf gs p).length + 1 ∧ r.stage ≤ cap
  idle : idle → (grantsOf gs p).length = 0 ∧ requestsIn rs p = []

theorem allotmentHolds_iff (s : State) (p : Pocket) :
    AllotmentHolds s p ↔
      Allotment (s.effectiveCap p) (s.heating p = false ∨ (s.pocket p).shedDue ≠ none) p s.sa.grants s.sa.requests
      ∧ (s.pocket p).hsc.level ≤ s.granted p :=
  ⟨fun ⟨h1, h2, h3, h4, h5, h6⟩ => ⟨⟨h1, h2, h3, h4, h6⟩, h5⟩, fun ⟨⟨h1, h2, h3, h4, h6⟩, h5⟩ => ⟨h1, h2, h3, h4, h5, h6⟩⟩

section
variable {cap : Nat} {idle : Prop} {p : Pocket} {gs : List Grant} {rs : List StageRequest}

/-- The law reads a pocket's own entries and requests. -/
theorem Allotment.congr (h : Allotment cap idle p gs rs) {gs' : List Grant} {rs' : List StageRequest}
    (hg : grantsOf gs' p = grantsOf gs p) (hr : requestsIn rs' p = requestsIn rs p) : Allotment cap idle p gs' rs' := by
  obtain ⟨h1, h2, h3, h4, h5⟩ := h
  exact ⟨by rw [hg]; exact h1, by rw [hg]; exact h2, by rw [hr]; exact h3, by rw [hg, hr]; exact h4, by rw [hg, hr]; exact h5⟩

/-- A pocket without entries and requests obeys the law under every cap. -/
theorem Allotment.of_empty (hg : grantsOf gs p = []) (hr : requestsIn rs p = []) : Allotment cap idle p gs rs := by
  constructor <;> simp [hg, hr]

/-- Entries up to a stage and no request obey the law. -/
theorem Allotment.of_take (h : Allotment cap idle p gs rs) {gs' : List Grant} {rs' : List StageRequest} {n cap' : Nat}
    (hg : grantsOf gs' p = (grantsOf gs p).take n) (hr : requestsIn rs' p = []) (hn : n ≤ cap') : Allotment cap' idle p gs' rs' := by
  refine ⟨?_, ?_, by simp [hr], by simp [hr], fun hi => ?_⟩
  · rw [hg, List.map_take, h.stages, ← List.map_take, List.take_range, List.length_take]
  · rw [hg, List.length_take]
    omega
  · have := (h.idle hi).1
    rw [hg, List.length_take]
    exact ⟨by omega, hr⟩

/-- The newest entry and the request lost (R134, R135, R136). -/
theorem Allotment.lose (h : Allotment cap idle p gs rs) (r : Pocket) :
    Allotment cap idle p (withoutNewest gs r) (withoutRequest rs r) := by
  by_cases hr : r = p
  · subst hr
    refine h.of_take (n := (grantsOf gs r).length - 1) ?_ (by simp) (by have := h.within; omega)
    rw [grantsOf_withoutNewest, List.dropLast_eq_take]
  · exact h.congr (grantsOf_withoutNewest_of_ne gs hr) (requestsIn_withoutRequest_of_ne rs hr)

/-- A request granted (R126, R133). -/
theorem Allotment.grant (h : Allotment cap idle p gs rs) {r : StageRequest} (hr : r ∈ rs) (w : Nat) :
    Allotment cap idle p (gs ++ [{ pocket := r.pocket, stage := r.stage, rating := w }]) (withoutRequest rs r.pocket) := by
  by_cases hp : r.pocket = p
  · subst hp
    obtain ⟨hstage, hcap⟩ := h.next r (mem_requestsIn.mpr ⟨hr, rfl⟩)
    have hg : grantsOf (gs ++ [{ pocket := r.pocket, stage := r.stage, rating := w }]) r.pocket
        = grantsOf gs r.pocket ++ [{ pocket := r.pocket, stage := r.stage, rating := w }] := by
      rw [grantsOf_append]
      simp [grantsOf]
    refine ⟨?_, ?_, by simp, by simp, fun hi => ?_⟩
    · rw [hg]
      simp [h.stages, List.range_succ, hstage]
    · rw [hg]
      simp
      omega
    · have hnone := (h.idle hi).2
      have hmem := mem_requestsIn.mpr ⟨hr, rfl⟩
      rw [hnone] at hmem
      exact absurd hmem List.not_mem_nil
  · refine h.congr ?_ (requestsIn_withoutRequest_of_ne rs hp)
    rw [grantsOf_append]
    simp [grantsOf, hp]

theorem State.shedLoop_allotment (s : State) (n : Nat) (a : Account) (h : Allotment cap idle p a.grants a.requests) :
    Allotment cap idle p (s.shedLoop n a).grants (s.shedLoop n a).requests := by
  induction n generalizing a with
  | zero => exact h
  | succ n ih =>
    unfold State.shedLoop
    split
    · split
      · exact ih _ (h.lose _)
      · exact h
    · exact h

theorem State.reclaimLoop_allotment (s : State) (r : StageRequest) (n : Nat) (a : Account)
    (h : Allotment cap idle p a.grants a.requests) :
    Allotment cap idle p (s.reclaimLoop r n a).grants (s.reclaimLoop r n a).requests := by
  induction n generalizing a with
  | zero => exact h
  | succ n ih =>
    unfold State.reclaimLoop
    split
    · exact h
    · exact ih _ (h.lose _)

/-- A reclaim keeps the request for which it is made. -/
theorem State.mem_reclaimLoop_requests (s : State) {r : StageRequest} (n : Nat) {a : Account} (h : r ∈ a.requests) :
    r ∈ (s.reclaimLoop r n a).requests := by
  induction n generalizing a with
  | zero => exact h
  | succ n ih =>
    unfold State.reclaimLoop
    split
    · exact h
    · exact ih (List.mem_filter.mpr ⟨h, by simp⟩)

theorem State.serveLoop_allotment (s : State) (n : Nat) (a : Account) (h : Allotment cap idle p a.grants a.requests) :
    Allotment cap idle p (s.serveLoop n a).grants (s.serveLoop n a).requests := by
  induction n generalizing a with
  | zero => exact h
  | succ n ih =>
    unfold State.serveLoop
    split
    · exact h
    · rename_i r hr
      have hmem := s.nextServed_mem _ _ hr
      split
      · exact ih _ (h.grant hmem _)
      · split
        · exact ih _ ((s.reclaimLoop_allotment r _ a h).grant (s.mem_reclaimLoop_requests _ hmem) _)
        · exact h

/-- An evaluation keeps the law of each pocket's entries and requests (R131). -/
theorem State.evaluated_allotment (s : State) (h : Allotment cap idle p s.sa.grants s.sa.requests) :
    Allotment cap idle p s.evaluated.grants s.evaluated.requests :=
  s.serveLoop_allotment _ _ (s.shedLoop_allotment _ _ h)

end

/-! ## Committed power (R128, R129) -/

theorem ratedSum_sublist {gs hs : List Grant} (h : gs.Sublist hs) : ratedSum gs ≤ ratedSum hs :=
  (h.map _).sum_le_sum (fun _ _ => Nat.zero_le _)

theorem ratedSum_append (gs hs : List Grant) : ratedSum (gs ++ hs) = ratedSum gs + ratedSum hs := by
  simp [ratedSum]

@[simp] theorem ratedSum_nil : ratedSum [] = 0 := rfl

/-- Entries removed lower committed power. -/
theorem State.committedOf_sublist (s : State) {gs hs : List Grant} (h : gs.Sublist hs) : s.committedOf gs ≤ s.committedOf hs := by
  have hpart : ∀ p, s.meteredPart gs p ≤ s.meteredPart hs p := by
    intro p
    have hbelow := ratedSum_sublist ((h.filter (fun g => g.pocket == p)).filter (fun g => g.stage ≤ (s.snapshot p).2))
    have habove := ratedSum_sublist ((h.filter (fun g => g.pocket == p)).filter (fun g => (s.snapshot p).2 < g.stage))
    unfold State.meteredPart grantsOf
    dsimp only
    omega
  have hA := hpart .A
  have hB := hpart .B
  unfold State.committedOf
  split
  · omega
  · exact ratedSum_sublist h

@[simp] theorem State.committedOf_nil (s : State) : s.committedOf [] = 0 := by
  unfold State.committedOf State.meteredPart
  split <;> simp [grantsOf]

/-- An entry raises committed power by its rating at most. -/
theorem State.committedOf_append_le (s : State) (gs : List Grant) (g : Grant) :
    s.committedOf (gs ++ [g]) ≤ s.committedOf gs + g.rating := by
  have hsum : ∀ f : Grant → Bool, ratedSum ((gs ++ [g]).filter f) = ratedSum (gs.filter f) + if f g then g.rating else 0 := by
    intro f
    rw [List.filter_append, ratedSum_append]
    cases hf : f g <;> simp [hf, ratedSum]
  have hpart : ∀ p, s.meteredPart (gs ++ [g]) p ≤ s.meteredPart gs p + if g.pocket = p then g.rating else 0 := by
    intro p
    simp only [State.meteredPart, grantsOf, List.filter_filter, hsum]
    rcases Nat.lt_or_ge (s.snapshot p).2 g.stage with hs | hs
    · by_cases hg : g.pocket = p
      · simp only [hg, hs, Nat.not_le.mpr hs, beq_self_eq_true, decide_true, decide_false, Bool.and_true, if_true]
        simp
        omega
      · simp [hg]
    · by_cases hg : g.pocket = p
      · simp only [hg, hs, Nat.not_lt.mpr hs, beq_self_eq_true, decide_true, decide_false, Bool.and_true, if_true]
        simp
        omega
      · simp [hg]
  have hA := hpart .A
  have hB := hpart .B
  unfold State.committedOf
  split
  · cases hg : g.pocket <;> simp [hg] at hA hB <;> omega
  · have := hsum (fun _ => true)
    simp at this
    omega

/-! ## Committed power comes within the ceiling (R131) -/

theorem withoutNewest_sublist (gs : List Grant) (p : Pocket) : (withoutNewest gs p).Sublist gs := by
  have := (List.eraseP_sublist (p := fun g : Grant => g.pocket == p) (l := gs.reverse)).reverse
  simpa [withoutNewest] using this

theorem hasGrants_iff (gs : List Grant) (p : Pocket) : hasGrants gs p = true ↔ ∃ g ∈ gs, g.pocket = p := by
  simp [hasGrants]

/-- A pocket with entries has one fewer without its newest. -/
theorem withoutNewest_length {gs : List Grant} {p : Pocket} (h : hasGrants gs p = true) :
    (withoutNewest gs p).length = gs.length - 1 := by
  obtain ⟨g, hg, hp⟩ := (hasGrants_iff gs p).mp h
  simp only [withoutNewest, List.length_reverse]
  rw [List.length_eraseP_of_mem (a := g) (by simpa using hg) (by simpa using hp), List.length_reverse]

/-- Shedding takes an entry of a pocket that has one, and finds one wherever there is an entry (R135). -/
theorem State.shedVictim_hasGrants (s : State) {gs : List Grant} {p : Pocket} (h : s.shedVictim gs = some p) :
    hasGrants gs p = true := by
  unfold State.shedVictim at h
  split at h
  · rename_i hboth
    obtain ⟨hA, hB⟩ := Bool.and_eq_true .. ▸ hboth
    cases p <;> assumption
  · split at h
    · cases h; assumption
    · split at h
      · cases h; assumption
      · cases h

theorem State.shedVictim_eq_none (s : State) {gs : List Grant} (h : s.shedVictim gs = none) : gs = [] := by
  rcases List.eq_nil_or_concat' gs with rfl | ⟨l, g, rfl⟩
  · rfl
  · have hlast : ((l ++ [g]).getLast?.map (·.pocket)) ≠ none := by simp
    have hg : hasGrants (l ++ [g]) g.pocket = true := (hasGrants_iff _ _).mpr ⟨g, by simp, rfl⟩
    unfold State.shedVictim at h
    cases hp : g.pocket <;> rw [hp] at hg <;> simp only [hg, Bool.and_true, Bool.true_and, if_true] at h <;> split_ifs at h
    all_goals exact absurd h hlast

/-- Shedding brings committed power to the ceiling or below (R131, R135). -/
theorem State.shedLoop_committed (s : State) (n : Nat) (a : Account) (h : a.grants.length ≤ n) :
    s.committedOf (s.shedLoop n a).grants ≤ s.ceiling := by
  induction n generalizing a with
  | zero =>
    have hnil : a.grants = [] := List.length_eq_zero_iff.mp (Nat.le_zero.mp h)
    simp [State.shedLoop, hnil]
  | succ n ih =>
    unfold State.shedLoop
    split
    · split
      · rename_i p hp
        refine ih _ ?_
        have := withoutNewest_length (s.shedVictim_hasGrants hp)
        simp only [Account.lose]
        omega
      · rename_i hnone
        simp [s.shedVictim_eq_none hnone]
    · omega

theorem State.reclaimLoop_sublist (s : State) (r : StageRequest) (n : Nat) (a : Account) :
    (s.reclaimLoop r n a).grants.Sublist a.grants := by
  induction n generalizing a with
  | zero => exact .refl _
  | succ n ih =>
    unfold State.reclaimLoop
    split
    · exact .refl _
    · exact (ih _).trans (withoutNewest_sublist _ _)

theorem State.committedOf_grant (s : State) {r : StageRequest} {a : Account} (h : s.fits a.grants (s.rating r.pocket r.stage) = true) :
    s.committedOf (s.grant r a).grants ≤ s.ceiling := by
  simp only [State.fits, Bool.and_eq_true, decide_eq_true_eq] at h
  have := s.committedOf_append_le a.grants { pocket := r.pocket, stage := r.stage, rating := s.rating r.pocket r.stage }
  simp only [State.grant] at this ⊢
  omega

theorem grantsOf_length_add (gs : List Grant) (p : Pocket) :
    (grantsOf gs p).length + (grantsOf gs (otherPocket p)).length = gs.length := by
  induction gs with
  | nil => rfl
  | cons g gs ih => cases hg : g.pocket <;> cases p <;> simp_all [grantsOf, otherPocket] <;> omega

/-- A pocket's own entries are the whole list where the other pocket has none. -/
theorem grantsOf_eq_self {gs : List Grant} {p : Pocket} (h : grantsOf gs (otherPocket p) = []) : grantsOf gs p = gs := by
  have hlen := grantsOf_length_add gs p
  rw [h] at hlen
  exact List.filter_sublist.eq_of_length hlen

/-- A reclaim that may be made makes room (R134). -/
theorem State.reclaimLoop_fits (s : State) (r : StageRequest) (n : Nat) (a : Account)
    (hown : s.fits (grantsOf a.grants r.pocket) (s.rating r.pocket r.stage) = true)
    (hn : (grantsOf a.grants (otherPocket r.pocket)).length ≤ n) :
    s.fits (s.reclaimLoop r n a).grants (s.rating r.pocket r.stage) = true := by
  induction n generalizing a with
  | zero =>
    have hnil := List.length_eq_zero_iff.mp (Nat.le_zero.mp hn)
    rwa [State.reclaimLoop, ← grantsOf_eq_self hnil]
  | succ n ih =>
    unfold State.reclaimLoop
    split
    · assumption
    · refine ih _ ?_ ?_
      · rwa [Account.lose, grantsOf_withoutNewest_of_ne _ (otherPocket_ne _)]
      · rw [Account.lose, grantsOf_withoutNewest, List.length_dropLast]
        omega

/-- Serving keeps committed power within the ceiling (R133, R134). -/
theorem State.serveLoop_committed (s : State) (n : Nat) (a : Account) (h : s.committedOf a.grants ≤ s.ceiling) :
    s.committedOf (s.serveLoop n a).grants ≤ s.ceiling := by
  induction n generalizing a with
  | zero => exact h
  | succ n ih =>
    unfold State.serveLoop
    split
    · exact h
    · split
      · rename_i hfits
        exact ih _ (s.committedOf_grant hfits)
      · split
        · rename_i r _ _ hmay
          simp only [State.mayReclaim, Bool.and_eq_true] at hmay
          exact ih _ (s.committedOf_grant (s.reclaimLoop_fits r _ a hmay.2 (le_refl _)))
        · exact h

theorem State.evaluated_committed (s : State) : s.committedOf s.evaluated.grants ≤ s.ceiling :=
  s.serveLoop_committed _ _ (s.shedLoop_committed _ _ (le_refl _))

/-! ## Committed power and the ceiling of a state -/

/-- What committed power of a grant list and the ceiling read: the profile, the level in force and the readings. -/
theorem State.committedOf_congr {s t : State} (hps : t.ps = s.ps)
    (hm : ∀ p, (t.pocket p).meter.reading = (s.pocket p).meter.reading) : t.committedOf = s.committedOf := by
  have hmetered : t.metered = s.metered := by simp [State.metered, State.shared, hps]
  have hsnapshot : ∀ p, t.snapshot p = s.snapshot p := fun p => by simp only [State.snapshot, hm]
  funext gs
  simp only [State.committedOf, State.meteredPart, hmetered, hsnapshot]

theorem State.ceiling_congr {s t : State} (hps : t.ps = s.ps) (hl : t.levelInForce = s.levelInForce) : t.ceiling = s.ceiling := by
  simp only [State.ceiling, hl, State.shared, hps]

theorem MovesTo.reading {s t : State} (h : MovesTo s t) (p : Pocket) :
    (t.pocket p).meter.reading = (s.pocket p).meter.reading := by
  obtain ⟨k, hk⟩ := h.pocket p
  rw [hk]

theorem MovesTo.ps {s t : State} (h : MovesTo s t) : t.ps = s.ps := h.shared.2.2.2.2.2.2

theorem MovesTo.levelInForce {s t : State} (h : MovesTo s t) : t.levelInForce = s.levelInForce := by
  obtain ⟨m, rfl, -⟩ := h
  rfl

theorem MovesTo.committedOf {s t : State} (h : MovesTo s t) : t.committedOf = s.committedOf := State.committedOf_congr h.ps h.reading

theorem MovesTo.ceiling {s t : State} (h : MovesTo s t) : t.ceiling = s.ceiling := State.ceiling_congr h.ps h.levelInForce

/-- After an evaluation committed power is within the ceiling (R131). -/
theorem State.evaluate_committed (s : State) : s.evaluate.committed ≤ s.evaluate.ceiling := by
  rw [State.committed, (MovesTo.evaluate s).committedOf, (MovesTo.evaluate s).ceiling, State.evaluate_sa]
  exact s.evaluated_committed

end Sys2Proof.Machine


/-! PROOF. The supply account through every act (O57): each act keeps the levels, the law of each pocket's entries and requests, and
committed power within the ceiling (R101, R105, R126, R127, R131). -/

namespace Sys2Proof.Machine

/-! ## The law of a pocket's allotment after an account move -/

/-- A pocket holds neither entries nor a request: it is not RUNNING on a heat phase or is under a shed hold. -/
def State.allotsNothing (s : State) (p : Pocket) : Prop := s.heating p = false ∨ (s.pocket p).shedDue ≠ none

theorem MovesTo.heating {s t : State} (h : MovesTo s t) (p : Pocket) : t.heating p = s.heating p := by
  obtain ⟨k, hk⟩ := h.pocket p
  simp only [State.heating, State.onHeatEntry, State.entry, hk]

theorem MovesTo.shedDue {s t : State} (h : MovesTo s t) (p : Pocket) : (t.pocket p).shedDue = (s.pocket p).shedDue := by
  obtain ⟨k, hk⟩ := h.pocket p
  rw [hk]

theorem MovesTo.allotsNothing {s t : State} (h : MovesTo s t) (p : Pocket) : t.allotsNothing p ↔ s.allotsNothing p := by
  simp only [State.allotsNothing, h.heating, h.shedDue]

theorem AllotmentHolds.lists {s : State} {p : Pocket} (h : AllotmentHolds s p) :
    Allotment (s.effectiveCap p) (s.allotsNothing p) p s.sa.grants s.sa.requests := ((allotmentHolds_iff s p).mp h).1

theorem AllotmentHolds.level_le {s : State} {p : Pocket} (h : AllotmentHolds s p) : (s.pocket p).hsc.level ≤ s.granted p :=
  ((allotmentHolds_iff s p).mp h).2

/-- After an account move a pocket obeys the law where its new lists do and its L is within its count. -/
theorem AllotmentHolds.of_moves {s t : State} {p : Pocket} (hm : MovesTo s t)
    (hl : Allotment (s.effectiveCap p) (s.allotsNothing p) p t.sa.grants t.sa.requests)
    (hlevel : (t.pocket p).hsc.level ≤ t.granted p) : AllotmentHolds t p := by
  refine (allotmentHolds_iff t p).mpr ⟨?_, hlevel⟩
  rw [hm.effectiveCap p]
  obtain ⟨h1, h2, h3, h4, h5⟩ := hl
  exact ⟨h1, h2, h3, h4, fun hi => h5 ((hm.allotsNothing p).mp hi)⟩

/-- A heat stage controller told of its count has L within it (R105). -/
theorem State.tellGranted_level_le {s : State} {p : Pocket} {n : Nat} (h : (s.pocket p).hsc.level ≤ n) :
    ((s.tellGranted p n).pocket p).hsc.level ≤ (s.tellGranted p n).granted p := by
  rw [State.granted_tellGranted, (s.tellGranted_level p n).1]
  split <;> omega

/-- Lists of which the pocket alone is told. -/
theorem State.withLists_tellGranted {s : State} (p : Pocket) (gs : List Grant) (rs : List StageRequest)
    (h : (s.pocket p).hsc.level ≤ s.granted p) :
    (((s.withLists gs rs).tellGranted p (s.granted p)).pocket p).hsc.level
      ≤ ((s.withLists gs rs).tellGranted p (s.granted p)).granted p :=
  State.tellGranted_level_le (by rwa [State.pocket_withLists])

theorem State.withLists_tellGranted_moves (s : State) (p : Pocket) (gs : List Grant) (rs : List StageRequest) :
    MovesTo s ((s.withLists gs rs).tellGranted p (s.granted p)) := (MovesTo.withLists gs rs s).trans (.tellGranted p _ _)

/-- Lists of which the pocket alone is told leave the law of its neighbour, whose entries and requests they leave. -/
theorem AllotmentHolds.tellGranted_other {s : State} {p : Pocket} (h : AllotmentHolds s (otherPocket p)) {gs : List Grant}
    {rs : List StageRequest} (hg : grantsOf gs (otherPocket p) = grantsOf s.sa.grants (otherPocket p))
    (hr : requestsIn rs (otherPocket p) = requestsIn s.sa.requests (otherPocket p)) :
    AllotmentHolds ((s.withLists gs rs).tellGranted p (s.granted p)) (otherPocket p) := by
  refine .of_moves (s.withLists_tellGranted_moves p gs rs) ?_ ?_
  · rw [State.tellGranted_sa]
    exact h.lists.congr hg hr
  · rw [((s.withLists gs rs).tellGranted_level p _).2, State.granted_tellGranted, State.pocket_withLists, State.withLists_granted, hg]
    exact h.level_le

/-- An evaluation keeps the law of a pocket (R131). -/
theorem AllotmentHolds.evaluate {s : State} {p : Pocket} (h : AllotmentHolds s p) : AllotmentHolds s.evaluate p := by
  refine .of_moves (.evaluate s) ?_ ?_
  · rw [State.evaluate_sa]
    exact s.evaluated_allotment h.lists
  · have hlevel := h.level_le
    set u := s.withLists s.evaluated.grants s.evaluated.requests with hu
    have hpost : ∀ (t : State) c k, ((t.postIf c k).pocket p).hsc.level = (t.pocket p).hsc.level ∧ (t.postIf c k).granted p = t.granted p := by
      intro t c k
      cases c <;> simp [State.postIf, State.granted]
    have e : s.evaluate = (((u.tellGranted .A (s.granted .A)).tellGranted .B (s.granted .B)).postIf s.evaluated.lostA (.heatCurtailed .A)).postIf
        s.evaluated.lostB (.heatCurtailed .B) := rfl
    rw [e, (hpost _ _ _).1, (hpost _ _ _).1, (hpost _ _ _).2, (hpost _ _ _).2]
    cases p
    · have hother := ((u.tellGranted .A (s.granted .A)).tellGranted_level .B (s.granted .B)).2
      simp only [otherPocket] at hother
      rw [hother, State.granted_tellGranted]
      exact State.withLists_tellGranted .A _ _ hlevel
    · refine State.tellGranted_level_le ?_
      have hother := (u.tellGranted_level .A (s.granted .A)).2
      simp only [otherPocket] at hother
      rwa [hother, hu, State.pocket_withLists]

/-- The law of both pockets. -/
def AllotmentsHold (s : State) : Prop := ∀ p, AllotmentHolds s p

theorem AllotmentsHold.evaluate {s : State} (h : AllotmentsHold s) : AllotmentsHold s.evaluate := fun p => (h p).evaluate

/-! ## Entries given back (R136 to R139) -/

theorem requestsIn_withoutRequest_other (rs : List StageRequest) (p : Pocket) :
    requestsIn (withoutRequest rs p) (otherPocket p) = requestsIn rs (otherPocket p) :=
  requestsIn_withoutRequest_of_ne rs (ne_otherPocket p)

theorem grantsOf_filter_ne_self (gs : List Grant) (p : Pocket) : grantsOf (gs.filter (fun g => g.pocket != p)) p = [] := by
  simp [grantsOf]

/-- Every entry removed, the pocket obeys the law under any cap (R139). -/
theorem AllotmentHolds.removeAll_self {s : State} {p : Pocket} (h : (s.pocket p).hsc.level ≤ s.granted p) :
    AllotmentHolds (s.removeAll p) p := by
  refine .of_moves (.removeAll p s) ?_ (State.withLists_tellGranted p _ _ h)
  rw [State.removeAll_sa]
  exact .of_empty (grantsOf_filter_ne_self _ p) (requestsIn_withoutRequest _ p)

theorem AllotmentHolds.removeAll_other {s : State} {p : Pocket} (h : AllotmentHolds s (otherPocket p)) :
    AllotmentHolds (s.removeAll p) (otherPocket p) :=
  h.tellGranted_other (grantsOf_filter_ne _ p) (requestsIn_withoutRequest_other _ p)

/-- What holds of a pocket and of its neighbour holds of both. -/
theorem AllotmentsHold.of_self_other {s : State} {p : Pocket} (hp : AllotmentHolds s p) (ho : AllotmentHolds s (otherPocket p)) :
    AllotmentsHold s := by
  intro r
  obtain rfl | rfl := pocket_eq_or p r <;> assumption

theorem AllotmentsHold.removeAll {s : State} (h : AllotmentsHold s) (p : Pocket) : AllotmentsHold (s.removeAll p) :=
  .of_self_other (.removeAll_self (h p).level_le) (h (otherPocket p)).removeAll_other

/-- Other requests of one pocket leave its neighbour's law. -/
theorem AllotmentHolds.relisted {s : State} {p : Pocket} (h : AllotmentHolds s p) {rs : List StageRequest}
    (hr : requestsIn rs p = requestsIn s.sa.requests p) : AllotmentHolds (s.withLists s.sa.grants rs) p :=
  .of_moves (.withLists _ _ s) (h.lists.congr rfl hr) (by rw [State.pocket_withLists]; exact h.level_le)

theorem State.requestOf_eq_none_iff (s : State) (p : Pocket) : s.requestOf p = none ↔ requestsIn s.sa.requests p = [] := by
  simp [State.requestOf_eq_none, requestsIn, List.filter_eq_nil_iff]

theorem AllotmentsHold.withdraw {s : State} (h : AllotmentsHold s) (p : Pocket) : AllotmentsHold (s.withdraw p) := by
  unfold State.withdraw
  split
  · refine AllotmentsHold.evaluate (.of_self_other (p := p) (.of_moves (.withLists _ _ s) ?_ ?_) ?_)
    · exact (h p).lists.of_take (n := s.effectiveCap p) (List.take_of_length_le (h p).lists.within).symm
        (requestsIn_withoutRequest _ p) (le_refl _)
    · rw [State.pocket_withLists]
      exact (h p).level_le
    · exact (h (otherPocket p)).relisted (requestsIn_withoutRequest_other _ p)
  · exact h

/-- Of entries 1..g those up to a stage are the first of them. -/
theorem filter_stage_eq_take (l : List Grant) (cap : Nat) (h : l.map (·.stage) = (List.range l.length).map (· + 1)) :
    l.filter (fun g => g.stage ≤ cap) = l.take cap := by
  induction l using List.reverseRecOn with
  | nil => simp
  | append_singleton l g ih =>
    simp only [List.map_append, List.map_cons, List.map_nil, List.length_append, List.length_cons, List.length_nil, Nat.zero_add,
      List.range_succ] at h
    obtain ⟨hl, hg⟩ := List.append_inj' h rfl
    have hstage : g.stage = l.length + 1 := by simpa using hg
    rw [List.filter_append, ih hl]
    by_cases hc : l.length + 1 ≤ cap
    · rw [List.take_of_length_le (by omega), List.take_of_length_le (by simpa using hc)]
      simp [hstage, hc]
    · rw [List.take_append_of_le_length (by omega)]
      simp [hstage, hc]

theorem grantsOf_filter_cap_self (gs : List Grant) (p : Pocket) (cap : Nat) :
    grantsOf (gs.filter (fun g => g.pocket != p || g.stage ≤ cap)) p = (grantsOf gs p).filter (fun g => g.stage ≤ cap) := by
  unfold grantsOf
  rw [List.filter_filter, List.filter_filter]
  congr 1
  funext g
  cases hg : g.pocket == p <;> simp [bne, hg]

/-- An effective cap handed to the allocator brings a pocket's entries and request within it (R138), where they obeyed the law under
another cap. -/
theorem AllotmentHolds.applyCap_self {s : State} {p : Pocket} {cap : Nat}
    (hl : Allotment cap (s.allotsNothing p) p s.sa.grants s.sa.requests) (hlevel : (s.pocket p).hsc.level ≤ s.granted p) :
    AllotmentHolds (s.applyCap p) p := by
  have hg : (grantsOf s.sa.grants p).length = s.granted p := rfl
  unfold State.applyCap
  dsimp only
  split
  · refine AllotmentHolds.evaluate (.of_moves (s.withLists_tellGranted_moves p _ _) ?_ (State.withLists_tellGranted p _ _ hlevel))
    rw [State.tellGranted_sa]
    exact hl.of_take (n := s.effectiveCap p) ((grantsOf_filter_cap_self _ p _).trans (filter_stage_eq_take _ _ hl.stages))
      (requestsIn_withoutRequest _ p) (le_refl _)
  · split
    · rename_i hcap
      unfold State.withdraw
      split
      · refine AllotmentHolds.evaluate (.of_moves (.withLists _ _ s) ?_ (by rw [State.pocket_withLists]; exact hlevel))
        exact hl.of_take (n := s.granted p) (List.take_of_length_le (le_of_eq hg)).symm (requestsIn_withoutRequest _ p) (le_of_eq hcap.symm)
      · rename_i hnone
        have hr : requestsIn s.sa.requests p = [] := (s.requestOf_eq_none_iff p).mp (by simpa using hnone)
        exact (allotmentHolds_iff s p).mpr ⟨hl.of_take (n := s.granted p) (List.take_of_length_le (le_of_eq hg)).symm hr
          (le_of_eq hcap.symm), hlevel⟩
    · refine (allotmentHolds_iff s p).mpr ⟨⟨hl.stages, by omega, hl.single, fun r hr => ?_, hl.idle⟩, hlevel⟩
      have := (hl.next r hr).1
      exact ⟨this, by omega⟩

theorem AllotmentHolds.applyCap_other {s : State} {p : Pocket} (h : AllotmentHolds s (otherPocket p)) :
    AllotmentHolds (s.applyCap p) (otherPocket p) := by
  unfold State.applyCap
  dsimp only
  split
  · exact (h.tellGranted_other (grantsOf_filter_cap _ p _) (requestsIn_withoutRequest_other _ p)).evaluate
  · split
    · unfold State.withdraw
      split
      · exact (h.relisted (requestsIn_withoutRequest_other _ p)).evaluate
      · exact h
    · exact h

theorem State.considerHold_sa (s : State) (p : Pocket) (c : Bool) : (s.considerHold p c).sa = s.sa := State.onHsc_sa ..

/-- The release hold considered afresh leaves the law. -/
theorem AllotmentsHold.considerHold {s : State} (h : AllotmentsHold s) (p : Pocket) (c : Bool) :
    AllotmentsHold (s.considerHold p c) := by
  have hsa := s.considerHold_sa p c
  intro r
  refine .of_moves (.considerHold p c s) (by rw [hsa]; exact (h r).lists) ?_
  have hlevel := (h r).level_le
  have hg : (s.considerHold p c).granted r = s.granted r := by simp only [State.granted, hsa]
  rw [hg]
  obtain rfl | rfl := pocket_eq_or p r
  · rwa [(s.considerHold_level r c).1]
  · rwa [(s.considerHold_level p c).2]

theorem AllotmentsHold.releaseTop {s : State} (h : AllotmentsHold s) (p : Pocket) : AllotmentsHold (s.releaseTop p) := by
  unfold State.releaseTop
  split
  · exact h
  · refine AllotmentsHold.evaluate (AllotmentsHold.considerHold (.of_self_other (p := p) ?_ ?_) p true)
    · refine .of_moves (s.withLists_tellGranted_moves p _ _) ?_ (State.withLists_tellGranted p _ _ (h p).level_le)
      rw [State.tellGranted_sa]
      exact (h p).lists.lose p
    · exact (h (otherPocket p)).tellGranted_other (grantsOf_withoutNewest_other _ p) (requestsIn_withoutRequest_other _ p)

/-! ## A request posted (R132) -/

theorem requestsIn_insertRequest_of_ne (rs : List StageRequest) {r : StageRequest} {p : Pocket} (h : r.pocket ≠ p) :
    requestsIn (insertRequest rs r) p = requestsIn rs p := by
  induction rs with
  | nil => simp [insertRequest, requestsIn, h]
  | cons q qs ih =>
    unfold insertRequest
    split
    · simp [requestsIn, h]
    · unfold requestsIn at ih ⊢
      rw [List.filter_cons, List.filter_cons, ih]

theorem requestsIn_insertRequest_self (rs : List StageRequest) (r : StageRequest) (h : requestsIn rs r.pocket = []) :
    requestsIn (insertRequest rs r) r.pocket = [r] := by
  induction rs with
  | nil => simp [insertRequest, requestsIn]
  | cons q qs ih =>
    have hq : q.pocket ≠ r.pocket := fun e => by simp [requestsIn, e] at h
    have hqs : requestsIn qs r.pocket = [] := by simpa [requestsIn, hq] using h
    unfold insertRequest
    split
    · simpa [requestsIn, hq] using hqs
    · unfold requestsIn at ih ⊢
      simp [hq, ih hqs]

theorem AllotmentsHold.postRequest {s : State} (h : AllotmentsHold s) (p : Pocket) (n : Nat) : AllotmentsHold (s.postRequest p n) := by
  unfold State.postRequest
  split
  · rename_i htaken
    simp only [State.postTaken, Bool.and_eq_true, Option.isNone_iff_eq_none, beq_iff_eq, decide_eq_true_eq] at htaken
    obtain ⟨⟨⟨⟨hheat, hshed⟩, hnone⟩, hstage⟩, hcap⟩ := htaken
    refine AllotmentsHold.evaluate (.of_self_other (p := p) (.of_moves (.withLists _ _ s) ?_ ?_) ?_)
    · have hr := requestsIn_insertRequest_self s.sa.requests { pocket := p, stage := n, posted := s.sa.updateCount }
        ((s.requestOf_eq_none_iff p).mp hnone)
      refine ⟨(h p).lists.stages, (h p).lists.within, ?_, ?_, fun hi => ?_⟩
      · exact le_of_eq (congrArg List.length hr)
      · intro r hmem
        obtain rfl := List.mem_singleton.mp (hr ▸ hmem)
        exact ⟨hstage, hcap⟩
      · rcases hi with hi | hi
        · rw [hheat] at hi
          cases hi
        · exact absurd hshed hi
    · rw [State.pocket_withLists]
      exact (h p).level_le
    · exact (h (otherPocket p)).relisted (requestsIn_insertRequest_of_ne _ (ne_otherPocket p))
  · exact h

/-! ## A pocket's own part replaced -/

theorem State.allotment_setPocket_other (s : State) (p : Pocket) (x : PocketState) :
    AllotmentHolds (s.setPocket p x) (otherPocket p) ↔ AllotmentHolds s (otherPocket p) := by
  cases p <;> exact Iff.rfl

theorem AllotmentsHold.setPocket {s : State} {p : Pocket} {x : PocketState} (h : AllotmentsHold s)
    (hx : AllotmentHolds (s.setPocket p x) p) : AllotmentsHold (s.setPocket p x) :=
  .of_self_other hx ((s.allotment_setPocket_other p x).mpr (h _))

/-- The law of a state with the same lists, whose pockets have the same L, cap, phase and hold. -/
theorem AllotmentHolds.of_same {s t : State} {p : Pocket} (h : AllotmentHolds s p) (hg : t.sa.grants = s.sa.grants)
    (hr : t.sa.requests = s.sa.requests) (hl : (t.pocket p).hsc.level = (s.pocket p).hsc.level)
    (hc : t.effectiveCap p = s.effectiveCap p) (hheat : t.heating p = s.heating p)
    (hshed : (t.pocket p).shedDue = (s.pocket p).shedDue) : AllotmentHolds t p := by
  have hgr : t.granted p = s.granted p := by simp only [State.granted, hg]
  refine (allotmentHolds_iff t p).mpr ⟨?_, by rw [hl, hgr]; exact h.level_le⟩
  rw [hc, hg, hr, hheat, hshed]
  exact h.lists

/-- The law reads of a state its pockets, the two lists and the profile. -/
theorem AllotmentsHold.of_same {s t : State} (h : AllotmentsHold s) (hg : t.sa.grants = s.sa.grants)
    (hr : t.sa.requests = s.sa.requests) (hp : ∀ p, t.pocket p = s.pocket p) (hps : t.ps = s.ps) : AllotmentsHold t := by
  intro p
  refine (h p).of_same hg hr (by rw [hp]) ?_ ?_ (by rw [hp])
  · simp only [State.effectiveCap, State.entry, State.stageCount, State.reliefCap, hp, hps]
  · simp only [State.heating, State.onHeatEntry, State.entry, hp]

/-- E following its target leaves the law. -/
theorem AllotmentsHold.followE {s : State} (h : AllotmentsHold s) (p : Pocket) : AllotmentsHold (s.followE p) := by
  have hsa : (s.followE p).sa = s.sa := by
    unfold State.followE State.riseE
    split <;> simp [State.dropE]
  have hlevel : ∀ r, ((s.followE p).pocket r).hsc.level = (s.pocket r).hsc.level := by
    intro r
    have hdrop : ((s.dropE p).pocket r).hsc.level = (s.pocket r).hsc.level := by
      rw [State.dropE, State.pocket_onHsc_cases]
      split <;> simp
    unfold State.followE State.riseE
    split
    · rw [State.pocket_onHsc_cases]
      split <;> exact hdrop
    · exact hdrop
  intro r
  refine .of_moves (.followE p s) (by rw [hsa]; exact (h r).lists) ?_
  rw [hlevel]
  have hg : (s.followE p).granted r = s.granted r := by simp only [State.granted, hsa]
  rw [hg]
  exact (h r).level_le

theorem AllotmentsHold.onMeter {s : State} (h : AllotmentsHold s) (p : Pocket) (f : PocketMeter → PocketMeter) :
    AllotmentsHold (s.onMeter p f) :=
  h.setPocket (by have hp := h p; cases p <;> exact hp)

theorem AllotmentsHold.postIf {s : State} (h : AllotmentsHold s) (c : Bool) (k : EventKind) : AllotmentsHold (s.postIf c k) := by
  cases c
  · exact h
  · exact h.of_same rfl rfl (by simp [State.postIf]) rfl

/-! ## Committed power within the ceiling (R131) -/

/-- Committed power does not leave the ceiling from `s` to `t`: neither where it was within it, nor where it was within it under
RATED alone. -/
def CommitKept (s t : State) : Prop :=
  (s.committed ≤ s.ceiling → t.committed ≤ t.ceiling)
  ∧ ((s.metered = false → s.committed ≤ s.ceiling) → t.metered = false → t.committed ≤ t.ceiling)

theorem CommitKept.refl (s : State) : CommitKept s s := ⟨id, id⟩

theorem CommitKept.trans {s t u : State} (h : CommitKept s t) (k : CommitKept t u) : CommitKept s u :=
  ⟨k.1 ∘ h.1, fun hs => k.2 (h.2 hs)⟩

theorem CommitKept.of_committed {s t : State} (h : t.committed ≤ t.ceiling) : CommitKept s t := ⟨fun _ => h, fun _ _ => h⟩

theorem CommitKept.of_le {s t : State} (hm : t.metered = s.metered) (hc : t.committed ≤ s.committed) (hl : t.ceiling = s.ceiling) :
    CommitKept s t := by
  constructor
  · intro h
    omega
  · intro h ht
    have := h (hm ▸ ht)
    omega

/-- The same profile, readings, level in force and grants. -/
theorem CommitKept.of_same {s t : State} (hps : t.ps = s.ps) (hm : ∀ p, (t.pocket p).meter.reading = (s.pocket p).meter.reading)
    (hl : t.levelInForce = s.levelInForce) (hg : t.sa.grants = s.sa.grants) : CommitKept s t := by
  refine .of_le (by simp [State.metered, State.shared, hps]) ?_ (State.ceiling_congr hps hl)
  rw [State.committed, State.committed, State.committedOf_congr hps hm, hg]

/-- An account move that adds no entry. -/
theorem CommitKept.of_moves {s t : State} (hm : MovesTo s t) (hg : t.sa.grants.Sublist s.sa.grants) : CommitKept s t := by
  refine .of_le (by simp [State.metered, State.shared, hm.ps]) ?_ hm.ceiling
  rw [State.committed, hm.committedOf]
  exact s.committedOf_sublist hg

theorem CommitKept.evaluate (s t : State) : CommitKept s t.evaluate := .of_committed t.evaluate_committed

theorem CommitKept.withdraw (s : State) (p : Pocket) : CommitKept s (s.withdraw p) := by
  unfold State.withdraw
  split
  · exact .evaluate s _
  · exact .refl s

theorem CommitKept.applyCap (s : State) (p : Pocket) : CommitKept s (s.applyCap p) := by
  unfold State.applyCap
  dsimp only
  split
  · exact .evaluate s _
  · split
    · exact .withdraw s p
    · exact .refl s

theorem CommitKept.releaseTop (s : State) (p : Pocket) : CommitKept s (s.releaseTop p) := by
  unfold State.releaseTop
  split
  · exact .refl s
  · exact .evaluate s _

theorem CommitKept.postRequest (s : State) (p : Pocket) (n : Nat) : CommitKept s (s.postRequest p n) := by
  unfold State.postRequest
  split
  · exact .evaluate s _
  · exact .refl s

theorem CommitKept.setPocket {s : State} {p : Pocket} {x : PocketState} (h : x.meter.reading = (s.pocket p).meter.reading) :
    CommitKept s (s.setPocket p x) := by
  obtain ⟨-, -, -, -, -, hsa, -, -, -, -, hps⟩ := State.setPocket_shared s p x
  refine .of_same hps (fun r => ?_) (by simp only [State.levelInForce, hsa]) (by rw [hsa])
  obtain rfl | rfl := pocket_eq_or p r
  · rwa [State.pocket_setPocket]
  · rw [State.pocket_setPocket_other]

theorem CommitKept.postIf (s : State) (c : Bool) (k : EventKind) : CommitKept s (s.postIf c k) := by
  cases c
  · exact .refl s
  · exact .of_same rfl (by simp [State.postIf]) rfl rfl

theorem CommitKept.followE (s : State) (p : Pocket) : CommitKept s (s.followE p) := by
  refine .of_moves (.followE p s) (by
    unfold State.followE State.riseE
    split <;> simp [State.dropE])

/-! ## The levels (R121, R122) -/

theorem LevelsHold.of_moves {s t : State} (hm : MovesTo s t) (h : LevelsHold s) : LevelsHold t := by
  obtain ⟨m, rfl, -⟩ := hm
  exact h

/-! ## Through every act -/

/-- The levels and the law of both pockets' allotments. -/
def AccountSound (s : State) : Prop := LevelsHold s ∧ AllotmentsHold s

/-- The account and the levels hold through every act. -/
theorem Acts.account {s t : State} (h : Acts s t) : AccountSound s → AccountSound t ∧ CommitKept s t := by
  induction h with
  | refl s => exact fun h => ⟨h, .refl s⟩
  | trans _ _ ih jh =>
    intro h
    obtain ⟨h1, k1⟩ := ih h
    obtain ⟨h2, k2⟩ := jh h1
    exact ⟨h2, k1.trans k2⟩
  | clock s n _ => exact fun h => ⟨⟨h.1, h.2.of_same rfl rfl (fun _ => rfl) rfl⟩, .of_same rfl (fun _ => rfl) rfl rfl⟩
  | queue s cs => exact fun h => ⟨⟨h.1, h.2.of_same rfl rfl (fun _ => rfl) rfl⟩, .of_same rfl (fun _ => rfl) rfl rfl⟩
  | port s q x _ =>
    exact fun h => ⟨⟨by simpa [LevelsHold] using h.1, h.2.of_same (by simp) (by simp) (by simp) (by simp)⟩,
      .of_same (by simp) (by simp) (by simp [State.levelInForce]) (by simp)⟩
  | post s k => exact fun h => ⟨⟨h.1, h.2.postIf true k⟩, .postIf s true k⟩
  | own s p x hx ha =>
    exact fun h => ⟨⟨by simpa [LevelsHold] using h.1, h.2.setPocket (ha (h.2 p))⟩, .setPocket hx.reading⟩
  | unheated s p x hx =>
    intro h
    have hlevel : ((s.setPocket p x).pocket p).hsc.level ≤ (s.setPocket p x).granted p := by
      rw [State.pocket_setPocket, State.granted_setPocket]
      exact hx.level.trans (h.2 p).level_le
    refine ⟨⟨.of_moves (.releaseAll p _) (by simpa [LevelsHold] using h.1), AllotmentsHold.evaluate ?_⟩, .evaluate s _⟩
    exact .of_self_other (.removeAll_self hlevel) ((s.allotment_setPocket_other p x).mpr (h.2 _)).removeAll_other
  | recapped s p x hx =>
    intro h
    have hlevel : ((s.setPocket p x).pocket p).hsc.level ≤ (s.setPocket p x).granted p := by
      rw [State.pocket_setPocket, State.granted_setPocket]
      exact hx.level.trans (h.2 p).level_le
    have hidle : (s.setPocket p x).allotsNothing p → s.allotsNothing p := by
      rintro (hi | hi)
      · exact .inl (Bool.eq_false_iff.mpr fun hon => by rw [hx.heating hon] at hi; cases hi)
      · refine .inr ?_
        rwa [State.pocket_setPocket, hx.shed] at hi
    have hlists : Allotment (s.effectiveCap p) ((s.setPocket p x).allotsNothing p) p (s.setPocket p x).sa.grants (s.setPocket p x).sa.requests := by
      obtain ⟨h1, h2, h3, h4, h5⟩ := (h.2 p).lists
      rw [(State.setPocket_shared s p x).2.2.2.2.2.1]
      exact ⟨h1, h2, h3, h4, fun hi => h5 (hidle hi)⟩
    refine ⟨⟨.of_moves (.applyCap p _) (by simpa [LevelsHold] using h.1), .of_self_other (.applyCap_self hlists hlevel) ?_⟩,
      (CommitKept.setPocket hx.reading).trans (.applyCap _ p)⟩
    exact ((s.allotment_setPocket_other p x).mpr (h.2 _)).applyCap_other
  | remove s p =>
    refine fun h => ⟨⟨.of_moves (.removeAll p s) h.1, h.2.removeAll p⟩, .of_moves (.removeAll p s) ?_⟩
    rw [State.removeAll_sa]
    exact List.filter_sublist
  | evaluate s => exact fun h => ⟨⟨.of_moves (.evaluate s) h.1, h.2.evaluate⟩, .evaluate s s⟩
  | withdraw s p => exact fun h => ⟨⟨.of_moves (.withdraw p s) h.1, h.2.withdraw p⟩, .withdraw s p⟩
  | releaseTop s p => exact fun h => ⟨⟨.of_moves (.releaseTop p s) h.1, h.2.releaseTop p⟩, .releaseTop s p⟩
  | postRequest s p n => exact fun h => ⟨⟨.of_moves (.postRequest p n s) h.1, h.2.postRequest p n⟩, .postRequest s p n⟩
  | levels s a lines hg hr hl hlevels =>
    exact fun h => ⟨⟨hlevels h.1, h.2.of_same hg hr (fun _ => rfl) rfl⟩, .of_same rfl (fun _ => rfl) hl hg⟩
  | source s a c k hg hr hlevels =>
    intro h
    have ha : AllotmentsHold { s with sa := a } := h.2.of_same hg hr (fun _ => rfl) rfl
    exact ⟨⟨.of_moves ((MovesTo.postIf c k _).trans (.evaluate _)) (hlevels h.1), (ha.postIf c k).evaluate⟩, .evaluate s _⟩
  | store s f ha hc =>
    intro h
    refine ⟨⟨h.1, fun p => ha p (h.2 p)⟩, ?_⟩
    rcases hc h.1 h.2 with hzero | ⟨hm, hcommitted, hceiling⟩
    · exact .of_committed (by rw [hzero]; exact Nat.zero_le _)
    · exact .of_le hm (le_of_eq hcommitted) hceiling
  | storeEvaluate s f ha =>
    exact fun h => ⟨⟨.of_moves (MovesTo.evaluate _) h.1, AllotmentsHold.evaluate fun p => ha p (h.2 p)⟩, .evaluate s _⟩
  | meter s m _ => exact fun h => ⟨⟨h.1, h.2.of_same rfl rfl (fun _ => rfl) rfl⟩, .of_same rfl (fun _ => rfl) rfl rfl⟩
  | condition s m c k =>
    intro h
    have hm : AllotmentsHold { s with sm := m } := h.2.of_same rfl rfl (fun _ => rfl) rfl
    refine ⟨⟨.of_moves ((MovesTo.postIf c k { s with sm := m }).trans ((MovesTo.followE .A _).trans (.followE .B _))) h.1,
      ((hm.postIf c k).followE .A).followE .B⟩, ?_⟩
    have hsame : CommitKept s { s with sm := m } := .of_same rfl (fun _ => rfl) rfl rfl
    exact hsame.trans ((CommitKept.postIf _ c k).trans ((CommitKept.followE _ .A).trans (.followE _ .B)))
  | readings s f g _ ih =>
    rename_i t _
    intro h
    obtain ⟨ht, hkept⟩ := ih ⟨h.1, (h.2.onMeter .A f).onMeter .B g⟩
    have hrated : ((s.metered = false → s.committed ≤ s.ceiling)) →
        ((s.onMeter .A f).onMeter .B g).metered = false →
        ((s.onMeter .A f).onMeter .B g).committed ≤ ((s.onMeter .A f).onMeter .B g).ceiling := by
      intro hs hm
      have hsm : s.metered = false := hm
      have hc := hs hsm
      have hcommitted : ((s.onMeter .A f).onMeter .B g).committed = s.committed := by
        simp only [State.committed, State.committedOf, hm, hsm]
        rfl
      rw [hcommitted]
      exact hc
    unfold State.meteredEvaluation
    cases htm : t.metered
    · refine ⟨ht, fun hs => hkept.2 (hrated fun _ => hs) htm, fun hs => hkept.2 (hrated hs)⟩
    · exact ⟨⟨.of_moves (.evaluate t) ht.1, ht.2.evaluate⟩, .evaluate s t⟩

end Sys2Proof.Machine


/-! PROOF. Changes of a pocket's own part that are acts (O56 to O60): what of it the invariants read, and the changes that leave it. -/

namespace Sys2Proof.Machine

/-! ## What the invariants read of a pocket's own part -/

/-- The cycle engine is RUNNING on a heat phase. -/
def CycleEngine.heats (c : CycleEngine) : Bool :=
  c.state == .running && match c.entry with
    | some e => e.kind.isHeat
    | none => false

theorem State.heating_eq_heats (s : State) (p : Pocket) : s.heating p = (s.pocket p).ce.heats := rfl

/-- The interlocks of R107 in a pocket's own part, but for its phase. -/
def PocketState.clearForHeat (x : PocketState) : Prop :=
  x.dmc.state = .run ∧ x.lines.doorClosed = true ∧ x.ce.airflowProven = true ∧ x.lines.hlimClosed = true
    ∧ x.hsc.recoveryDue = none ∧ x.hsc.safe = true

theorem State.heatPermitted_iff (s : State) (p : Pocket) :
    s.heatPermitted p = true ↔ (s.pocket p).ce.heats = true ∧ s.sm.condition = .normal ∧ (s.pocket p).clearForHeat := by
  simp only [State.heatPermitted, State.interlocks, PocketState.clearForHeat, ← State.heating_eq_heats, List.all_cons, List.all_nil,
    Bool.and_true, Bool.and_eq_true, id, beq_iff_eq, Option.isNone_iff_eq_none]
  tauto

/-- A pocket that is not RUNNING on a heat phase has E at 0 where E is within its target. -/
theorem HeatAt.energized_eq_zero {s : State} {p : Pocket} (h : HeatAt s p)
    (hx : ¬ ((s.pocket p).ce.heats = true ∧ (s.pocket p).clearForHeat)) : (s.pocket p).hsc.energized = 0 := by
  have hperm : s.heatPermitted p = false := by
    rw [Bool.eq_false_iff, Ne, State.heatPermitted_iff]
    tauto
  unfold HeatAt State.heatTarget at h
  rw [hperm] at h
  exact Nat.le_zero.mp h

theorem heatAt_of_zero {s : State} {p : Pocket} (h : (s.pocket p).hsc.energized = 0) : HeatAt s p := by
  unfold HeatAt
  omega

/-- A pocket's own part `y` that forbids no heat its own part `x` permits. -/
structure HeatKept (x y : PocketState) : Prop where
  energized : y.hsc.energized ≤ x.hsc.energized := by exact le_refl _
  level : x.hsc.level ≤ y.hsc.level := by exact le_refl _
  heats : x.ce.heats = true → y.ce.heats = true := by exact id
  clear : x.clearForHeat → y.clearForHeat := by exact id

theorem HeatKept.target_le {s : State} {p : Pocket} {y : PocketState} (k : HeatKept (s.pocket p) y) :
    s.heatTarget p ≤ (s.setPocket p y).heatTarget p := by
  unfold State.heatTarget
  split
  · rename_i hperm
    obtain ⟨hheats, hsm, hclear⟩ := (s.heatPermitted_iff p).mp hperm
    have hnew : (s.setPocket p y).heatPermitted p = true := by
      rw [State.heatPermitted_iff, State.pocket_setPocket]
      exact ⟨k.heats hheats, by simpa using hsm, k.clear hclear⟩
    have hlevel := k.level
    rw [if_pos hnew, State.pocket_setPocket, State.granted_setPocket]
    omega
  · exact Nat.zero_le _

theorem HeatKept.heatAt {s : State} {p : Pocket} {y : PocketState} (k : HeatKept (s.pocket p) y) (h : HeatAt s p) :
    HeatAt (s.setPocket p y) p := by
  have hle := k.energized
  have htarget := k.target_le
  unfold HeatAt at *
  rw [State.pocket_setPocket]
  omega

/-- A change of a pocket's own part that keeps its lockout, its buffers, its fault list and its reading. -/
structure OwnLawful (s : State) (x y : PocketState) : Prop where
  lockout : LockoutAt s.now x.dmc → LockoutAt s.now y.dmc := by exact id
  buffers : x.sb.Sound → y.sb.Sound := by exact id
  faults : FaultsAt s.mode x → FaultsAt s.mode y := by exact id
  reading : y.meter.reading = x.meter.reading := by rfl
  level : y.hsc.level ≤ x.hsc.level := by exact le_refl _

/-- What the caps and the interlocks read of a phase entry. -/
def PhaseEntry.heatItems (e : PhaseEntry) : PhaseKind × Nat := (e.kind, e.stageCap)

theorem entry_cases {a b : Option PhaseEntry} (h : b.map PhaseEntry.heatItems = a.map PhaseEntry.heatItems) :
    (a = none ∧ b = none) ∨ ∃ e f, a = some e ∧ b = some f ∧ f.kind = e.kind ∧ f.stageCap = e.stageCap := by
  cases a with
  | none => exact .inl ⟨rfl, by simpa using h⟩
  | some e =>
    cases b with
    | none => simp at h
    | some f =>
      simp only [Option.map_some, Option.some.injEq, PhaseEntry.heatItems, Prod.mk.injEq] at h
      exact .inr ⟨e, f, rfl, rfl, h.1, h.2⟩

/-- What the supply account reads of a pocket's own part is the same. -/
structure SameToAccount (x y : PocketState) : Prop where
  state : y.ce.state = x.ce.state := by rfl
  entry : y.ce.entry.map PhaseEntry.heatItems = x.ce.entry.map PhaseEntry.heatItems := by rfl
  taper : y.me.taperCap = x.me.taperCap := by rfl
  relief : y.tm.relief = x.tm.relief := by rfl
  shed : y.shedDue = x.shedDue := by rfl

/-! ## Acts on a pocket's own part -/

section
variable {s : State} {p : Pocket} {y : PocketState}

theorem OwnLawful.ownSound (h : OwnLawful s (s.pocket p) y)
    (heat : FaultsAt s.mode (s.pocket p) → HeatAt s p → HeatAt (s.setPocket p y) p) : OwnSound p s y :=
  ⟨h.lockout, h.buffers, h.faults, heat, h.reading⟩

theorem SameToAccount.allotment (h : SameToAccount (s.pocket p) y) (hl : y.hsc.level ≤ (s.pocket p).hsc.level)
    (ha : AllotmentHolds s p) : AllotmentHolds (s.setPocket p y) p := by
  have hps := (State.setPocket_shared s p y).2.2.2.2.2.2.2.2.2.2
  have hsa := (State.setPocket_shared s p y).2.2.2.2.2.1
  have hcap : (s.setPocket p y).effectiveCap p = s.effectiveCap p := by
    simp only [State.effectiveCap, State.entry, State.stageCount, State.reliefCap, State.pocket_setPocket, hps, h.state, h.taper, h.relief]
    rcases entry_cases h.entry with ⟨hx, hy⟩ | ⟨e, f, hx, hy, hkind, hstage⟩
    · rw [hx, hy]
    · rw [hx, hy]
      simp only [hkind, hstage, reliefCapOf]
  have hheat : (s.setPocket p y).heating p = s.heating p := by
    simp only [State.heating_eq_heats, CycleEngine.heats, State.pocket_setPocket, h.state]
    rcases entry_cases h.entry with ⟨hx, hy⟩ | ⟨e, f, hx, hy, hkind, -⟩
    · rw [hx, hy]
    · rw [hx, hy]
      simp only [hkind]
  have hlevel := ha.level_le
  refine (allotmentHolds_iff _ p).mpr ⟨?_, ?_⟩
  · rw [hcap, hsa, hheat, State.pocket_setPocket, h.shed]
    exact ha.lists
  · rw [State.pocket_setPocket, State.granted_setPocket]
    omega

/-- A change of what the invariants do not read, or do not forbid. -/
theorem Acts.kept (h : OwnLawful s (s.pocket p) y) (hsame : SameToAccount (s.pocket p) y) (heat : HeatKept (s.pocket p) y) :
    Acts s (s.setPocket p y) :=
  .own s p y (h.ownSound fun _ => heat.heatAt) (hsame.allotment h.level)

/-- A change after which no stage is energized. -/
theorem Acts.dark (h : OwnLawful s (s.pocket p) y) (hsame : SameToAccount (s.pocket p) y) (he : y.hsc.energized = 0) :
    Acts s (s.setPocket p y) :=
  .own s p y (h.ownSound fun _ _ => heatAt_of_zero (by rwa [State.pocket_setPocket])) (hsame.allotment h.level)

/-- A change of the pocket's lines before the end of start-up, where SAFE is off. -/
theorem Acts.held (hm : s.mode ≠ .operating) (h : OwnLawful s (s.pocket p) y) (hsame : SameToAccount (s.pocket p) y)
    (he : y.hsc.energized ≤ (s.pocket p).hsc.energized) : Acts s (s.setPocket p y) := by
  refine .own s p y (h.ownSound fun hf hheat => ?_) (hsame.allotment h.level)
  obtain ⟨-, -, -, hoff⟩ := hf
  have hsafe := (hoff hm).2
  have := hheat.energized_eq_zero (by simp [PocketState.clearForHeat, hsafe])
  exact heatAt_of_zero (by rw [State.pocket_setPocket]; omega)

/-- A change of the cycle state of a pocket that is not RUNNING on a heat phase and holds, so, no entry and no request. -/
theorem Acts.turned (hidle : (s.pocket p).ce.heats = false) (h : OwnLawful s (s.pocket p) y)
    (he : HeatAt s p → y.hsc.energized ≤ (s.pocket p).hsc.energized := by exact fun _ => le_refl _) : Acts s (s.setPocket p y) := by
  have hsa := (State.setPocket_shared s p y).2.2.2.2.2.1
  refine .own s p y (h.ownSound fun _ hheat => ?_) fun ha => ?_
  · have := hheat.energized_eq_zero (by simp [hidle])
    have := he hheat
    exact heatAt_of_zero (by rw [State.pocket_setPocket]; omega)
  · have hempty := ha.lists.idle (.inl hidle)
    have hlevel := ha.level_le
    have hle := h.level
    refine (allotmentHolds_iff _ p).mpr ⟨?_, ?_⟩
    · rw [hsa]
      exact .of_empty (List.length_eq_zero_iff.mp hempty.1) hempty.2
    · rw [State.pocket_setPocket, State.granted_setPocket]
      omega

/-- The pocket's heat stage controller alone changes, in a way that leaves SAFE and has E within its target and L within the granted
count. -/
theorem Acts.heat_changed {k : HeatStages} (hsafe : k.safe = (s.pocket p).hsc.safe)
    (hlevel : k.level ≤ s.granted p ∨ k.level ≤ (s.pocket p).hsc.level)
    (hheat : HeatAt s p → HeatAt (s.onHsc p (fun _ => k)) p) : Acts s (s.onHsc p (fun _ => k)) := by
  refine .own s p { s.pocket p with hsc := k } ⟨id, id, fun hf => ?_, fun _ => hheat, rfl⟩ fun ha => ?_
  · unfold FaultsAt at *
    rwa [hsafe]
  · have hold := ha.level_le
    refine .of_moves (.onHsc p (fun _ => k) s) ?_ ?_
    · rw [(State.setPocket_shared s p _).2.2.2.2.2.1]
      exact ha.lists
    · rw [State.pocket_setPocket, State.granted_setPocket]
      dsimp only
      omega

end

/-! ## The single blocks of a pocket -/

theorem Acts.onRcu (s : State) (p : Pocket) (f : RevolutionCounter → RevolutionCounter) : Acts s (s.onRcu p f) := .kept {} {} {}

theorem Acts.onMeter (s : State) (p : Pocket) (f : PocketMeter → PocketMeter)
    (h : (f (s.pocket p).meter).reading = (s.pocket p).meter.reading) : Acts s (s.onMeter p f) := .kept { reading := h } {} {}

theorem Acts.onMe (s : State) (p : Pocket) (f : Estimator → Estimator) (h : (f (s.pocket p).me).taperCap = (s.pocket p).me.taperCap) :
    Acts s (s.onMe p f) := .kept {} { taper := h } {}

theorem Acts.onTm (s : State) (p : Pocket) (f : TangleMonitor → TangleMonitor) (h : (f (s.pocket p).tm).relief = (s.pocket p).tm.relief) :
    Acts s (s.onTm p f) := .kept {} { relief := h } {}

theorem Acts.onSb (s : State) (p : Pocket) (f : SampleBuffers → SampleBuffers)
    (h : (s.pocket p).sb.Sound → (f (s.pocket p).sb).Sound) : Acts s (s.onSb p f) := .kept { buffers := h } {} {}

/-- The drum changes: it leaves the lockout kept, and RUN is not left. -/
theorem Acts.onDmc (s : State) (p : Pocket) (f : DrumMotion → DrumMotion)
    (hl : LockoutAt s.now (s.pocket p).dmc → LockoutAt s.now (f (s.pocket p).dmc))
    (hr : (s.pocket p).dmc.state = .run → (f (s.pocket p).dmc).state = .run) : Acts s (s.onDmc p f) :=
  .kept { lockout := hl } {} { clear := fun ⟨h1, h2⟩ => ⟨hr h1, h2⟩ }

/-- The cycle engine changes in items beside its state, its current entry and the proof of airflow. -/
theorem Acts.onCe (s : State) (p : Pocket) (f : CycleEngine → CycleEngine) (hs : (f (s.pocket p).ce).state = (s.pocket p).ce.state)
    (he : (f (s.pocket p).ce).entry.map PhaseEntry.heatItems = (s.pocket p).ce.entry.map PhaseEntry.heatItems)
    (ha : (s.pocket p).ce.airflowProven = true → (f (s.pocket p).ce).airflowProven = true) : Acts s (s.onCe p f) :=
  .kept { faults := fun h => by unfold FaultsAt at *; rwa [hs] } { state := hs, entry := he }
    { heats := fun h => by
        unfold CycleEngine.heats at *
        rcases entry_cases he with ⟨hx, hy⟩ | ⟨e, f, hx, hy, hkind, -⟩
        · rwa [hs, hy, ← hx]
        · rw [hx] at h
          rw [hs, hy]
          dsimp only at h ⊢
          rwa [hkind]
      clear := fun ⟨h1, h2, h3, h4⟩ => ⟨h1, h2, ha h3, h4⟩ }

/-- The lines change and neither the door nor the limit switch opens. -/
theorem Acts.onLines (s : State) (p : Pocket) (f : PocketLines → PocketLines)
    (hd : (s.pocket p).lines.doorClosed = true → (f (s.pocket p).lines).doorClosed = true)
    (hh : (s.pocket p).lines.hlimClosed = true → (f (s.pocket p).lines).hlimClosed = true) : Acts s (s.onLines p f) :=
  .kept {} {} { clear := fun ⟨h1, h2, h3, h4, h5⟩ => ⟨h1, hd h2, h3, hh h4, h5⟩ }

/-- Items of the heat stage controller beside L, E, SAFE and the recovery. -/
theorem Acts.onHsc (s : State) (p : Pocket) (f : HeatStages → HeatStages)
    (he : (f (s.pocket p).hsc).energized = (s.pocket p).hsc.energized) (hl : (f (s.pocket p).hsc).level = (s.pocket p).hsc.level)
    (hs : (f (s.pocket p).hsc).safe = (s.pocket p).hsc.safe)
    (hr : (s.pocket p).hsc.recoveryDue = none → (f (s.pocket p).hsc).recoveryDue = none) : Acts s (s.onHsc p f) :=
  .kept { faults := fun h => by unfold FaultsAt at *; rwa [hs], level := le_of_eq hl } {}
    { energized := le_of_eq he, level := le_of_eq hl.symm, clear := fun ⟨h1, h2, h3, h4, h5, h6⟩ => ⟨h1, h2, h3, h4, hr h5, hs ▸ h6⟩ }

theorem Acts.reach (s : State) (t : Ticks) : Acts s (s.reach t) := .clock s _ (Nat.le_max_left _ _)

theorem Acts.elapse (s : State) (n : Ticks) : Acts s (s.elapse n) := .clock s _ (Nat.le_add_right _ _)

theorem Acts.ite {s t u : State} {c : Prop} [Decidable c] (h : c → Acts s t) (k : ¬ c → Acts s u) : Acts s (if c then t else u) := by
  split <;> rename_i hc
  · exact h hc
  · exact k hc

theorem Acts.postIf (s : State) (c : Bool) (k : EventKind) : Acts s (s.postIf c k) := .ite (fun _ => .post s k) fun _ => .refl s

/-- A command that acts only at work. -/
theorem Acts.whenOperating {s : State} {f : State → State} (h : s.mode = .operating → Acts s (f s)) : Acts s (s.whenOperating f) := by
  by_cases hm : s.mode = .operating
  · rw [State.whenOperating_operating f s hm]
    exact h hm
  · rw [State.whenOperating_other f s hm]
    exact .refl s

end Sys2Proof.Machine


/-! PROOF. The drum's, the buffers' and the heat stage controller's operations as acts (O56 to O60). -/

namespace Sys2Proof.Machine

/-! ## The drum (R29 to R39) -/

/-- With the run output off and no lockout wait the lockout is kept. -/
theorem LockoutAt.of_off {n : Ticks} {d : DrumMotion} (hr : d.runOutput = false) (hl : d.lockoutDue = none) : LockoutAt n d :=
  ⟨fun h => by simp [hr] at h, fun t h => by simp [hl] at h⟩

theorem Acts.enterAccel (s : State) (p : Pocket) (dir : Direction) (h : (s.pocket p).dmc.state ≠ .run) : Acts s (s.enterAccel p dir) :=
  (Acts.onDmc s p _ (fun _ => .of_off rfl rfl) (absurd · h)).trans ((Acts.onTm _ p _ rfl).trans (Acts.onRcu _ p _))

/-- The run output may be asserted where the opposite one has been off for 2 s (R31). -/
theorem Acts.assertOutput (s : State) (p : Pocket)
    (h : LockoutAt s.now (s.pocket p).dmc → (s.pocket p).dmc.oppositeOff + seconds 2 ≤ s.now) : Acts s (s.assertOutput p) :=
  Acts.onDmc s p _ (fun hl => ⟨fun _ => h hl, fun t ht => by cases ht⟩) id

theorem Acts.readyOutput (s : State) (p : Pocket) : Acts s (s.readyOutput p) :=
  .ite (fun h => .assertOutput s p fun _ => h) fun _ =>
    Acts.onDmc s p _ (fun hl => ⟨hl.1, fun t ht => by cases ht; exact le_refl _⟩) id

theorem HeatStages.withEnergized_safe (now : Ticks) (n : Nat) (h : HeatStages) : (h.withEnergized now n).safe = h.safe := by
  unfold HeatStages.withEnergized
  split <;> rfl

/-- What the fault list's law reads is the same. -/
theorem FaultsAt.congr {m : Mode} {x y : PocketState} (h : FaultsAt m x) (hfl : y.fl = x.fl) (hs : y.hsc.safe = x.hsc.safe)
    (hst : y.ce.state = .faulted ↔ x.ce.state = .faulted) : FaultsAt m y := by
  unfold FaultsAt at *
  rwa [hfl, hs, hst]

/-- COAST is entered with E at 0 (R35, R46). -/
theorem Acts.toCoast (s : State) (p : Pocket) (u : CoastPurpose) : Acts s (s.toCoast p u) := by
  rw [State.toCoast_eq]
  exact .dark { lockout := fun _ => .of_off rfl rfl, faults := (·.congr rfl (HeatStages.withEnergized_safe ..) Iff.rfl),
                level := le_of_eq (HeatStages.withEnergized_level ..) } {} (HeatStages.withEnergized_energized ..)

theorem Acts.haltDrum (s : State) (p : Pocket) : Acts s (s.haltDrum p) := by
  rw [State.haltDrum_eq]
  cases hd : (s.pocket p).dmc.state
  case stopped => exact .refl s
  case accel | run => exact .toCoast s p .stop
  case coast => exact Acts.onDmc s p _ id id
  case dwell => exact Acts.onDmc s p _ id (by simp [hd])

theorem Acts.stopRequest (s : State) (p : Pocket) : Acts s (s.stopRequest p) :=
  (Acts.onDmc s p _ id id).trans (.haltDrum _ p)

theorem Acts.enterStopped (s : State) (p : Pocket) (h : (s.pocket p).dmc.state ≠ .run) : Acts s (s.enterStopped p) := by
  have h1 : Acts s (s.onDmc p (fun d => { d with state := .stopped, purpose := none, quietDue := none, coastDue := none, dwellDue := none })) :=
    Acts.onDmc s p _ id (absurd · h)
  exact .ite (fun _ => h1.trans (.enterAccel _ p _ (by simp))) fun _ => h1

theorem Acts.startRequest (s : State) (p : Pocket) : Acts s (s.startRequest p) := by
  unfold State.startRequest
  cases hd : (s.pocket p).dmc.state
  case stopped => exact .ite (fun _ => .enterAccel s p _ (by simp [hd])) fun _ => Acts.onDmc s p _ id id
  case coast => exact .ite (fun _ => Acts.onDmc s p _ id id) fun _ => .refl s
  all_goals exact .refl s

theorem Acts.enterDwell (s : State) (p : Pocket) (h : (s.pocket p).dmc.state ≠ .run) : Acts s (s.enterDwell p) :=
  Acts.onDmc s p _ id (absurd · h)

theorem Acts.resetRestarts (s : State) (p : Pocket) : Acts s (s.resetRestarts p) := Acts.onDmc s p _ id id

/-! ## E, L and the release hold (R103 to R108, R137) -/

theorem Acts.dropE (s : State) (p : Pocket) : Acts s (s.dropE p) :=
  .heat_changed (HeatStages.withEnergized_safe ..) (.inr (le_of_eq (HeatStages.withEnergized_level ..))) fun _ => heatAt_dropE s p

theorem Acts.riseE (s : State) (p : Pocket) : Acts s (s.riseE p) := by
  by_cases h : ((s.pocket p).hsc.energized < s.heatTarget p && s.riseDue p) = true
  · have e : s.riseE p = s.onHsc p (fun _ => { (s.pocket p).hsc with
        energized := (s.pocket p).hsc.energized + 1, lastRise := some s.now, lastChange := s.now }) := by
      rw [State.riseE, if_pos h]
      rfl
    rw [e]
    exact .heat_changed rfl (.inr (le_refl _)) fun hheat => e ▸ hheat.riseE
  · rw [State.riseE, if_neg h]
    exact .refl s

theorem Acts.followE (s : State) (p : Pocket) : Acts s (s.followE p) := (Acts.dropE s p).trans (.riseE _ p)

theorem Acts.considerHold (s : State) (p : Pocket) (c : Bool) : Acts s (s.considerHold p c) :=
  Acts.onHsc s p _ (by split_ifs <;> rfl) (by split_ifs <;> rfl) (by split_ifs <;> rfl) (by split_ifs <;> exact id)

/-- E that follows its target changes the pocket's E and its times alone. -/
theorem State.followE_eq (s : State) (p : Pocket) :
    ∃ k : HeatStages, s.followE p = s.onHsc p (fun _ => k) ∧ k.safe = (s.pocket p).hsc.safe ∧ k.level = (s.pocket p).hsc.level := by
  have hdrop : s.dropE p = s.onHsc p (fun _ => (s.pocket p).hsc.withEnergized s.now (min (s.pocket p).hsc.energized (s.heatTarget p))) := rfl
  have htwice : ∀ (k : HeatStages) (f : HeatStages → HeatStages), (s.onHsc p (fun _ => k)).onHsc p f = s.onHsc p (fun _ => f k) := by
    intro k f
    cases p <;> rfl
  unfold State.followE State.riseE
  split
  · rw [hdrop, htwice]
    exact ⟨_, rfl, HeatStages.withEnergized_safe .., HeatStages.withEnergized_level ..⟩
  · exact ⟨_, hdrop, HeatStages.withEnergized_safe .., HeatStages.withEnergized_level ..⟩

/-- L becomes `n`, within the granted count or no more than it was, and E follows (R103, R108). -/
theorem Acts.setLevel (s : State) (p : Pocket) (n : Nat) (h : n ≤ s.granted p ∨ n ≤ (s.pocket p).hsc.level) : Acts s (s.setLevel p n) := by
  have htwice : ∀ (f g : HeatStages → HeatStages), (s.onHsc p f).onHsc p g = s.onHsc p (fun h => g (f h)) := by
    intro f g
    cases p <;> rfl
  have hhold : ∃ k : HeatStages, (s.onHsc p (fun h => h.withLevel s.now n)).considerHold p (n != (s.pocket p).hsc.level) = s.onHsc p (fun _ => k)
      ∧ k.safe = (s.pocket p).hsc.safe ∧ k.level = n := by
    rw [State.considerHold, htwice]
    have hw : ((s.pocket p).hsc.withLevel s.now n).safe = (s.pocket p).hsc.safe := by
      unfold HeatStages.withLevel
      split <;> rfl
    refine ⟨_, rfl, ?_, ?_⟩
    · split_ifs <;> exact hw
    · split_ifs <;> exact HeatStages.withLevel_level ..
  obtain ⟨k, hk, hsafe, hlevel⟩ := hhold
  obtain ⟨m, hm, hmsafe, hmlevel⟩ := (s.onHsc p (fun _ => k)).followE_eq p
  rw [htwice] at hm
  rw [State.pocket_onHsc] at hmsafe hmlevel
  have e : s.setLevel p n = s.onHsc p (fun _ => m) := by
    rw [← hm, ← hk]
    rfl
  rw [e]
  refine .heat_changed (hmsafe.trans hsafe) (by rw [hmlevel, hlevel]; exact h) fun _ => ?_
  rw [← hm]
  exact heatAt_followE _ p

theorem Acts.askRelease (s : State) (p : Pocket) : Acts s (s.askRelease p) := by
  unfold State.askRelease
  split
  · exact .ite (fun _ => .releaseTop s p) fun _ => .considerHold s p true
  · exact .releaseTop s p

theorem Acts.endFreshGrant (s : State) (p : Pocket) (fresh : Bool) : Acts s (s.endFreshGrant p fresh) := by
  have h : Acts s (s.onHsc p (fun h => { h with askedStage := none })) := Acts.onHsc s p _ rfl rfl rfl id
  exact .ite (fun _ => .ite (fun _ => h.trans (.releaseTop _ p)) fun _ => h) fun _ => .refl s

theorem Acts.stepLevel (s : State) (p : Pocket) (te : Int) (target hb : Nat) : Acts s (s.stepLevel p te target hb) := by
  refine .ite (fun _ => .refl s) fun _ => .ite (fun _ => .setLevel s p _ (.inr (Nat.sub_le _ _))) fun _ => .ite (fun _ => ?_) fun _ => .refl s
  exact .ite (fun h => .setLevel s p _ (.inl h)) fun _ => .ite (fun _ => .postRequest s p _) fun _ => .refl s

theorem Acts.regulate (s : State) (p : Pocket) (te : Int) : Acts s (s.regulate p te) := by
  have hcut : Acts s ((s.cutHeat p).withdraw p) := (Acts.setLevel s p 0 (.inr (Nat.zero_le _))).trans (.withdraw _ p)
  unfold State.regulate
  split
  · exact .ite (fun _ => .refl s) fun _ => .ite (fun _ => hcut) fun _ => .ite (fun _ => hcut) fun _ =>
      .ite (fun _ => (Acts.stepLevel s p te _ _).trans (.withdraw _ p)) fun _ => .stepLevel s p te _ _
  · exact .refl s

/-! ## The sample buffers (R185, R186) -/

theorem SampleBuffers.filling_eq_some {b : SampleBuffers} (h : ¬ (b.x.state = .filling ∧ b.y.state = .filling)) (n : BufferName) :
    b.filling = some n ↔ (b.buffer n).state = .filling := by
  unfold SampleBuffers.filling
  cases n <;> cases hx : b.x.state <;> cases hy : b.y.state <;> simp_all [SampleBuffers.buffer]

/-- The law of the buffers by the FILLING one (R185). -/
theorem SampleBuffers.sound_iff (b : SampleBuffers) (n : BufferName) :
    b.Sound ↔ BufferHolds (b.buffer n) ∧ BufferHolds (b.buffer n.other)
      ∧ ¬ ((b.buffer n).state = .filling ∧ (b.buffer n.other).state = .filling)
      ∧ (b.flushDue.isSome = true → b.fillingHeld.isSome = true) := by
  cases n
  · exact Iff.rfl
  · simp only [SampleBuffers.Sound, SampleBuffers.buffer, BufferName.other]
    tauto

/-- A buffer with one to twelve records becomes READY beside one that is not FILLING (R185). -/
theorem SampleBuffers.makeReady_sound {b : SampleBuffers} {n : BufferName} (hle : 1 ≤ (b.buffer n).records.length)
    (hge : (b.buffer n).records.length ≤ 12) (ho : BufferHolds (b.buffer n.other)) (hof : (b.buffer n.other).state ≠ .filling) :
    (b.makeReady n).Sound := by
  have hother : BufferHolds (if (b.buffer n.other).state == .free then { b.buffer n.other with state := .filling } else b.buffer n.other) := by
    split
    · rename_i hfree
      have hstate : (b.buffer n.other).state = .free := by simpa using hfree
      simp only [BufferHolds, hstate] at ho
      simp [BufferHolds, ho]
    · exact ho
  cases n
  · exact ⟨⟨hle, hge⟩, hother, by simp [SampleBuffers.makeReady, SampleBuffers.setBuffer, BufferName.other], by simp [SampleBuffers.makeReady]⟩
  · exact ⟨hother, ⟨hle, hge⟩, by simp [SampleBuffers.makeReady, SampleBuffers.setBuffer, BufferName.other], by simp [SampleBuffers.makeReady]⟩

theorem SampleBuffers.Sound.filling_holds {b : SampleBuffers} (h : b.Sound) {n : BufferName} (hn : b.filling = some n) :
    (b.buffer n).state = .filling ∧ (b.buffer n).records.length < 12 ∧ BufferHolds (b.buffer n.other)
      ∧ (b.buffer n.other).state ≠ .filling := by
  have hstate := (SampleBuffers.filling_eq_some h.2.2.1 n).mp hn
  obtain ⟨hb, ho, hone, -⟩ := (b.sound_iff n).mp h
  simp only [BufferHolds, hstate] at hb
  exact ⟨hstate, hb, ho, fun hf => hone ⟨hstate, hf⟩⟩

/-- A FILLING buffer that holds a record becomes READY. -/
theorem SampleBuffers.Sound.flushed {b : SampleBuffers} (h : b.Sound) {n : BufferName} (hn : b.fillingHeld = some n) :
    (b.makeReady n).Sound := by
  unfold SampleBuffers.fillingHeld at hn
  split at hn
  · rename_i m hm
    split at hn
    · cases hn
    · rename_i hne
      cases hn
      obtain ⟨-, hlen, ho, hof⟩ := h.filling_holds hm
      exact SampleBuffers.makeReady_sound (Nat.pos_of_ne_zero fun h0 => hne (by simpa using List.length_eq_zero_iff.mp h0)) hlen.le ho hof
  · cases hn

/-- The buffers after a record: appended, and the FILLING one made READY where it was the twelfth (R185). -/
def SampleBuffers.recorded (flushAt : Ticks) (r : RevolutionRecord) (b : SampleBuffers) : SampleBuffers :=
  match (b.append flushAt r).fillingFull with
  | some n => (b.append flushAt r).makeReady n
  | none => b.append flushAt r

/-- The record joins the FILLING buffer. -/
theorem SampleBuffers.append_filling {b : SampleBuffers} {n : BufferName} (hn : b.filling = some n) (flushAt : Ticks) (r : RevolutionRecord) :
    ((b.append flushAt r).buffer n) = { b.buffer n with records := (b.buffer n).records ++ [r] }
    ∧ (b.append flushAt r).buffer n.other = b.buffer n.other ∧ (b.append flushAt r).filling = some n := by
  have e : b.append flushAt r
      = { b.setBuffer n { b.buffer n with records := (b.buffer n).records ++ [r] } with flushDue := some flushAt } := by
    unfold SampleBuffers.append
    rw [hn]
  rw [e]
  unfold SampleBuffers.filling at hn ⊢
  cases n <;> exact ⟨rfl, rfl, hn⟩

theorem SampleBuffers.Sound.recorded {b : SampleBuffers} (h : b.Sound) (flushAt : Ticks) (r : RevolutionRecord) :
    (b.recorded flushAt r).Sound := by
  unfold SampleBuffers.recorded
  cases hf : b.filling with
  | none =>
    have e : b.append flushAt r = { b with overrun := true } := by
      unfold SampleBuffers.append
      rw [hf]
    have hnone : (b.append flushAt r).fillingFull = none := by
      have : (b.append flushAt r).filling = none := by rw [e]; exact hf
      simp only [SampleBuffers.fillingFull, this]
    rw [hnone, e]
    exact h
  | some n =>
    obtain ⟨hstate, hlen, ho, hof⟩ := h.filling_holds hf
    obtain ⟨hb, hbo, hfill⟩ := SampleBuffers.append_filling hf flushAt r
    have hcount : ((b.append flushAt r).buffer n).records.length = (b.buffer n).records.length + 1 := by rw [hb]; simp
    have hfull : (b.append flushAt r).fillingFull = if 12 ≤ ((b.append flushAt r).buffer n).records.length then some n else none := by
      simp only [SampleBuffers.fillingFull, hfill]
    rw [hfull]
    by_cases htwelve : 12 ≤ ((b.append flushAt r).buffer n).records.length
    · rw [if_pos htwelve]
      exact SampleBuffers.makeReady_sound (n := n) (by omega) (by omega) (hbo ▸ ho) (hbo ▸ hof)
    · rw [if_neg htwelve]
      refine (SampleBuffers.sound_iff _ n).mpr ⟨?_, hbo ▸ ho, fun hboth => hof (hbo ▸ hboth.2), fun _ => ?_⟩
      · rw [hb]
        have : ((b.buffer n).records ++ [r]).length < 12 := by rw [List.length_append, List.length_singleton]; omega
        simpa only [BufferHolds, hstate] using this
      · simp only [SampleBuffers.fillingHeld, hfill, hb]
        simp

/-- A fetched buffer is emptied (R186). -/
theorem SampleBuffers.Sound.fetched {b : SampleBuffers} (h : b.Sound) {n : BufferName} (hn : b.older = some n) : (b.fetched n).Sound := by
  have hready : (b.buffer n).state = .ready := by
    unfold SampleBuffers.older at hn
    split_ifs at hn with hboth hx hy <;> cases hn
    · obtain ⟨hx, hy⟩ := (Bool.and_eq_true _ _).mp hboth
      cases b.olderReady
      · exact beq_iff_eq.mp hx
      · exact beq_iff_eq.mp hy
    · exact beq_iff_eq.mp hx
    · exact beq_iff_eq.mp hy
  obtain ⟨-, ho, -, hflush⟩ := (b.sound_iff n).mp h
  have hn1 : (b.fetched n).buffer n = { state := if b.filling.isNone then .filling else .free, records := [] } := by cases n <;> rfl
  have ho1 : (b.fetched n).buffer n.other = b.buffer n.other := by cases n <;> rfl
  have hd : (b.fetched n).flushDue = b.flushDue := by cases n <;> rfl
  refine (SampleBuffers.sound_iff _ n).mpr ?_
  rw [hn1, ho1, hd]
  cases hf : b.filling with
  | none =>
    have hof : (b.buffer n.other).state ≠ .filling := fun hx => by
      rw [(SampleBuffers.filling_eq_some h.2.2.1 _).mpr hx] at hf
      cases hf
    have hidle : b.fillingHeld = none := by simp only [SampleBuffers.fillingHeld, hf]
    exact ⟨by simp [BufferHolds], ho, fun hboth => hof hboth.2, fun hx => by rw [hidle] at hflush; exact absurd (hflush hx) (by simp)⟩
  | some m =>
    have hm := (SampleBuffers.filling_eq_some h.2.2.1 m).mp hf
    have hmo : m = n.other := by
      cases m <;> cases n <;> simp_all [BufferName.other]
    subst hmo
    have hfill : (b.fetched n).fillingHeld = b.fillingHeld := by
      have hfetched : (b.fetched n).filling = some n.other := by
        refine (SampleBuffers.filling_eq_some (n := n.other) ?_).mpr (ho1 ▸ hm)
        have hfree : ((b.fetched n).buffer n).state = .free := by rw [hn1, hf]; rfl
        cases n
        · exact fun hboth => by rw [show (b.fetched .x).x.state = .free from hfree] at hboth; cases hboth.1
        · exact fun hboth => by rw [show (b.fetched .y).y.state = .free from hfree] at hboth; cases hboth.2
      simp only [SampleBuffers.fillingHeld, hfetched, hf, ho1]
    exact ⟨by simp [BufferHolds], ho, by simp, fun hx => by rw [hfill]; exact hflush hx⟩

theorem Acts.flushSamples (s : State) (p : Pocket) : Acts s (s.flushSamples p) := by
  unfold State.flushSamples State.bufferReady
  split
  · rename_i n hn
    exact (Acts.onSb s p _ fun h => h.flushed hn).trans (.post _ _)
  · exact .refl s

theorem Acts.appendSample (s : State) (p : Pocket) (r : RevolutionRecord) : Acts s (s.appendSample p r) := by
  set flushAt := s.now + seconds (s.item p PocketItem.flushTime) with hat
  have hpocket : ((s.onSb p (·.append flushAt r)).pocket p).sb = (s.pocket p).sb.append flushAt r := by simp
  have hrec : Acts s (s.onSb p (·.recorded flushAt r)) := .onSb s p _ (·.recorded flushAt r)
  unfold State.appendSample State.bufferReady
  dsimp only
  rw [← hat, hpocket]
  unfold SampleBuffers.recorded at hrec
  cases hn : ((s.pocket p).sb.append flushAt r).fillingFull with
  | none =>
    have e : s.onSb p (fun b => match (b.append flushAt r).fillingFull with
        | some n => (b.append flushAt r).makeReady n
        | none => b.append flushAt r) = s.onSb p (·.append flushAt r) := by
      simp only [State.onSb, hn]
    exact e ▸ hrec
  | some n =>
    have e : s.onSb p (fun b => match (b.append flushAt r).fillingFull with
        | some n => (b.append flushAt r).makeReady n
        | none => b.append flushAt r) = (s.onSb p (·.append flushAt r)).onSb p (·.makeReady n) := by
      simp only [State.onSb, hn, State.pocket_setPocket, State.setPocket_setPocket]
    exact (e ▸ hrec).trans (.post _ _)

end Sys2Proof.Machine


/-! PROOF. The cycle engine's transitions, trips and the fault list as acts (O56 to O60). -/

namespace Sys2Proof.Machine

/-! ## Leaving a cycle (R14, R20, R22) -/

section
variable {s : State} {p : Pocket} {y : PocketState}

/-- The target is 0 where the pocket is not RUNNING on a heat phase or an interlock of its own fails. -/
theorem State.heatTarget_zero_of_own {s : State} {p : Pocket}
    (h : ¬ ((s.pocket p).ce.heats = true ∧ (s.pocket p).clearForHeat)) : s.heatTarget p = 0 := by
  have hperm : s.heatPermitted p = false := by
    rw [Bool.eq_false_iff, Ne, State.heatPermitted_iff]
    tauto
  unfold State.heatTarget
  rw [hperm]
  rfl

/-- An own part whose target is 0, with E fallen to it. -/
theorem State.dropE_setPocket_zero (s : State) (p : Pocket) (h : ¬ (y.ce.heats = true ∧ y.clearForHeat)) :
    (s.setPocket p y).dropE p = s.setPocket p { y with hsc := y.hsc.withEnergized s.now 0 } := by
  have ht : (s.setPocket p y).heatTarget p = 0 := State.heatTarget_zero_of_own (by rwa [State.pocket_setPocket])
  simp only [State.dropE, State.onHsc, ht, State.pocket_setPocket, State.setPocket_setPocket, Nat.min_zero, State.setPocket_shared]

/-- E falls to 0 as an interlock of the pocket's own fails. -/
theorem Acts.cut (hcut : ¬ (y.ce.heats = true ∧ y.clearForHeat)) (h : OwnLawful s (s.pocket p) y) (hsame : SameToAccount (s.pocket p) y) :
    Acts s ((s.setPocket p y).dropE p) := by
  rw [State.dropE_setPocket_zero s p hcut]
  refine .dark ⟨h.lockout, h.buffers, fun hf => (h.faults hf).congr rfl (HeatStages.withEnergized_safe ..) Iff.rfl, h.reading, ?_⟩
    ⟨hsame.state, hsame.entry, hsame.taper, hsame.relief, hsame.shed⟩ (HeatStages.withEnergized_energized ..)
  exact (le_of_eq (HeatStages.withEnergized_level ..)).trans h.level

/-- A pocket gives its heat up: an own part that is not RUNNING on a heat phase, with E fallen and all released. -/
theorem Acts.give_up (hidle : y.ce.heats = false) (h : OwnLawful s (s.pocket p) y) : Acts s (((s.setPocket p y).dropE p).releaseAll p) := by
  rw [State.dropE_setPocket_zero s p (by simp [hidle])]
  have hlevel : (y.hsc.withEnergized s.now 0).level ≤ (s.pocket p).hsc.level := (le_of_eq (HeatStages.withEnergized_level ..)).trans h.level
  refine .unheated s p _ ⟨⟨h.lockout, h.buffers, fun hf => (h.faults hf).congr rfl (HeatStages.withEnergized_safe ..) Iff.rfl, fun _ _ => ?_,
    h.reading⟩, ?_, hlevel⟩
  · exact heatAt_of_zero (by rw [State.pocket_setPocket]; exact HeatStages.withEnergized_energized ..)
  · rw [State.heating_eq_heats, State.pocket_setPocket]
    exact hidle

/-- A cycle is left from an own part `y` into the cycle engine `c`. -/
theorem Acts.leaveCycle_of {c : CycleEngine} (hc : c.state ≠ .running) (h : OwnLawful s (s.pocket p) { y with ce := c }) :
    Acts s ((s.setPocket p y).leaveCycle p c) := by
  have e : ((s.setPocket p y).onCe p (fun _ => c)).onMe p (fun m => { m with dryNotice := none })
      = s.setPocket p { y with ce := c, me := { y.me with dryNotice := none } } := by
    simp [State.onCe, State.onMe]
  unfold State.leaveCycle
  rw [e]
  refine (Acts.give_up (y := { y with ce := c, me := { y.me with dryNotice := none } }) ?_
    ⟨h.lockout, h.buffers, h.faults, h.reading, h.level⟩).trans (.stopRequest _ p)
  simp [CycleEngine.heats, hc]

theorem Acts.leaveCycle {c : CycleEngine} (hc : c.state ≠ .running) (hold : (s.pocket p).ce.state ≠ .faulted) (hnew : c.state ≠ .faulted) :
    Acts s (s.leaveCycle p c) := by
  have := Acts.leaveCycle_of (s := s) (p := p) (y := s.pocket p) (c := c) hc
    { faults := (·.congr rfl rfl (by simp [hold, hnew])) }
  rwa [State.setPocket_pocket] at this

end

/-- The cycle engine of an entry to a wind-down (R20, R22). -/
def State.windDownEngine (s : State) (p : Pocket) (state : CycleState) (reason : CycleEndReason) : CycleEngine :=
  { (s.pocket p).ce with
      state := state, endReason := some reason, windingDown := true, pause := none, purgeDue := none, provingDue := none,
      lossDue := none, runOnSince := some s.now, phaseTicks := s.phaseTicks p, runSince := none,
      closureDue := if (s.pocket p).ce.blowerDemand then (s.pocket p).ce.closureDue
        else if (s.pocket p).lines.airfClosed then some (s.now + seconds 1) else none }

theorem State.enterWindDown_eq (s : State) (p : Pocket) (state : CycleState) (reason : CycleEndReason) :
    s.enterWindDown p state reason = s.leaveCycle p (s.windDownEngine p state reason) := by
  unfold State.enterWindDown State.leaveCycle State.windDownEngine
  simp only [State.onCe, CycleEngine.frozen]

theorem Acts.enterWindDown (s : State) (p : Pocket) (reason : CycleEndReason) (h : (s.pocket p).ce.state ≠ .faulted) :
    Acts s (s.enterWindDown p .windingDown reason) := by
  rw [State.enterWindDown_eq]
  exact .leaveCycle (by simp [State.windDownEngine]) h (by simp [State.windDownEngine])

theorem Acts.enterPaused (s : State) (p : Pocket) (cause : PauseCause) (h : (s.pocket p).ce.state ≠ .faulted) :
    Acts s (s.enterPaused p cause) := by
  have e : s.enterPaused p cause = (s.leaveCycle p { (s.pocket p).ce with
      state := .paused, pause := some (cause, s.now), purgeDue := some (s.now + seconds 30), provingDue := none, lossDue := none,
      phaseTicks := s.phaseTicks p, runSince := none }).post (.paused p) := rfl
  rw [e]
  exact (Acts.leaveCycle (by simp) h (by simp)).trans (.post _ _)

/-! ## Phases (R7, R10, R13, R17) -/

/-- A phase starts in RUNNING with the cycle engine `c`, whose entry may be another one (R10). -/
theorem Acts.phaseStart (s : State) (p : Pocket) (c : CycleEngine) (hold : (s.pocket p).ce.state = .running) (hnew : c.state = .running)
    (hair : c.airflowProven = (s.pocket p).ce.airflowProven) : Acts s ((s.onCe p (fun _ => c)).phaseStart p) := by
  set u := s.onCe p (fun _ => c) with hu
  have hup : u.pocket p = { s.pocket p with ce := c } := by simp [hu]
  obtain ⟨m, hm⟩ : ∃ m : Estimator, ((u.onCe p (fun c => { c with earlierSeconds := u.totalRunning p, phaseTicks := 0, runSince := some u.now, begun := true })
      |>.onMe p (fun m => { m with
          hold := if (u.entry p).any (fun e => e.kind == .heatDry) then 0 else m.hold,
          lastA := if u.onHeatEntry p then m.lastA else none, dryNotice := none })
      |>.updateTaper p |>.onHsc p (fun h => { h with overCount := 0 })))
      = s.setPocket p { s.pocket p with
          ce := { c with earlierSeconds := u.totalRunning p, phaseTicks := 0, runSince := some u.now, begun := true }, me := m,
          hsc := { (s.pocket p).hsc with overCount := 0 } } := by
    refine ⟨(((u.onCe p (fun c => { c with earlierSeconds := u.totalRunning p, phaseTicks := 0, runSince := some u.now, begun := true })
      |>.onMe p (fun m => { m with
          hold := if (u.entry p).any (fun e => e.kind == .heatDry) then 0 else m.hold,
          lastA := if u.onHeatEntry p then m.lastA else none, dryNotice := none })
      |>.updateTaper p).pocket p)).me, ?_⟩
    simp [State.updateTaper, State.onMe, State.onCe, State.onHsc, hu]
  have hheats : u.onHeatEntry p = { c with earlierSeconds := u.totalRunning p, phaseTicks := 0, runSince := some u.now, begun := true }.heats := by
    simp only [State.onHeatEntry, State.entry, CycleEngine.heats, hup, hnew, beq_self_eq_true, Bool.true_and]
    rfl
  have hfaults : ∀ {z : PocketState}, z.fl = (s.pocket p).fl → z.hsc.safe = (s.pocket p).hsc.safe → z.ce.state = .running →
      FaultsAt s.mode (s.pocket p) → FaultsAt s.mode z := fun h1 h2 h3 hf => hf.congr h1 h2 (by simp [h3, hold])
  unfold State.phaseStart
  dsimp only
  rw [hm]
  split
  · rename_i hheat
    refine .recapped s p _ ⟨⟨id, id, hfaults rfl rfl hnew, fun _ h => HeatKept.heatAt { heats := fun _ => ?_, clear := ?_ } h, rfl⟩, fun _ => ?_, rfl,
      le_refl _⟩
    · exact hheats ▸ hheat
    · exact fun ⟨h1, h2, h3, h4⟩ => ⟨h1, h2, hair ▸ h3, h4⟩
    · rw [State.heating_eq_heats, State.pocket_setPocket]
      exact hheats ▸ hheat
  · rename_i hheat
    exact .give_up (by rw [← hheats]; simpa using hheat) { faults := hfaults rfl rfl hnew }

theorem Acts.drumReachedRun (s : State) (p : Pocket) : Acts s (s.drumReachedRun p) := by
  unfold State.drumReachedRun
  dsimp only
  split
  · rename_i hp
    have hproving : (s.pocket p).ce.state = .proving := by simpa using hp
    set c : CycleEngine := { (s.pocket p).ce with state := .running, provingDue := none, runSince := some s.now } with hc
    have h1 : Acts s (s.onCe p (fun c => { c with state := .running, provingDue := none, runSince := some s.now })) :=
      .turned (by simp [CycleEngine.heats, hproving]) { faults := (·.congr rfl rfl (by simp [hproving])) }
    refine .ite (fun _ => h1) fun _ => h1.trans ?_
    have h2 := Acts.phaseStart (s.onCe p (fun _ => c)) p c (by simp [hc]) (by simp [hc]) (by simp [hc])
    have e : (s.onCe p (fun _ => c)).onCe p (fun _ => c) = s.onCe p (fun _ => c) := by simp [State.onCe]
    rw [e] at h2
    exact h2
  · exact .refl s

theorem State.onCe_post (s : State) (p : Pocket) (k : EventKind) (f : CycleEngine → CycleEngine) :
    (s.onCe p f).post k = (s.post k).onCe p f := by cases p <;> rfl

/-- A phase ends in RUNNING (R13). -/
theorem Acts.endPhase (s : State) (p : Pocket) (reason : PhaseEndReason) (h : (s.pocket p).ce.state = .running) :
    Acts s (s.endPhase p reason) := by
  unfold State.endPhase
  dsimp only
  split
  · rename_i i e _ _
    have h1 : Acts s ((s.onCe p (fun c =>
        { c with phasesCompleted := c.phasesCompleted + 1, lastPhaseEnd := some (i, reason),
                 lastDryEnd := if e.kind == .heatDry then some reason else c.lastDryEnd,
                 hotExit := c.hotExit || (e.kind == .cool && reason == .time) })).post (.phaseEnd p)) :=
      (Acts.onCe s p _ rfl rfl id).trans (.post _ _)
    refine .ite (fun _ => h1.trans ?_) fun _ => h1.trans (.enterWindDown _ p _ (by simp [h]))
    exact Acts.phaseStart _ p _ (by simp [h]) (by simp [h]) (by simp)
  · exact .refl s

/-- The jump of STOP COOL (R17). -/
theorem Acts.jumpToCool (s : State) (p : Pocket) (i j : Nat) (h : (s.pocket p).ce.state = .running) : Acts s (s.jumpToCool p i j) := by
  unfold State.jumpToCool
  rw [State.onCe_post]
  exact (Acts.post s _).trans (Acts.phaseStart _ p _ (by simp [h]) (by simp [h]) (by simp))

theorem Acts.stopCool (s : State) (p : Pocket) (h : (s.pocket p).ce.state = .running) : Acts s (s.stopCool p) := by
  have hw : Acts s (s.enterWindDown p .windingDown .stopped) := .enterWindDown s p _ (by simp [h])
  unfold State.stopCool
  split
  · split
    · exact .jumpToCool s p _ _ h
    · exact hw
  · exact hw

theorem Acts.enterProving (s : State) (p : Pocket) (h : (s.pocket p).ce.state ≠ .running) (hf : (s.pocket p).ce.state ≠ .faulted) :
    Acts s (s.enterProving p) :=
  .turned (by simp [CycleEngine.heats, h]) { faults := (·.congr rfl rfl (by simp [hf])) }

/-! ## The end of a wind-down (R21) -/

theorem Acts.finishWindDown (s : State) (p : Pocket) : Acts s (s.finishWindDown p) := by
  refine .ite (fun _ => Acts.trans ?_ ((Acts.flushSamples _ p).trans (.post _ _))) fun _ => .refl s
  by_cases hw : (s.pocket p).ce.state = .windingDown
  · exact .turned (by simp [CycleEngine.heats, hw]) { faults := (·.congr rfl rfl (by simp [hw])) }
  · have hb : ((s.pocket p).ce.state == .windingDown) = false := by simpa using hw
    exact Acts.onCe s p _ (by simp [hb]) rfl id

/-- The blower's demand ends, and with it the proof of airflow (R6, R107). -/
theorem Acts.blowerEnds (s : State) (p : Pocket) (f : CycleEngine → CycleEngine) (hs : (f (s.pocket p).ce).state = (s.pocket p).ce.state)
    (he : (f (s.pocket p).ce).entry.map PhaseEntry.heatItems = (s.pocket p).ce.entry.map PhaseEntry.heatItems) (ha : (f (s.pocket p).ce).airflowProven = false) :
    Acts s ((s.onCe p f).dropE p) :=
  .cut (by simp [PocketState.clearForHeat, ha]) { faults := (·.congr rfl rfl (by rw [hs])) } { state := hs, entry := he }

theorem Acts.endRunOn (s : State) (p : Pocket) : Acts s (s.endRunOn p) :=
  (Acts.blowerEnds s p _ rfl rfl rfl).trans (.finishWindDown _ p)

end Sys2Proof.Machine


/-! PROOF. Reports, trips and CLEAR_FAULT as acts (O56 to O60). -/

namespace Sys2Proof.Machine

/-! ## What a report makes of a fault list (R160 to R163) -/

/-- The TRIP records of a list. -/
def tripRecords (l : List FaultRecord) : List FaultRecord := l.filter (fun r => isTrip r.kind)

theorem FaultList.trips_eq (f : FaultList) : f.trips = (tripRecords f.records).length := rfl

theorem FaultList.holds_of_tripRecords {f g : FaultList} (h : tripRecords f.records = tripRecords g.records) {k : FaultKind}
    (hk : isTrip k = true) : f.holds k = g.holds k := by
  have e : ∀ l : FaultList, l.holds k = (tripRecords l.records).any (fun r => r.kind == k) := by
    intro l
    simp only [FaultList.holds, tripRecords, List.any_filter]
    congr 1
    funext r
    by_cases hr : r.kind = k
    · simp [hr, hk]
    · simp [hr]
  rw [e f, e g, h]

/-- What a report makes of the records: a repeat of a listed kind, a new record behind records that keep every TRIP but where
HEATER_STUCK_ON takes the head's place, or nothing where the list is full of TRIP records. -/
theorem FaultList.take_records {f : FaultList} (hf : f.records.length ≤ 6) (phase : Option Nat) (n : Nat) (k : FaultKind) (detail : Option Nat) :
    (f.holds k = true ∧ (f.take phase n k detail).1.records = f.records.map (fun q => if q.kind == k then q.repeated n detail else q))
    ∨ (f.holds k = false ∧ ∃ l : List FaultRecord, (f.take phase n k detail).1.records = l ++ [newRecord phase n k detail]
        ∧ l.Sublist f.records ∧ l.length < 6 ∧ (k ≠ .heaterStuckOn → tripRecords l = tripRecords f.records))
    ∨ (k ≠ .heaterStuckOn ∧ (f.take phase n k detail).1.records = f.records ∧ 0 < f.trips) := by
  unfold FaultList.take
  dsimp only
  by_cases hk : f.holds k = true
  · rw [if_pos hk]
    exact .inl ⟨hk, rfl⟩
  · have hk' : f.holds k = false := by simpa using hk
    rw [if_neg hk]
    by_cases hlen : f.records.length < 6
    · rw [if_pos hlen]
      exact .inr (.inl ⟨hk', _, rfl, List.Sublist.refl _, hlen, fun _ => rfl⟩)
    · rw [if_neg hlen]
      by_cases hw : (f.records.any fun q => !isTrip q.kind) = true
      · rw [if_pos hw]
        obtain ⟨before, after, w, hsplit, hwarn, -, herase⟩ := eraseP_split (fun q : FaultRecord => !isTrip q.kind) f.records (by simpa using hw)
        have hlength := congrArg List.length hsplit
        simp only [List.length_append, List.length_cons] at hlength
        refine .inr (.inl ⟨hk', _, rfl, List.eraseP_sublist, ?_, fun _ => ?_⟩)
        · rw [herase, List.length_append]
          omega
        · have hwarn' : isTrip w.kind = false := by simpa using hwarn
          rw [herase, hsplit]
          simp [tripRecords, hwarn']
      · rw [if_neg hw]
        by_cases hs : k = .heaterStuckOn
        · subst hs
          refine .inr (.inl ⟨hk', f.records.drop 1, rfl, List.drop_sublist _ _, ?_, fun h => absurd rfl h⟩)
          rw [List.length_drop]
          omega
        · have hb : (k == .heaterStuckOn) = false := by simpa using hs
          rw [hb]
          refine .inr (.inr ⟨hs, rfl, ?_⟩)
          have hall : tripRecords f.records = f.records := by
            refine List.filter_eq_self.mpr fun r hr => ?_
            by_contra hn
            exact hw (List.any_eq_true.mpr ⟨r, hr, by simpa using hn⟩)
          rw [FaultList.trips_eq, hall]
          omega

/-- A report keeps the law of the list (R158, R162). -/
theorem FaultListHolds.take {f : FaultList} (h : FaultListHolds f) (phase : Option Nat) (n : Nat) (k : FaultKind) (detail : Option Nat) :
    FaultListHolds (f.take phase n k detail).1 := by
  obtain ⟨hlen, hnodup, hcounts⟩ := h
  unfold FaultListHolds
  rcases f.take_records hlen phase n k detail with ⟨-, e⟩ | ⟨hk, l, e, hsub, hl, -⟩ | ⟨-, e, -⟩
  · have hkinds : (f.records.map (fun q => if q.kind == k then q.repeated n detail else q)).map (·.kind) = f.records.map (·.kind) := by
      rw [List.map_map]
      refine List.map_congr_left fun r _ => ?_
      simp only [Function.comp]
      split <;> rfl
    rw [e, hkinds, List.length_map]
    refine ⟨hlen, hnodup, fun r hr => ?_⟩
    obtain ⟨q, hq, rfl⟩ := List.mem_map.mp hr
    have hc := hcounts q hq
    split
    · simp only [FaultRecord.repeated]
      omega
    · exact hc
  · rw [e, List.length_append, List.length_singleton, List.map_append]
    refine ⟨by omega, ?_, fun r hr => ?_⟩
    · refine List.Nodup.append (hnodup.sublist (hsub.map _)) (by simp) ?_
      rw [List.map_singleton, List.disjoint_singleton]
      intro hmem
      obtain ⟨r, hr, hrk⟩ := List.mem_map.mp hmem
      have hrk' : r.kind = k := hrk
      simp only [FaultList.holds, List.any_eq_false] at hk
      exact hk r (hsub.subset hr) (by simp [hrk'])
    · rcases List.mem_append.mp hr with hr | hr
      · exact hcounts r (hsub.subset hr)
      · rw [List.mem_singleton.mp hr]
        exact ⟨le_refl 1, by simp [newRecord]⟩
  · rw [e]
    exact ⟨hlen, hnodup, hcounts⟩

theorem tripRecords_map_repeated (l : List FaultRecord) (n : Nat) (k : FaultKind) (detail : Option Nat) :
    (tripRecords (l.map (fun q => if q.kind == k then q.repeated n detail else q))).map (·.kind) = (tripRecords l).map (·.kind) := by
  induction l with
  | nil => rfl
  | cons r l ih =>
    have hr : ((if r.kind == k then r.repeated n detail else r) : FaultRecord).kind = r.kind := by split <;> rfl
    simp only [tripRecords] at ih ⊢
    rw [List.map_cons, List.filter_cons, List.filter_cons, hr]
    split
    · rw [List.map_cons, List.map_cons, ih, hr]
    · exact ih

/-- The kinds of the TRIP records, which tell how many there are and whether a TRIP is listed. -/
def FaultList.tripKinds (f : FaultList) : List FaultKind := (tripRecords f.records).map (·.kind)

theorem FaultList.trips_eq_length (f : FaultList) : f.trips = f.tripKinds.length := by
  rw [FaultList.tripKinds, List.length_map]
  rfl

theorem FaultList.holds_iff (f : FaultList) {k : FaultKind} (hk : isTrip k = true) : f.holds k = true ↔ k ∈ f.tripKinds := by
  simp only [FaultList.holds, FaultList.tripKinds, tripRecords, List.any_eq_true, beq_iff_eq, List.mem_map, List.mem_filter]
  constructor
  · rintro ⟨r, hr, rfl⟩
    exact ⟨r, ⟨hr, hk⟩, rfl⟩
  · rintro ⟨r, ⟨hr, -⟩, rfl⟩
    exact ⟨r, hr, rfl⟩

/-- The kinds of the TRIP records after a report of another kind than HEATER_STUCK_ON: those before, and the reported one where it is a
TRIP that was not listed and took a place. -/
theorem FaultList.take_tripKinds {f : FaultList} (hf : f.records.length ≤ 6) (phase : Option Nat) (n : Nat) {k : FaultKind} (detail : Option Nat)
    (hs : k ≠ .heaterStuckOn) : (f.take phase n k detail).1.tripKinds = f.tripKinds
      ∨ (isTrip k = true ∧ (f.take phase n k detail).1.tripKinds = f.tripKinds ++ [k]) := by
  unfold FaultList.tripKinds
  rcases f.take_records hf phase n k detail with ⟨-, e⟩ | ⟨-, l, e, -, -, htrips⟩ | ⟨-, e, -⟩
  · rw [e]
    exact .inl (tripRecords_map_repeated ..)
  · rw [e]
    have hl := htrips hs
    simp only [tripRecords] at hl
    cases hk : isTrip k
    · left
      simp [tripRecords, List.filter_append, newRecord, hk, hl]
    · right
      simp [tripRecords, List.filter_append, newRecord, hk, hl]
  · rw [e]
    exact .inl rfl

theorem FaultList.take_trips_pos {f : FaultList} (hf : f.records.length ≤ 6) (phase : Option Nat) (n : Nat) {k : FaultKind} (detail : Option Nat)
    (hk : isTrip k = true) : 0 < (f.take phase n k detail).1.trips := by
  rcases f.take_records hf phase n k detail with ⟨hholds, e⟩ | ⟨-, l, e, -⟩ | ⟨-, e, hpos⟩
  · rw [FaultList.trips_eq_length, FaultList.tripKinds, e, tripRecords_map_repeated]
    exact List.length_pos_of_mem ((f.holds_iff hk).mp hholds)
  · rw [FaultList.trips_eq, e]
    simp [tripRecords, List.filter_append, newRecord, hk]
  · rwa [FaultList.trips_eq, e]

/-! ## Reports (R164) -/

/-- The heat stage controller as a report of a kind leaves it before a trip is responded to (R113). -/
def State.reportedHeat (s : State) (p : Pocket) (k : FaultKind) : HeatStages :=
  if k = .heaterStuckOn then { (s.pocket p).hsc with safe := false }.withEnergized s.now 0 else (s.pocket p).hsc

/-- A pocket's own part as a report of a kind leaves it before a trip is responded to. -/
def State.reported (s : State) (p : Pocket) (k : FaultKind) (detail : Option Nat) : PocketState :=
  { s.pocket p with
    fl := ((s.pocket p).fl.take (s.pocket p).ce.faultPhase s.secondsCount k detail).1, hsc := s.reportedHeat p k }

theorem State.report_eq (s : State) (p : Pocket) (k : FaultKind) (detail : Option Nat) :
    s.report p k detail = if isTrip k then (s.setPocket p (s.reported p k detail)).trip p
      else (s.setPocket p (s.reported p k detail)).postIf
        ((s.pocket p).fl.take (s.pocket p).ce.faultPhase s.secondsCount k detail).2 (.fault p) := by
  have e : (if k == .heaterStuckOn then
      ((s.onFl p (fun _ => ((s.pocket p).fl.take (s.pocket p).ce.faultPhase s.secondsCount k detail).1)).onHsc p
        (fun h => { h with safe := false })).dropE p
      else s.onFl p (fun _ => ((s.pocket p).fl.take (s.pocket p).ce.faultPhase s.secondsCount k detail).1))
      = s.setPocket p (s.reported p k detail) := by
    by_cases hk : k = .heaterStuckOn
    · subst hk
      rw [if_pos (by simp)]
      have := State.dropE_setPocket_zero (y := { s.pocket p with
        fl := ((s.pocket p).fl.take (s.pocket p).ce.faultPhase s.secondsCount .heaterStuckOn detail).1,
        hsc := { (s.pocket p).hsc with safe := false } }) s p (by simp [PocketState.clearForHeat])
      simpa [State.reported, State.reportedHeat, State.onHsc, State.onFl] using this
    · rw [if_neg (by simpa using hk)]
      simp [State.reported, State.reportedHeat, hk, State.onFl]
  unfold State.report
  dsimp only
  rw [e]

theorem State.reported_faults (s : State) (p : Pocket) (k : FaultKind) (detail : Option Nat) (c : CycleEngine) (hm : s.mode = .operating)
    (hc : if isTrip k then c.state = .faulted else c.state = (s.pocket p).ce.state) (h : FaultsAt s.mode (s.pocket p)) :
    FaultsAt s.mode { s.reported p k detail with ce := c } := by
  obtain ⟨hlist, htrips, hsafe, -⟩ := h
  refine ⟨hlist.take _ _ _ _, ?_, fun _ => ?_, fun hn => absurd hm hn⟩
  · show 0 < ((s.pocket p).fl.take _ _ k detail).1.trips ↔ c.state = .faulted
    cases hk : isTrip k
    · rw [hk] at hc
      have hs : k ≠ .heaterStuckOn := fun e => by rw [e] at hk; exact absurd hk (by decide)
      rw [if_neg (by simp)] at hc
      rcases FaultList.take_tripKinds hlist.1 (s.pocket p).ce.faultPhase s.secondsCount detail hs with e | ⟨e, -⟩
      · rw [FaultList.trips_eq_length, e, ← FaultList.trips_eq_length, hc]
        exact htrips
      · rw [hk] at e
        cases e
    · rw [hk, if_pos rfl] at hc
      exact iff_of_true (FaultList.take_trips_pos hlist.1 _ _ _ hk) hc
  · show (s.reportedHeat p k).safe = false ↔ ((s.pocket p).fl.take _ _ k detail).1.holds .heaterStuckOn = true
    by_cases hs : k = .heaterStuckOn
    · subst hs
      refine iff_of_true ?_ (FaultList.take_holds_stuckOn ..)
      rw [State.reportedHeat, if_pos rfl, HeatStages.withEnergized_safe]
    · rw [State.reportedHeat, if_neg hs, hsafe hm, FaultList.holds_iff _ (by decide), FaultList.holds_iff _ (by decide)]
      rcases FaultList.take_tripKinds hlist.1 (s.pocket p).ce.faultPhase s.secondsCount detail hs with e | ⟨-, e⟩
      · rw [e]
      · rw [e, List.mem_append, List.mem_singleton]
        exact ⟨.inl, fun h => h.resolve_right (Ne.symm hs)⟩

theorem State.reportedHeat_counts (s : State) (p : Pocket) (k : FaultKind) :
    (s.reportedHeat p k).energized ≤ (s.pocket p).hsc.energized ∧ (s.reportedHeat p k).level = (s.pocket p).hsc.level := by
  unfold State.reportedHeat
  split
  · rw [HeatStages.withEnergized_energized, HeatStages.withEnergized_level]
    exact ⟨Nat.zero_le _, rfl⟩
  · exact ⟨le_refl _, rfl⟩

/-- A report is taken (R160 to R164, R22). -/
theorem Acts.report (s : State) (p : Pocket) (k : FaultKind) (detail : Option Nat) (hm : s.mode = .operating) :
    Acts s (s.report p k detail) := by
  obtain ⟨hle, hlevel⟩ := s.reportedHeat_counts p k
  have hlawful : ∀ c : CycleEngine, (if isTrip k then c.state = .faulted else c.state = (s.pocket p).ce.state) →
      OwnLawful s (s.pocket p) { s.reported p k detail with ce := c } :=
    fun c hc => { faults := s.reported_faults p k detail c hm hc, level := le_of_eq hlevel }
  rw [State.report_eq]
  cases hk : isTrip k
  · have hs : k ≠ .heaterStuckOn := fun e => by rw [e] at hk; exact absurd hk (by decide)
    have hheat : s.reportedHeat p k = (s.pocket p).hsc := by rw [State.reportedHeat, if_neg hs]
    refine Acts.trans (.kept (hlawful (s.pocket p).ce (by simp [hk])) {} ?_) (.postIf _ _ _)
    exact ⟨hle, le_of_eq hlevel.symm, id, fun ⟨h1, h2, h3, h4, h5, h6⟩ => ⟨h1, h2, h3, h4, by rw [← hheat] at h5; exact h5, by rw [← hheat] at h6; exact h6⟩⟩
  · have hce : ((s.setPocket p (s.reported p k detail)).pocket p).ce = (s.pocket p).ce := by rw [State.pocket_setPocket]; rfl
    have hother : ∀ c : CycleEngine, (s.pocket p).ce.heats = false → c.state = .faulted →
        Acts s (((s.setPocket p (s.reported p k detail)).onCe p (fun _ => c)).post (.fault p)) := by
      intro c hidle hc
      have e : (s.setPocket p (s.reported p k detail)).onCe p (fun _ => c) = s.setPocket p { s.reported p k detail with ce := c } := by
        simp [State.onCe]
      rw [e]
      exact (Acts.turned hidle (hlawful c (by simpa [hk] using hc)) fun _ => hle).trans (.post _ _)
    have hwind : Acts s (((s.setPocket p (s.reported p k detail)).enterWindDown p .faulted .fault).post (.fault p)) := by
      rw [State.enterWindDown_eq]
      refine (Acts.leaveCycle_of ?_ (hlawful _ ?_)).trans (.post _ _)
      · simp [State.windDownEngine]
      · simp [State.windDownEngine, hk]
    rw [if_pos rfl, State.trip, hce]
    cases hst : (s.pocket p).ce.state
    case idle => exact hother _ (by simp [CycleEngine.heats, hst]) rfl
    case windingDown => exact hother _ (by simp [CycleEngine.heats, hst]) rfl
    case faulted =>
      have := hother (s.pocket p).ce (by simp [CycleEngine.heats, hst]) hst
      have e : (s.setPocket p (s.reported p k detail)).onCe p (fun _ => (s.pocket p).ce) = s.setPocket p (s.reported p k detail) := by
        simp only [State.onCe, State.pocket_setPocket, State.setPocket_setPocket]
        rfl
      rw [e] at this
      exact this
    all_goals exact hwind

/-- A stall or a drive fault is taken (R42). -/
theorem Acts.failSegment (s : State) (p : Pocket) (cause : RetryCause) (hm : s.mode = .operating) : Acts s (s.failSegment p cause) := by
  have htoCoast : ∀ (t : State) u, (t.toCoast p u).mode = t.mode := fun t u => by rw [State.toCoast_eq]; simp
  refine .ite (fun _ => (Acts.onDmc s p _ id id).trans (.toCoast _ p _)) fun _ => ?_
  exact ((Acts.onDmc s p _ id id).trans (.toCoast _ p _)).trans (.report _ p _ _ (by rw [htoCoast]; simpa using hm))

/-! ## CLEAR_FAULT (R168) -/

/-- The list that a CLEAR_FAULT leaves. -/
def State.clearedList (s : State) (p : Pocket) : FaultList := { records := s.remainingFaults p, full := false }

/-- A CLEAR_FAULT removes a HEATER_STUCK_ON record. -/
def State.stuckGone (s : State) (p : Pocket) : Bool :=
  (s.pocket p).fl.holds .heaterStuckOn && !(s.clearedList p).holds .heaterStuckOn

/-- The cycle engine that a CLEAR_FAULT leaves: FAULTED is left where no TRIP record remains. -/
def State.clearedEngine (s : State) (p : Pocket) : CycleEngine :=
  if (s.pocket p).ce.state == .faulted && (s.clearedList p).trips == 0 then { (s.pocket p).ce with state := .idle } else (s.pocket p).ce

theorem State.clearedList_sublist (s : State) (p : Pocket) : (s.clearedList p).records.Sublist (s.pocket p).fl.records :=
  List.filter_sublist

theorem State.clearFaults_def (s : State) (p : Pocket) :
    s.clearFaults p =
      let t := if s.stuckGone p then ((s.onFl p (fun _ => s.clearedList p)).onHsc p (fun h => { h with safe := true })).followE p
        else s.onFl p (fun _ => s.clearedList p)
      if (s.pocket p).ce.state == .faulted && (t.pocket p).fl.trips == 0 then t.onCe p (fun c => { c with state := .idle }) else t := rfl

/-- Everything that a CLEAR_FAULT does: the list, the cycle state, and SAFE with E following where HEATER_STUCK_ON goes. -/
theorem State.clearFaults_eq (s : State) (p : Pocket) :
    ∃ k : HeatStages, s.clearFaults p = s.setPocket p { s.pocket p with fl := s.clearedList p, ce := s.clearedEngine p, hsc := k }
      ∧ k.level = (s.pocket p).hsc.level ∧ (s.stuckGone p = true → k.safe = true ∧ HeatAt (s.setPocket p { s.pocket p with fl := s.clearedList p, hsc := k }) p)
      ∧ (s.stuckGone p = false → k = (s.pocket p).hsc) := by
  have hend : ∀ k : HeatStages, ∀ t : State, t = s.setPocket p { s.pocket p with fl := s.clearedList p, hsc := k } →
      (if (s.pocket p).ce.state == .faulted && (t.pocket p).fl.trips == 0 then t.onCe p (fun c => { c with state := .idle }) else t)
        = s.setPocket p { s.pocket p with fl := s.clearedList p, ce := s.clearedEngine p, hsc := k } := by
    rintro k _ rfl
    rw [State.pocket_setPocket, State.clearedEngine]
    split <;> simp [State.onCe]
  cases hg : s.stuckGone p
  · refine ⟨(s.pocket p).hsc, ?_, rfl, nofun, fun _ => rfl⟩
    rw [State.clearFaults_def, hg]
    exact hend _ (s.onFl p (fun _ => s.clearedList p)) rfl
  · obtain ⟨k, hk, hsafe, hlevel⟩ := ((s.onFl p (fun _ => s.clearedList p)).onHsc p (fun h => { h with safe := true })).followE_eq p
    have e : ((s.onFl p (fun _ => s.clearedList p)).onHsc p (fun h => { h with safe := true })).onHsc p (fun _ => k)
        = s.setPocket p { s.pocket p with fl := s.clearedList p, hsc := k } := by
      simp [State.onHsc, State.onFl]
    rw [e] at hk
    refine ⟨k, ?_, by simpa [State.onFl] using hlevel, fun _ => ⟨by simpa using hsafe, ?_⟩, nofun⟩
    · rw [State.clearFaults_def, hg]
      exact hend k _ hk
    · rw [← hk]
      exact heatAt_followE _ p

theorem FaultListHolds.cleared {s : State} {p : Pocket} (h : FaultListHolds (s.pocket p).fl) : FaultListHolds (s.clearedList p) := by
  obtain ⟨hlen, hnodup, hcounts⟩ := h
  have hsub := s.clearedList_sublist p
  exact ⟨hsub.length_le.trans hlen, hnodup.sublist (hsub.map _), fun r hr => hcounts r (hsub.subset hr)⟩

theorem State.cleared_faults (s : State) (p : Pocket) (k : HeatStages) (hm : s.mode = .operating)
    (hgone : s.stuckGone p = true → k.safe = true) (hstays : s.stuckGone p = false → k.safe = (s.pocket p).hsc.safe)
    (h : FaultsAt s.mode (s.pocket p)) :
    FaultsAt s.mode { s.pocket p with fl := s.clearedList p, ce := s.clearedEngine p, hsc := k } := by
  obtain ⟨hlist, htrips, hsafe, -⟩ := h
  have hsub := s.clearedList_sublist p
  have hle : (s.clearedList p).trips ≤ (s.pocket p).fl.trips := (hsub.filter _).length_le
  refine ⟨hlist.cleared, ?_, fun _ => ?_, fun hn => absurd hm hn⟩
  · show 0 < (s.clearedList p).trips ↔ (s.clearedEngine p).state = .faulted
    unfold State.clearedEngine
    by_cases hf : (s.pocket p).ce.state = .faulted
    · by_cases ht : (s.clearedList p).trips = 0
      · simp [hf, ht]
      · simp [hf, ht, Nat.pos_of_ne_zero ht]
    · have h0 : (s.pocket p).fl.trips = 0 := Nat.eq_zero_of_not_pos (mt htrips.mp hf)
      rw [if_neg (by simp [hf])]
      exact iff_of_false (by omega) hf
  · show k.safe = false ↔ (s.clearedList p).holds .heaterStuckOn = true
    cases hg : s.stuckGone p
    · rw [hstays hg, hsafe hm]
      have hback : (s.clearedList p).holds .heaterStuckOn = true → (s.pocket p).fl.holds .heaterStuckOn = true := by
        simp only [FaultList.holds, List.any_eq_true]
        rintro ⟨r, hr, hk⟩
        exact ⟨r, hsub.subset hr, hk⟩
      unfold State.stuckGone at hg
      refine ⟨fun ho => ?_, hback⟩
      rw [ho] at hg
      simpa using hg
    · rw [hgone hg]
      unfold State.stuckGone at hg
      simp only [Bool.and_eq_true, Bool.not_eq_true'] at hg
      exact iff_of_false (by simp) (by simp [hg.2])

theorem Acts.clearFaults (s : State) (p : Pocket) (hm : s.mode = .operating) : Acts s (s.clearFaults p) := by
  obtain ⟨k, e, hlevel, hgone, hstays⟩ := s.clearFaults_eq p
  rw [e]
  have hlawful : OwnLawful s (s.pocket p) { s.pocket p with fl := s.clearedList p, ce := s.clearedEngine p, hsc := k } :=
    { faults := s.cleared_faults p k hm (fun h => (hgone h).1) (fun h => by rw [hstays h]), level := le_of_eq hlevel }
  by_cases hf : (s.pocket p).ce.state = .faulted
  · have hidle : (s.pocket p).ce.heats = false := by simp [CycleEngine.heats, hf]
    refine .turned hidle hlawful fun hheat => ?_
    cases hg : s.stuckGone p
    · rw [hstays hg]
    · have := (hgone hg).2.energized_eq_zero (by simp [hidle])
      rw [State.pocket_setPocket] at this
      exact this ▸ Nat.zero_le _
  · have hc : s.clearedEngine p = (s.pocket p).ce := by rw [State.clearedEngine, if_neg (by simp [hf])]
    rw [hc] at hlawful ⊢
    refine .own s p _ (hlawful.ownSound fun _ hheat => ?_) (SameToAccount.allotment {} hlawful.level)
    cases hg : s.stuckGone p
    · rw [hstays hg]
      exact HeatKept.heatAt {} hheat
    · exact (hgone hg).2

end Sys2Proof.Machine


/-! PROOF. Records, supply updates and the drum's timers as acts (O56 to O60). -/

namespace Sys2Proof.Machine

/-! ## A new effective cap handed to the allocator (R101, R138) -/

section
variable {s : State} {p : Pocket} {y : PocketState}

/-- A change of the pocket's own part after which its effective cap is handed afresh. -/
theorem Acts.recap (h : OwnLawful s (s.pocket p) y) (hheats : (s.pocket p).ce.heats = true → y.ce.heats = true)
    (hshed : y.shedDue = (s.pocket p).shedDue) (heat : HeatAt s p → HeatAt (s.setPocket p y) p) : Acts s ((s.setPocket p y).applyCap p) := by
  refine .recapped s p y ⟨h.ownSound fun _ => heat, fun hh => ?_, hshed, h.level⟩
  rw [State.heating_eq_heats, State.pocket_setPocket]
  exact hheats hh

end

/-- The estimator changes, and the cap it hands with it. -/
theorem Acts.onMe_applyCap (s : State) (p : Pocket) (f : Estimator → Estimator) : Acts s ((s.onMe p f).applyCap p) :=
  .recap {} id rfl (HeatKept.heatAt {})

/-- The tangle monitor changes, and the cap it hands with it. -/
theorem Acts.onTm_applyCap (s : State) (p : Pocket) (f : TangleMonitor → TangleMonitor) : Acts s ((s.onTm p f).applyCap p) :=
  .recap {} id rfl (HeatKept.heatAt {})

/-! ## Records (R51, R61) -/

theorem Acts.considerReversal (s : State) (p : Pocket) : Acts s (s.considerReversal p) :=
  .ite (fun _ => Acts.onTm s p _ rfl) fun _ => .refl s

theorem Acts.takeTangle (s : State) (p : Pocket) (period contacts contactTime : Nat) :
    Acts s (s.takeTangle p period contacts contactTime) := (Acts.onTm s p _ rfl).trans (.considerReversal _ p)

theorem State.updateTaper_onMe (s : State) (p : Pocket) (f : Estimator → Estimator) :
    ∃ g, (s.onMe p f).updateTaper p = s.onMe p g := by
  refine ⟨fun _ => (((s.onMe p f).updateTaper p).pocket p).me, ?_⟩
  simp [State.updateTaper, State.onMe]

theorem Acts.takeMoisture (s : State) (p : Pocket) (period contactTime : Nat) (te ti : Int) :
    Acts s (s.takeMoisture p period contactTime te ti) := by
  unfold State.takeMoisture
  split
  · exact .refl s
  · dsimp only
    obtain ⟨g, hg⟩ := State.updateTaper_onMe s p _
    rw [hg]
    exact .onMe_applyCap s p g

theorem Acts.takeSlip (s : State) (p : Pocket) (tach : Nat) : Acts s (s.takeSlip p tach) := by
  unfold State.takeSlip
  exact Acts.onRcu s p _

theorem Acts.takeEvidence (s : State) (p : Pocket) (r : RevolutionRecord) (te ti : Int) : Acts s (s.takeEvidence p r te ti) :=
  .ite (fun _ => ((Acts.takeTangle s p _ _ _).trans (.takeMoisture _ p _ _ te ti)).trans (.takeSlip _ p _)) fun _ => .refl s

theorem Acts.handOn (s : State) (p : Pocket) (r : RevolutionRecord) (te ti : Int) (hm : s.mode = .operating) :
    Acts s (s.handOn p r te ti) := by
  have h1 := Acts.takeEvidence s p r te ti
  have h2 := h1.trans (Acts.appendSample _ p { r with
    tangleFlag := ((s.takeEvidence p r te ti).pocket p).tm.flag, index := ((s.takeEvidence p r te ti).pocket p).me.index })
  have h3 := Acts.trans h2 (Acts.ite (c := (((s.takeEvidence p r te ti).appendSample p { r with
    tangleFlag := ((s.takeEvidence p r te ti).pocket p).tm.flag,
    index := ((s.takeEvidence p r te ti).pocket p).me.index }).pocket p).rcu.segmentRecords == s.item p PocketItem.settleRevolutions)
    (fun _ => Acts.resetRestarts _ p) fun _ => .refl _)
  unfold State.handOn
  exact .ite (fun _ => h3.trans (.report _ p _ _ (h3.mode.trans hm))) fun _ => h3

theorem Acts.settlePulse (s : State) (p : Pocket) : Acts s (s.settlePulse p) := by
  unfold State.settlePulse
  split
  · exact .ite (fun _ => Acts.onRcu s p _) fun _ => .refl s
  · exact .refl s

theorem Acts.closeWindow (s : State) (p : Pocket) (hm : s.mode = .operating) : Acts s (s.closeWindow p) := by
  have h1 := Acts.settlePulse s p
  unfold State.closeWindow
  dsimp only
  split
  · refine h1.trans ((Acts.onRcu _ p _).trans (.handOn _ p _ _ _ ?_))
    have := h1.mode
    simpa [State.rollWindow] using this.trans hm
  · exact h1

theorem Acts.openWindow (s : State) (p : Pocket) : Acts s (s.openWindow p) := Acts.onRcu s p _

/-- Entry to RUN (R32): E is 0 until its target is followed, as it was in ACCEL. -/
theorem Acts.enterRun (s : State) (p : Pocket) : Acts s (s.enterRun p) := by
  have h1 : Acts s (s.onDmc p (fun d =>
      { d with state := .run, accelDue := none, segmentSince := some s.now,
               minimumRunDue := some (s.now + seconds (s.item p PocketItem.minimumRun)), lastEdge := some s.now,
               stallDue := some (s.now + s.stallTicks p) })) := Acts.onDmc s p _ id fun _ => rfl
  refine ((h1.trans (.openWindow _ p)).trans (.ite (fun _ => .resetRestarts _ p) fun _ => .refl _)).trans
    ((Acts.drumReachedRun _ p).trans (.followE _ p))

theorem Acts.indexEdge (s : State) (p : Pocket) (hm : s.mode = .operating) : Acts s (s.indexEdge p) := by
  unfold State.indexEdge
  cases hd : (s.pocket p).dmc.state
  case accel => exact .ite (fun _ => .enterRun s p) fun _ => .refl s
  case run => exact (Acts.onDmc s p _ id id).trans (.closeWindow _ p (by simpa using hm))
  case coast => exact Acts.onDmc s p _ id id
  all_goals exact .refl s

/-! ## The full run and the early reversal (R33, R45, R95) -/

/-- The cycle engine is the same and no stage is left energized, or nothing that permits heat changes: the drum and the tangle monitor of a
pocket have changed, and its cap is handed afresh. -/
theorem Acts.drum_applyCap (s : State) (p : Pocket) (d : DrumMotion) (r : RevolutionCounter) (t : TangleMonitor) (k : HeatStages)
    (hl : LockoutAt s.now (s.pocket p).dmc → LockoutAt s.now d) (hsafe : k.safe = (s.pocket p).hsc.safe)
    (hlevel : k.level = (s.pocket p).hsc.level) (heat : k.energized = 0 ∨ (k = (s.pocket p).hsc ∧ d.state = (s.pocket p).dmc.state)) :
    Acts s ((s.setPocket p { s.pocket p with dmc := d, rcu := r, tm := t, hsc := k }).applyCap p) := by
  refine .recap { lockout := hl, faults := (·.congr rfl hsafe Iff.rfl), level := le_of_eq hlevel } id rfl fun h => ?_
  rcases heat with he | ⟨rfl, hd⟩
  · exact heatAt_of_zero (by rw [State.pocket_setPocket]; exact he)
  · exact HeatKept.heatAt { clear := fun ⟨h1, h2⟩ => ⟨hd.trans h1, h2⟩ } h

theorem Acts.fullRun (s : State) (p : Pocket) : Acts s (s.fullRun p) := by
  unfold State.fullRun
  dsimp only
  split
  · have e : ((s.onDmc p (fun d => { d with reversalCount := 0 })).onTm p (fun t => { t with relief := false })).renewRun p
        = s.setPocket p { s.pocket p with
            dmc := (((s.onDmc p (fun d => { d with reversalCount := 0 })).onTm p (fun t => { t with relief := false })).renewRun p |>.pocket p).dmc,
            tm := { (s.pocket p).tm with relief := false } } := by
      simp [State.renewRun, State.onDmc, State.onTm]
    rw [e]
    exact .drum_applyCap s p _ _ _ _ (by simp [State.renewRun]; exact id) rfl rfl (.inr ⟨rfl, by simp [State.renewRun]⟩)
  · rw [State.toCoast_eq]
    simp only [State.onDmc, State.onTm, State.pocket_setPocket, State.setPocket_setPocket, State.setPocket_shared]
    exact .drum_applyCap s p _ _ _ _ (fun _ => .of_off rfl rfl) (HeatStages.withEnergized_safe ..) (HeatStages.withEnergized_level ..)
      (.inl (HeatStages.withEnergized_energized ..))


theorem State.setPocket_post (s : State) (p : Pocket) (y : PocketState) (k : EventKind) :
    (s.setPocket p y).post k = (s.post k).setPocket p y := by cases p <;> rfl

theorem State.setPocket_postIf (s : State) (p : Pocket) (y : PocketState) (c : Bool) (k : EventKind) :
    (s.setPocket p y).postIf c k = (s.postIf c k).setPocket p y := by
  cases c
  · rfl
  · exact State.setPocket_post s p y k

theorem State.pocket_postIf (s : State) (c : Bool) (k : EventKind) (p : Pocket) : (s.postIf c k).pocket p = s.pocket p := by
  cases c
  · rfl
  · exact State.pocket_post s k p

theorem Acts.tanglePersists (s : State) (p : Pocket) (hm : s.mode = .operating) : Acts s (s.tanglePersists p) := by
  set u := s.onTm p (fun t => { t with relief := true }) with hu
  have hup : u.pocket p = { s.pocket p with tm := { (s.pocket p).tm with relief := true } } := by simp [hu]
  have e : s.tanglePersists p = (((s.postIf ((u.pocket p).fl.take (u.pocket p).ce.faultPhase u.secondsCount .tanglePersist none).2 (.fault p)).post
      (.tanglePersist p)).setPocket p (u.reported p .tanglePersist none)).applyCap p := by
    unfold State.tanglePersists
    rw [← hu, State.report_eq, if_neg (by decide), State.setPocket_postIf, State.setPocket_post, hu]
    simp only [State.onTm, State.setPocket_postIf, State.setPocket_post, State.setPocket_setPocket]
  rw [e]
  set v := (s.postIf ((u.pocket p).fl.take (u.pocket p).ce.faultPhase u.secondsCount .tanglePersist none).2 (.fault p)).post (.tanglePersist p) with hv
  have hact : Acts s v := (Acts.postIf s _ _).trans (.post _ _)
  have hvp : v.pocket p = s.pocket p := by rw [hv, State.pocket_post, State.pocket_postIf]
  have hmode : v.mode = u.mode := by
    rw [hact.mode]
    simp [hu]
  have hreported : u.reported p .tanglePersist none = { v.pocket p with
      tm := { (s.pocket p).tm with relief := true },
      fl := ((u.pocket p).fl.take (u.pocket p).ce.faultPhase u.secondsCount .tanglePersist none).1 } := by
    simp only [State.reported, State.reportedHeat, hup, hvp, reduceCtorEq, if_false]
  have hfaults := u.reported_faults p .tanglePersist none (u.pocket p).ce (by simpa [hu] using hm) rfl
  refine hact.trans ?_
  rw [hreported] at hfaults ⊢
  refine .recap { faults := fun hf => ?_ } id rfl (HeatKept.heatAt {})
  rw [hvp] at hf hfaults ⊢
  rw [hmode] at hf ⊢
  exact (hfaults (by rw [hup]; exact hf)).congr rfl rfl (by rw [hup])

theorem Acts.reverseEarly (s : State) (p : Pocket) (hm : s.mode = .operating) : Acts s (s.reverseEarly p) := by
  have h1 : Acts s ((s.onDmc p (fun d => { d with reversalCount := min 255 (d.reversalCount + 1) })).toCoast p .alternate) :=
    (Acts.onDmc s p _ id id).trans (.toCoast _ p _)
  exact .ite (fun _ => h1.trans (.tanglePersists _ p (h1.mode.trans hm))) fun _ => h1

end Sys2Proof.Machine


/-! PROOF. Supply updates, shed holds, levels and the profile as acts (O56 to O60). -/

namespace Sys2Proof.Machine

/-! ## The heater checks (R109 to R117) -/

theorem Acts.compareCurrents (s : State) (p : Pocket) (c : CheckInputs) : Acts s (s.compareCurrents p c) := by
  unfold State.compareCurrents
  exact Acts.onHsc s p _ rfl rfl rfl id

theorem Acts.takeOvercurrent (s : State) (p : Pocket) (e : Nat) (hm : s.mode = .operating) : Acts s (s.takeOvercurrent p e) := by
  unfold State.takeOvercurrent
  dsimp only
  have h1 : ∀ (count : Nat) (due : Option Ticks), Acts s (s.onHsc p (fun h => { h.withEnergized s.now 0 with overCount := count, overTimer := 0, recoveryDue := due })) :=
    fun count due => .dark { faults := (·.congr rfl (HeatStages.withEnergized_safe ..) Iff.rfl), level := le_of_eq (HeatStages.withEnergized_level ..) } {}
      (HeatStages.withEnergized_energized ..)
  exact .ite (fun _ => h1 _ _) fun _ => (h1 _ _).trans (.report _ p _ _ (by simpa using hm))

theorem State.secondsCount_setPocket (s : State) (p : Pocket) (y : PocketState) : (s.setPocket p y).secondsCount = s.secondsCount := by
  cases p <;> rfl

/-- A report of HEATER_STUCK_ON opens SAFE itself (R113). -/
theorem State.takeStuckOn_eq (s : State) (p : Pocket) :
    s.takeStuckOn p = (s.onHsc p (fun h => { h with stuckArmed := false })).report p .heaterStuckOn none := by
  rw [State.takeStuckOn, State.report_eq, State.report_eq]
  simp only [State.reported, State.reportedHeat, State.onHsc, State.pocket_setPocket, State.setPocket_setPocket, State.setPocket_shared,
    State.secondsCount_setPocket, if_true]

theorem Acts.takeStuckOn (s : State) (p : Pocket) (hm : s.mode = .operating) : Acts s (s.takeStuckOn p) := by
  rw [State.takeStuckOn_eq]
  exact (Acts.onHsc s p _ rfl rfl rfl id).trans (.report _ p _ _ (by simpa using hm))

theorem Acts.takeUnderload (s : State) (p : Pocket) (e : Nat) (hm : s.mode = .operating) : Acts s (s.takeUnderload p e) :=
  (Acts.onHsc s p _ rfl rfl rfl id).trans (.report _ p _ _ (by simpa using hm))

theorem Acts.currentChecks (s : State) (p : Pocket) (c : CheckInputs) (hm : s.mode = .operating) : Acts s (s.currentChecks p c) := by
  have h1 := Acts.compareCurrents s p c
  have hm1 := h1.mode.trans hm
  exact .ite (fun _ => h1.trans (.takeOvercurrent _ p _ hm1)) fun _ => .ite (fun _ => h1.trans (.takeStuckOn _ p hm1)) fun _ =>
    .ite (fun _ => h1.trans (.takeUnderload _ p _ hm1)) fun _ => h1

theorem Acts.checkExhaust (s : State) (p : Pocket) (t : Int) (hm : s.mode = .operating) : Acts s (s.checkExhaust p t) :=
  .ite (fun _ => Acts.onHsc s p _ rfl rfl rfl id) fun _ =>
    .ite (fun _ => (Acts.onHsc s p _ rfl rfl rfl id).trans (.report _ p _ _ (by simpa using hm))) fun _ => .refl s

theorem Acts.checkInlet (s : State) (p : Pocket) (t : Int) (hm : s.mode = .operating) : Acts s (s.checkInlet p t) :=
  .ite (fun _ => Acts.onHsc s p _ rfl rfl rfl id) fun _ =>
    .ite (fun _ => (Acts.onHsc s p _ rfl rfl rfl id).trans (.report _ p _ _ (by simpa using hm))) fun _ => .refl s

theorem Acts.heaterChecks (s : State) (p : Pocket) (exhaust inlet : Int) (c : CheckInputs) (hm : s.mode = .operating) :
    Acts s (s.heaterChecks p exhaust inlet c) := by
  have h1 := Acts.checkExhaust s p exhaust hm
  have h2 := h1.trans (.checkInlet _ p inlet (h1.mode.trans hm))
  exact h2.trans (.currentChecks _ p c (h2.mode.trans hm))

/-! ## The supply update (R145) -/

theorem Acts.coolTempEnd (s : State) (p : Pocket) : Acts s (s.coolTempEnd p) := by
  unfold State.coolTempEnd
  split
  · refine .ite (fun h => .endPhase s p _ ?_) fun _ => .refl s
    simp only [Bool.and_eq_true, beq_iff_eq] at h
    exact h.1.1.1
  · exact .refl s

theorem Acts.runOnExhaustEnd (s : State) (p : Pocket) : Acts s (s.runOnExhaustEnd p) := .ite (fun _ => .endRunOn s p) fun _ => .refl s

theorem Acts.clearFresh (s : State) (p : Pocket) : Acts s (s.clearFresh p) := Acts.onHsc s p _ rfl rfl rfl id

theorem Acts.storeSamples (s : State) (p : Pocket) (exhaust inlet : Int) : Acts s (s.storeSamples p exhaust inlet) := Acts.onMe s p _ rfl

/-- Items of the allocator beside its lists, and the level lines: the level in force stands, and levels stay levels. -/
theorem Acts.setAllocator (s : State) (a : Allocator) (hg : a.grants = s.sa.grants) (hr : a.requests = s.sa.requests)
    (hd : a.debounced = s.sa.debounced) (hf : a.forced = s.sa.forced) : Acts s { s with sa := a } := by
  refine .levels s a s.levelLines hg hr ?_ fun h => ⟨h.1, ?_, ?_⟩
  · simp only [State.levelInForce, hd, hf]
  · exact hd ▸ h.2.1
  · exact hf ▸ h.2.2

theorem Acts.beginUpdate (s : State) (vd : Nat) : Acts s (s.beginUpdate vd) :=
  (Acts.reach s _).trans ((Acts.meter _ { (s.reach s.sm.nextUpdate).sm with
      nextUpdate := (s.reach s.sm.nextUpdate).sm.nextUpdate + millis 250, updateVoltage := some vd } rfl).trans
    (.setAllocator _ { s.sa with updateCount := (s.sa.updateCount + 1) % 4294967296 } rfl rfl rfl rfl))

theorem State.meterPocket_onMeter (s : State) (p : Pocket) (vd ic : Nat) : ∃ f, s.meterPocket p vd ic = s.onMeter p f := by
  unfold State.meterPocket
  exact ⟨_, rfl⟩

theorem Acts.supplyUpdate (s : State) (r : Readings) (hm : s.mode = .operating) : Acts s (s.supplyUpdate r) := by
  set vd := voltageReading r.voltage with hvd
  set u := ((s.clearFresh .A).clearFresh .B).beginUpdate vd with hu
  have h0 : Acts s u := (Acts.clearFresh s .A).trans ((Acts.clearFresh _ .B).trans (.beginUpdate _ vd))
  obtain ⟨f, hf⟩ := u.meterPocket_onMeter .A vd (currentReading r.currentA)
  obtain ⟨g, hg⟩ := (u.onMeter .A f).meterPocket_onMeter .B vd (currentReading r.currentB)
  set s1 := u.storeReadings r with hs1
  have e1 : s1 = (((u.onMeter .A f).onMeter .B g).storeSamples .A r.exhaustA r.inletA).storeSamples .B r.exhaustB r.inletB := by
    rw [← hg, ← hf]
    rfl
  set inA := s1.checkInputs .A vd (currentReading r.currentA)
  set inB := s1.checkInputs .B vd (currentReading r.currentB)
  set t1 := (s1.heaterChecks .A r.exhaustA r.inletA inA).heaterChecks .B r.exhaustB r.inletB inB with ht1
  have h1 : Acts ((u.onMeter .A f).onMeter .B g) s1 := e1 ▸ (Acts.storeSamples _ .A _ _).trans (.storeSamples _ .B _ _)
  have hm1 : s1.mode = .operating := by
    rw [h1.mode]
    simpa using h0.mode.trans hm
  have hcheck := Acts.heaterChecks s1 .A r.exhaustA r.inletA inA hm1
  have h2 := h1.trans (hcheck.trans (.heaterChecks _ .B r.exhaustB r.inletB inB (hcheck.mode.trans hm1)))
  have h3 : Acts s t1.meteredEvaluation := h0.trans (.readings u f g h2)
  have h4 := (Acts.regulate t1.meteredEvaluation .A r.exhaustA).trans (.regulate _ .B r.exhaustB)
  have h5 := (Acts.coolTempEnd ((t1.meteredEvaluation.regulate .A r.exhaustA).regulate .B r.exhaustB) .A).trans ((Acts.coolTempEnd _ .B).trans
    ((Acts.runOnExhaustEnd _ .A).trans (.runOnExhaustEnd _ .B)))
  exact h3.trans (h4.trans (h5.trans ((Acts.endFreshGrant _ .A _).trans (.endFreshGrant _ .B _))))

/-- A voltage sample is taken (R146 to R148). -/
theorem Acts.takeSample (s : State) (v : Nat) : Acts s (s.takeSample v) := .condition s _ _ _

/-! ## Shed holds (R141, R142) -/

theorem Acts.endHold (s : State) (p : Pocket) : Acts s (s.endHold p) := by
  refine Acts.trans (.own s p { s.pocket p with shedDue := none } (OwnLawful.ownSound {} fun _ => HeatKept.heatAt {}) fun ha => ?_) (.evaluate _)
  have hsa := (State.setPocket_shared s p { s.pocket p with shedDue := none }).2.2.2.2.2.1
  have hps := (State.setPocket_shared s p { s.pocket p with shedDue := none }).2.2.2.2.2.2.2.2.2.2
  have hcap : (s.setPocket p { s.pocket p with shedDue := none }).effectiveCap p = s.effectiveCap p := by
    simp only [State.effectiveCap, State.entry, State.stageCount, State.reliefCap, State.pocket_setPocket, hps]
  obtain ⟨h1, h2, h3, h4, h5⟩ := ha.lists
  refine (allotmentHolds_iff _ p).mpr ⟨?_, ?_⟩
  · rw [hcap, hsa]
    refine ⟨h1, h2, h3, h4, fun hi => h5 (.inl ?_)⟩
    rcases hi with hi | hi
    · rw [State.heating_eq_heats, State.pocket_setPocket] at hi
      exact hi
    · exact absurd (by rw [State.pocket_setPocket]) hi
  · rw [State.pocket_setPocket, State.granted_setPocket]
    exact ha.level_le

theorem Acts.shed (s : State) (p : Pocket) (secs : Nat) : Acts s (s.shed p secs) := by
  refine (Acts.remove s p).trans (.trans ?_ ((Acts.postIf _ _ _).trans (.evaluate _)))
  obtain ⟨hg, hr⟩ := s.removeAll_empty p
  set u := s.removeAll p
  have hsa := (State.setPocket_shared u p { u.pocket p with shedDue := some (s.now + seconds secs) }).2.2.2.2.2.1
  refine .own u p { u.pocket p with shedDue := some (s.now + seconds secs) } (OwnLawful.ownSound {} fun _ => HeatKept.heatAt {}) fun ha => ?_
  refine (allotmentHolds_iff _ p).mpr ⟨?_, ?_⟩
  · rw [hsa]
    exact .of_empty (List.length_eq_zero_iff.mp hg) ((u.requestOf_eq_none_iff p).mp hr)
  · rw [State.pocket_setPocket, State.granted_setPocket]
    exact ha.level_le

/-! ## The supply level (R121, R122) -/

theorem Acts.setSource (s : State) (forced : Option Nat) (h : ∀ l, forced = some l → l ≤ 7) : Acts s (s.setSource forced) :=
  .source s { s.sa with forced := forced } _ _ rfl rfl fun hl => ⟨hl.1, hl.2.1, h⟩

theorem Acts.startStability (s : State) : Acts s s.startStability := .setAllocator s _ rfl rfl rfl rfl

theorem levelOfLines_le (lvl2 lvl1 lvl0 : Bool) : levelOfLines lvl2 lvl1 lvl0 ≤ 7 := by
  cases lvl2 <;> cases lvl1 <;> cases lvl0 <;> decide

theorem Acts.levelLines (s : State) (n : Nat) (h : n ≤ 7) : Acts s { s with levelLines := n } :=
  .levels s s.sa n rfl rfl rfl fun hl => ⟨h, hl.2⟩

theorem Acts.debounce (s : State) : Acts s s.debounce := by
  have h1 : Acts s { s with sa := { s.sa with stabilityDue := none } } := .setAllocator s _ rfl rfl rfl rfl
  refine .ite (fun _ => h1) fun _ => h1.trans ?_
  have hlevels : LevelsHold { s with sa := { s.sa with stabilityDue := none } } →
      LevelsHold { s with sa := { s.sa with stabilityDue := none, debounced := some s.levelLines } } :=
    fun hl => ⟨hl.1, fun l hd => by cases hd; exact hl.1, hl.2.2⟩
  refine .ite (fun _ => ?_) fun hforced => ?_
  · exact .source { s with sa := { s.sa with stabilityDue := none } } { s.sa with stabilityDue := none, debounced := some s.levelLines } true
      .levelChange rfl rfl hlevels
  · refine .levels { s with sa := { s.sa with stabilityDue := none } } { s.sa with stabilityDue := none, debounced := some s.levelLines } s.levelLines
      rfl rfl ?_ hlevels
    cases hf : s.sa.forced with
    | none => exact absurd (by rw [hf]; rfl) hforced
    | some l => simp only [State.levelInForce, hf]

/-! ## The profile (R123, R124, R194) -/

theorem Profile.value_write_of_ne (f : Profile) {n m v : Nat} (h : m ≠ n) : (f.write n v).value m = f.value m := by
  unfold Profile.value Profile.write
  congr 1
  induction f with
  | nil => rfl
  | cons e f ih =>
    obtain ⟨k, w⟩ := e
    rw [List.map_cons]
    by_cases hk : k = n
    · subst hk
      have hb : (m == k) = false := by simpa using h
      rw [if_pos (by simp), List.lookup_cons, List.lookup_cons, hb]
      exact ih
    · rw [if_neg (by simpa using hk), List.lookup_cons, List.lookup_cons, ih]

theorem Profile.stageCount_write (f : Profile) (p : Pocket) {n v : Nat} (h : ∀ k, 1 ≤ k → k ≤ 6 → itemNumber p (PocketItem.rating k) ≠ n) :
    (f.write n v).stageCount p = f.stageCount p := by
  have hv : ∀ k, 1 ≤ k → k ≤ 6 → (f.write n v).value (itemNumber p (PocketItem.rating k)) = f.value (itemNumber p (PocketItem.rating k)) :=
    fun k h1 h6 => f.value_write_of_ne (h k h1 h6)
  simp only [Profile.stageCount, List.takeWhile_cons, List.takeWhile_nil, hv 1 (by omega) (by omega), hv 2 (by omega) (by omega),
    hv 3 (by omega) (by omega), hv 4 (by omega) (by omega), hv 5 (by omega) (by omega), hv 6 (by omega) (by omega)]

/-- The allotment of a pocket reads of the profile its stage count alone, and nothing of it while the pocket is not RUNNING on a heat
phase. -/
theorem AllotmentHolds.store {s : State} {p : Pocket} (h : AllotmentHolds s p) {f : ProfileStore}
    (hf : s.heating p = false ∨ f.profile.stageCount p = s.ps.profile.stageCount p) : AllotmentHolds { s with ps := f } p := by
  rcases hf with hidle | hcount
  · have hempty := h.lists.idle (.inl hidle)
    exact (allotmentHolds_iff { s with ps := f } p).mpr ⟨.of_empty (List.length_eq_zero_iff.mp hempty.1) hempty.2, h.level_le⟩
  · refine h.of_same rfl rfl rfl ?_ rfl rfl
    simp only [State.effectiveCap, State.stageCount, hcount]
    rfl

/-- Another profile store with the same profile. -/
theorem Acts.setStore (s : State) (f : ProfileStore) (h : f.profile = s.ps.profile) : Acts s { s with ps := f } := by
  refine .store s f (fun p ha => ha.store (.inr (by rw [h]))) fun _ _ => .inr ?_
  have hshared : ∀ n, State.shared { s with ps := f } n = s.shared n := fun n => by simp only [State.shared, h]
  have hmetered : State.metered { s with ps := f } = s.metered := by simp only [State.metered, hshared]
  refine ⟨hmetered, ?_, ?_⟩
  · simp only [State.committed, State.committedOf, hmetered]
    rfl
  · simp only [State.ceiling, State.levelInForce, hshared]

/-- A shared item's number is no pocket's rating. -/
theorem rating_ne_shared (p : Pocket) {n k : Nat} (hn : n < 0x100) : itemNumber p (PocketItem.rating k) ≠ n := by
  cases p <;> simp only [itemNumber, PocketItem.rating] <;> omega

/-- An item of a number that no shared item has leaves committed power and the ceiling in force (R123, R129). -/
theorem State.writeItem_account (s : State) (n v : Nat) (hl : LevelsHold s) (hbasis : n ≠ SharedItem.basis)
    (hceiling : ∀ l, l ≤ 7 → s.levelInForce = some l → n ≠ SharedItem.ceiling l) :
    (s.writeItem n v).metered = s.metered ∧ (s.writeItem n v).committed = s.committed ∧ (s.writeItem n v).ceiling = s.ceiling := by
  have hmetered : (s.writeItem n v).metered = s.metered := by
    simp only [State.metered, State.shared, State.writeItem, Profile.value_write_of_ne _ (Ne.symm hbasis)]
  refine ⟨hmetered, ?_, ?_⟩
  · simp only [State.committed, State.committedOf, hmetered]
    rfl
  · have hlevel : ∀ l, s.levelInForce = some l → l ≤ 7 := by
      intro l
      unfold State.levelInForce
      cases hf : s.sa.forced with
      | some m => exact fun h => by cases h; exact hl.2.2 _ hf
      | none => exact fun h => hl.2.1 _ h
    have e : (s.writeItem n v).levelInForce = s.levelInForce := rfl
    unfold State.ceiling
    rw [e]
    cases hf : s.levelInForce with
    | none => rfl
    | some l => exact s.ps.profile.value_write_of_ne (Ne.symm (hceiling l (hlevel l hf) hf))

/-- WRITE_CEILING of an entry (R123). -/
theorem Acts.writeCeiling (s : State) (level watts : Nat) (h : level ≤ 7) :
    Acts s (if s.levelInForce == some level then (s.writeItem (SharedItem.ceiling level) watts).evaluate
      else s.writeItem (SharedItem.ceiling level) watts) := by
  have hn : SharedItem.ceiling level < 0x100 := by simp only [SharedItem.ceiling]; omega
  have ha : ∀ p, AllotmentHolds s p → AllotmentHolds (s.writeItem (SharedItem.ceiling level) watts) p :=
    fun p hp => hp.store (.inr (Profile.stageCount_write _ p fun k _ _ => rating_ne_shared p hn))
  refine .ite (fun _ => .storeEvaluate s _ ha) fun hne => .store s _ ha fun hl _ => .inr ?_
  refine s.writeItem_account _ _ hl (by simp only [SharedItem.ceiling, SharedItem.basis]; omega) fun l _ hf => ?_
  have hne' : l ≠ level := fun e => hne (by rw [hf, e]; exact beq_self_eq_true _)
  simp only [SharedItem.ceiling]
  omega

/-- SET_CLASS (R124). -/
theorem Acts.setClass (s : State) (p : Pocket) (cls : Nat) : Acts s (s.writeItem (itemNumber p PocketItem.priorityClass) cls).evaluate := by
  refine .storeEvaluate s _ fun r hr => hr.store (.inr (Profile.stageCount_write _ r fun k h1 h6 => ?_))
  cases p <;> cases r <;> simp only [itemNumber, PocketItem.rating, PocketItem.priorityClass] <;> omega

/-- A pocket whose profile may be written is not RUNNING (R193). -/
theorem State.heating_of_writable {s : State} {p : Pocket} (h : (s.pocket p).ce.writable = true) : s.heating p = false := by
  rw [State.heating_eq_heats]
  unfold CycleEngine.writable at h
  cases hs : (s.pocket p).ce.state <;> simp_all [CycleEngine.heats]

/-- With no pocket RUNNING on a heat phase nothing is committed. -/
theorem committed_eq_zero {s : State} (ha : ∀ p, AllotmentHolds s p) (hidle : ∀ p, s.heating p = false) (f : ProfileStore) :
    State.committed { s with ps := f } = 0 := by
  have hempty : s.sa.grants = [] := by
    refine List.eq_nil_iff_forall_not_mem.mpr fun g hg => ?_
    have := List.length_eq_zero_iff.mp ((ha g.pocket).lists.idle (.inl (hidle _))).1
    have hmem : g ∈ grantsOf s.sa.grants g.pocket := List.mem_filter.mpr ⟨hg, beq_self_eq_true _⟩
    rw [this] at hmem
    cases hmem
  have e : State.committed { s with ps := f } = State.committedOf { s with ps := f } s.sa.grants := rfl
  rw [e, hempty]
  unfold State.committedOf
  split <;> simp [State.meteredPart, grantsOf, ratedSum]

/-- A write of a pocket's item depends on that pocket (R193). -/
theorem mem_itemPockets (p : Pocket) {k : Nat} (hk : k < 256) : p ∈ itemPockets (itemNumber p k) := by
  unfold itemPockets
  cases p
  · have h1 : itemNumber .A k / 256 = 1 := by simp only [itemNumber]; omega
    rw [if_pos h1]
    exact List.mem_singleton.mpr rfl
  · have h2 : itemNumber .B k / 256 = 2 := by simp only [itemNumber]; omega
    rw [h2]
    exact List.mem_singleton.mpr rfl

/-- WRITE_PROFILE of an item whose pockets may be written (R193, R194). -/
theorem Acts.writeItem (s : State) (n v : Nat) (h : s.statesAllowWrite n = true) : Acts s (s.writeItem n v) := by
  have hwritable : ∀ p ∈ itemPockets n, s.heating p = false := fun p hp =>
    State.heating_of_writable (List.all_eq_true.mp h p hp)
  have hpocket : ∀ p, s.heating p = false ∨ (s.writeItem n v).ps.profile.stageCount p = s.ps.profile.stageCount p := by
    intro p
    by_cases hp : p ∈ itemPockets n
    · exact .inl (hwritable p hp)
    · refine .inr (Profile.stageCount_write _ p fun k h1 h6 => ?_)
      intro e
      exact hp (e ▸ mem_itemPockets p (by simp only [PocketItem.rating]; omega))
  refine .store s _ (fun p hp => hp.store (hpocket p)) fun hl ha => ?_
  by_cases hshared : n < 0x100
  · have hboth : ∀ p, s.heating p = false := by
      intro p
      refine hwritable p ?_
      unfold itemPockets
      rw [if_neg (by omega), if_neg (by omega)]
      cases p <;> simp
    exact .inl (committed_eq_zero ha hboth _)
  · refine .inr (s.writeItem_account n v hl ?_ fun l hle _ => ?_)
    · simp only [SharedItem.basis]
      omega
    · simp only [SharedItem.ceiling]
      omega

end Sys2Proof.Machine


/-! PROOF. The requests and the receiver as acts (O56 to O60). -/

namespace Sys2Proof.Machine

/-! ## Ports (R176, R177, R183) -/

/-- A receiver that is on changes its state: its port holds no reply (R177). -/
theorem Acts.setReceiver (s : State) (q : Port) (r : Receiver) (h : (s.port q).receiver ≠ .off) : Acts s (s.setReceiver q r) :=
  .port s q _ fun ⟨hreply, hlatch⟩ => ⟨fun hs => absurd (hreply hs) h, hlatch⟩

theorem Acts.enterReplying {s : State} {q : Port} {code tag : Byte} {r : Reaction} (h : Acts s r.state) :
    Acts s (State.enterReplying q code tag r) := h.trans (.port _ q _ fun ⟨_, hlatch⟩ => ⟨fun _ => rfl, hlatch⟩)

theorem Acts.readEvents (s : State) (q : Port) : Acts s (s.actReadEvents q).state :=
  .port s q _ fun ⟨hreply, _, hmask⟩ => ⟨hreply, BitVec.zero_and, hmask⟩

/-- A set below 2^18 holds only kinds that there are (R180). -/
theorem eventBits_ofNat {n : Nat} (h : n < 262144) : BitVec.ofNat 24 n &&& eventBits = BitVec.ofNat 24 n := by
  apply BitVec.eq_of_toNat_eq
  have hmask : eventBits.toNat = 2 ^ 18 - 1 := by decide
  rw [BitVec.toNat_and, hmask, Nat.and_two_pow_sub_one_eq_mod, BitVec.toNat_ofNat, Nat.mod_eq_of_lt (by omega), Nat.mod_eq_of_lt (by omega)]

theorem Acts.setEventMask (s : State) (q : Port) (set : Nat) : Acts s (s.actSetEventMask q set).state := by
  unfold State.actSetEventMask
  split
  · exact .refl s
  · rename_i h
    exact .port s q _ fun ⟨hreply, _, _⟩ => ⟨hreply, by rw [BitVec.and_assoc, BitVec.and_self], eventBits_ofNat (by omega)⟩

/-! ## The requests' actions (R178, R179) -/

theorem Acts.acceptStart (s : State) (p : Pocket) (program : List PhaseEntry) (h : (s.pocket p).ce.state = .idle) :
    Acts s (s.acceptStart p program) := by
  have hidle : (s.pocket p).ce.heats = false := by simp [CycleEngine.heats, h]
  unfold State.acceptStart
  refine (Acts.turned hidle {}).trans (((Acts.turned ?_ {}).trans ((Acts.turned ?_ {}).trans ((Acts.onRcu _ p _).trans
    ((Acts.onDmc _ p _ id id).trans (Acts.onMeter _ p _ rfl))))).trans (.enterProving _ p ?_ ?_)) <;> simp [CycleEngine.heats, h]

theorem Acts.actStart (s : State) (p : Pocket) (payload : List Byte) : Acts s (s.actStart p payload).state := by
  unfold State.actStart
  split
  · exact .refl s
  · rename_i hidle
    split
    · exact .refl s
    · split
      · exact .refl s
      · exact .acceptStart s p _ (by simpa using hidle)

theorem Acts.actPause (s : State) (p : Pocket) : Acts s (s.actPause p).state := by
  unfold State.actPause
  cases h : (s.pocket p).ce.state
  case proving | running => exact .enterPaused s p _ (by simp [h])
  all_goals exact .refl s

theorem Acts.actResume (s : State) (p : Pocket) : Acts s (s.actResume p).state := by
  unfold State.actResume
  split
  · exact .refl s
  · rename_i h
    have hp : (s.pocket p).ce.state = .paused := by simpa using h
    split
    · exact .refl s
    · exact .enterProving s p (by simp [hp]) (by simp [hp])

theorem CycleState.ne_faulted_of_stoppable {c : CycleState} (h : ¬ (!c.stoppable) = true) : c ≠ .faulted := by
  rintro rfl
  exact h rfl

theorem Acts.actStop (s : State) (p : Pocket) (mode : Nat) : Acts s (s.actStop p mode).state := by
  unfold State.actStop
  split
  · exact .refl s
  · rename_i hst
    split
    · exact .refl s
    · split
      · rename_i h
        simp only [Bool.and_eq_true, beq_iff_eq] at h
        exact .stopCool s p h.2
      · exact .enterWindDown s p _ (CycleState.ne_faulted_of_stoppable hst)

theorem Acts.actHalt (s : State) (p : Pocket) : Acts s (s.actHalt p).state := by
  unfold State.actHalt
  split
  · exact .refl s
  · rename_i hst
    exact .enterWindDown s p _ (CycleState.ne_faulted_of_stoppable hst)

/-- ADD_TIME changes minutes alone, which no invariant reads (R19). -/
theorem Acts.addTime (s : State) (p : Pocket) (minutes : Nat) :
    Acts s (s.onCe p (fun c => { c with program := raiseEntry (c.index.getD 1) minutes c.program })) := by
  refine Acts.onCe s p _ rfl ?_ id
  unfold CycleEngine.entry
  cases (s.pocket p).ce.index with
  | none => rfl
  | some i =>
    simp only [entryAt, raiseEntry, Option.getD_some, List.getElem?_modify_eq, Option.map_eq_map, Option.map_map]
    rfl

theorem Acts.actAddTime (s : State) (p : Pocket) (minutes : Nat) : Acts s (s.actAddTime p minutes).state := by
  unfold State.actAddTime
  split
  · exact .refl s
  · split
    · exact .refl s
    · exact .addTime s p minutes

theorem Acts.actShed (s : State) (p : Pocket) (minutes : Nat) : Acts s (s.actShed p minutes).state := by
  unfold State.actShed
  split
  · exact .refl s
  · exact .shed s p _

theorem Acts.actRestore (s : State) (p : Pocket) : Acts s (s.actRestore p).state := by
  unfold State.actRestore
  split
  · exact .endHold s p
  · exact .refl s

theorem Acts.actFetchSamples (s : State) (p : Pocket) : Acts s (s.actFetchSamples p).state := by
  unfold State.actFetchSamples
  split
  · rename_i n hn
    exact Acts.onSb s p _ fun h => h.fetched hn
  · exact .refl s

theorem Acts.actClearFault (s : State) (p : Pocket) (hm : s.mode = .operating) : Acts s (s.actClearFault p).state := by
  unfold State.actClearFault
  split
  · exact .refl s
  · exact .clearFaults s p hm

theorem Acts.actReadProfile (s : State) (number : Nat) : Acts s (s.actReadProfile number).state := by
  unfold State.actReadProfile
  split <;> exact .refl s

theorem Acts.actSetLevel (s : State) (level : Nat) : Acts s (s.actSetLevel level).state := by
  unfold State.actSetLevel
  split
  · exact .setSource s none nofun
  · split
    · exact .refl s
    · exact .setSource s (some level) fun l hl => by cases hl; omega

theorem Acts.actWriteCeiling (s : State) (level watts : Nat) : Acts s (s.actWriteCeiling level watts).state := by
  unfold State.actWriteCeiling
  split
  · exact .refl s
  · split
    · exact .refl s
    · rename_i h
      simp only [Bool.or_eq_true, decide_eq_true_eq, not_or] at h
      exact .writeCeiling s level _ (by omega)

theorem Acts.actSetClass (s : State) (p : Pocket) (cls : Nat) : Acts s (s.actSetClass p cls).state := by
  unfold State.actSetClass
  split
  · exact .refl s
  · split
    · exact .refl s
    · exact .setClass s p cls

theorem Acts.actWriteProfile (s : State) (number value : Nat) : Acts s (s.actWriteProfile number value).state := by
  unfold State.actWriteProfile
  split
  · exact .refl s
  · split_ifs with hdenied hsaving hstates
    case neg => rename_i hadmits hjoint; exact .writeItem s number value (by simpa using hstates)
    all_goals exact .refl s

theorem Acts.actSaveProfile (s : State) : Acts s s.actSaveProfile.state := by
  unfold State.actSaveProfile
  split
  · exact .refl s
  · exact .setStore s _ rfl

theorem Acts.actOn (s : State) (r : Request) (q : Port) (p : Pocket) (payload : List Byte) (hm : s.mode = .operating) :
    Acts s (s.actOn r q p payload).state := by
  cases r
  case start => exact .actStart s p payload
  case pause => exact .actPause s p
  case resume => exact .actResume s p
  case stop => exact .actStop s p _
  case addTime => exact .actAddTime s p _
  case halt => exact .actHalt s p
  case shed => exact .actShed s p _
  case restore => exact .actRestore s p
  case fetchSamples => exact .actFetchSamples s p
  case clearFault => exact .actClearFault s p hm
  case readProfile => exact .actReadProfile s _
  case readEvents => exact .readEvents s q
  case setEventMask => exact .setEventMask s q _
  case setLevel => exact .actSetLevel s _
  case writeCeiling => exact .actWriteCeiling s _ _
  case setClass => exact .actSetClass s p _
  case writeProfile => exact .actWriteProfile s _ _
  case saveProfile => exact .actSaveProfile s
  all_goals exact .refl s

theorem Acts.respond (s : State) (r : Request) (q : Port) (payload : List Byte) (hm : s.mode = .operating) :
    Acts s (s.respond r q payload).state := by
  unfold State.respond
  split
  · exact .refl s
  · exact .actOn s r q _ payload hm

/-! ## The receiver (R176, R177) -/

theorem State.mode_of_not_deaf {s : State} {q : Port} (h : ¬ s.deaf q = true) : s.mode = .operating := by
  unfold State.deaf at h
  simp only [Bool.or_eq_true, not_or, bne_iff_ne, ne_eq, not_not] at h
  exact h.1

theorem Acts.request (s : State) (r : Request) (q : Port) (tag : Byte) (payload : List Byte) : Acts s (s.request r q tag payload) :=
  .ite (fun _ => .refl s) fun h => .enterReplying (.respond s r q payload (State.mode_of_not_deaf h))

theorem Acts.unknownRequest (s : State) (q : Port) (code tag : Byte) : Acts s (s.unknownRequest q code tag) :=
  .ite (fun _ => .refl s) fun _ => .enterReplying (.refl s)

theorem Acts.takeBody (s : State) (q : Port) (body : List Byte) (h : (s.port q).receiver ≠ .off) : Acts s (s.takeBody q body) := by
  unfold State.takeBody
  split
  · split
    · exact .request s _ q _ _
    · exact .unknownRequest s q _ _
  · exact .setReceiver s q _ h

theorem Acts.receiveByte (s : State) (q : Port) (b : Byte) : Acts s (s.receiveByte q b) := by
  unfold State.receiveByte
  split
  · exact .refl s
  all_goals rename_i hr
  · exact .ite (fun _ => .setReceiver s q _ (by simp [hr])) fun _ => .refl s
  · exact .ite (fun _ => .setReceiver s q _ (by simp [hr])) fun _ => .setReceiver s q _ (by simp [hr])
  · exact .ite (fun _ => .setReceiver s q _ (by simp [hr])) fun _ => .setReceiver s q _ (by simp [hr])
  · exact .setReceiver s q _ (by simp [hr])
  · exact .ite (fun _ => .takeBody s q _ (by simp [hr])) fun _ => .setReceiver s q _ (by simp [hr])

theorem Acts.receiveBytes (s : State) (q : Port) (bs : List Byte) : Acts s (bs.foldl (fun t b => t.receiveByte q b) s) := by
  induction bs generalizing s with
  | nil => exact .refl s
  | cons b bs ih => exact (Acts.receiveByte s q b).trans (ih _)

theorem Acts.receive (s : State) (q : Port) (bs : List Byte) : Acts s (s.receive q bs) :=
  .ite (fun _ => .receiveBytes s q bs) fun _ => (Acts.receiveBytes s q bs).trans (.port _ q _ id)

theorem Acts.discardFrame (s : State) (q : Port) : Acts s (s.discardFrame q) :=
  .ite (fun h => .setReceiver s q _ fun hoff => by rw [hoff] at h; cases h) fun _ => .refl s

end Sys2Proof.Machine


/-! PROOF. Every command and every step: acts, a restart, or the end of the profile load; and what every step keeps (O56 to O60). -/

namespace Sys2Proof.Machine

/-! ## The commands that are acts -/

/-- A command answers with a state that acts have led to. -/
def ActsTo (s : State) (r : Result) : Prop := ∃ t, r = .next t ∧ Acts s t

theorem ActsTo.next {s t : State} (h : Acts s t) : ActsTo s (.next t) := ⟨t, rfl, h⟩

/-- A line command at work, with its line changed before. -/
theorem Acts.then_whenOperating {s u : State} {f : State → State} (h : Acts s u) (k : u.mode = .operating → Acts u (f u)) :
    Acts s (u.whenOperating f) := h.trans (.whenOperating k)

section
variable (s : State) (p : Pocket)

theorem actsTo_dclrPulseEnd (drvf : Bool) : ActsTo s (execDclrPulseEnd p drvf s) := by
  refine .next (.whenOperating fun hm => ?_)
  split
  · rename_i t _
    have h1 : Acts s ((((s.reach t).onLines p (fun l => { l with drvf := drvf }))).onDmc p (fun d => { d with pulseDue := none })) :=
      (Acts.reach s t).trans ((Acts.onLines _ p _ id id).trans (Acts.onDmc _ p _ id id))
    exact .ite (fun _ => .ite (fun _ => h1.trans (.failSegment _ p _ (h1.mode.trans hm))) fun _ => h1.trans (.readyOutput _ p)) fun _ => h1
  · exact .refl s

theorem timerIn_eq_some {d : DrumMotion} {m : MotionState} {o : Option Ticks} {t : Ticks} (h : d.timerIn m o = some t) :
    d.state = m ∧ o = some t := by
  unfold DrumMotion.timerIn at h
  split at h
  · rename_i hm
    exact ⟨by simpa using hm, h⟩
  · cases h

theorem actsTo_lockoutEnd : ActsTo s (execLockoutEnd p s) := by
  refine .next (.whenOperating fun hm => ?_)
  split
  · rename_i t ht
    refine (Acts.reach s t).trans (.assertOutput _ p fun hl => ?_)
    rw [State.pocket_reach] at hl ⊢
    exact (hl.2 t (timerIn_eq_some ht).2).trans (Nat.le_max_right _ _)
  · exact .refl s

theorem actsTo_accelTimeout : ActsTo s (execAccelTimeout p s) := by
  refine .next (.whenOperating fun hm => ?_)
  split
  · exact (Acts.reach s _).trans (.failSegment _ p _ hm)
  · exact .refl s

theorem actsTo_stallTimeout : ActsTo s (execStallTimeout p s) := by
  refine .next (.whenOperating fun hm => ?_)
  split
  · exact (Acts.reach s _).trans (.failSegment _ p _ hm)
  · exact .refl s

theorem actsTo_fullRun : ActsTo s (execFullRun p s) := by
  refine .next (.whenOperating fun hm => ?_)
  split
  · exact (Acts.reach s _).trans (.fullRun _ p)
  · exact .refl s

theorem actsTo_coastEnd : ActsTo s (execCoastEnd p s) := by
  refine .next (.whenOperating fun hm => ?_)
  split
  · rename_i t ht
    have hrun : ((s.reach t).pocket p).dmc.state ≠ .run := by rw [State.pocket_reach, (timerIn_eq_some ht).1]; decide
    exact (Acts.reach s t).trans (.ite (fun _ => (Acts.enterStopped _ p hrun).trans (.finishWindDown _ p)) fun _ => .enterDwell _ p hrun)
  · exact .refl s

theorem actsTo_dwellEnd : ActsTo s (execDwellEnd p s) := by
  refine .next (.whenOperating fun hm => ?_)
  split
  · rename_i t ht
    have hrun : ((s.reach t).pocket p).dmc.state ≠ .run := by rw [State.pocket_reach, (timerIn_eq_some ht).1]; decide
    exact (Acts.reach s t).trans (.ite (fun _ => .enterAccel _ p _ hrun) fun _ => Acts.onDmc _ p _ id id)
  · exact .refl s

theorem actsTo_minimumRunReached : ActsTo s (execMinimumRunReached p s) := by
  refine .next (.whenOperating fun hm => ?_)
  split
  · exact (Acts.reach s _).trans ((Acts.onDmc _ p _ id id).trans (.considerReversal _ p))
  · exact .refl s

/-! ### Lines -/

/-- A line's change where nothing is at work. -/
theorem Acts.onLines_held (f : PocketLines → PocketLines) (hm : s.mode ≠ .operating) : Acts s (s.onLines p f) :=
  .held hm {} {} (le_refl _)

/-- A stop of the drum does not read the lines. -/
theorem State.haltDrum_onLines (f : PocketLines → PocketLines) : (s.onLines p f).haltDrum p = (s.haltDrum p).onLines p f := by
  have hst : ((s.onLines p f).pocket p).dmc.state = (s.pocket p).dmc.state := by simp
  rw [State.haltDrum_eq, State.haltDrum_eq, hst]
  cases (s.pocket p).dmc.state
  case accel | run =>
    simp only [State.toCoast_eq, State.onLines, State.pocket_setPocket, State.setPocket_setPocket, State.setPocket_shared, State.coastTicks,
      State.item]
  all_goals simp [State.onLines, State.onDmc]

/-- The drum is not in RUN once it has been stopped. -/
theorem State.haltDrum_ne_run : ((s.haltDrum p).pocket p).dmc.state ≠ .run := by
  rw [State.haltDrum_eq]
  cases hd : (s.pocket p).dmc.state
  case accel | run => simp [State.toCoast_eq, coastBegun]
  all_goals simp [hd]

/-- DOOR opens where the drum is not in RUN: no stage was energized. -/
theorem Acts.onLines_still (f : PocketLines → PocketLines) (h : (s.pocket p).dmc.state ≠ .run) : Acts s (s.onLines p f) :=
  .kept {} {} { clear := fun hc => absurd hc.1 h }

theorem actsTo_doorOpen : ActsTo s (execDoorOpen p s) := by
  refine .next (.ite (fun _ => ?_) fun _ => .refl s)
  by_cases hm : s.mode = .operating
  · rw [State.whenOperating_operating _ _ (by simpa using hm)]
    have h1 : Acts s ((s.onLines p (fun l => { l with doorClosed := false })).haltDrum p) := by
      rw [State.haltDrum_onLines]
      exact (Acts.haltDrum s p).trans (.onLines_still _ p _ (State.haltDrum_ne_run s p))
    unfold State.openDoor
    dsimp only
    split
    · rename_i hst
      exact h1.trans (.enterPaused _ p _ (by simp [hst]))
    · rename_i hst
      exact h1.trans (.enterPaused _ p _ (by simp [hst]))
    · exact h1.trans (.dropE _ p)
  · rw [State.whenOperating_other _ _ (by simpa using hm)]
    exact .onLines_held s p _ hm

theorem actsTo_doorClose : ActsTo s (execDoorClose p s) := by
  refine .next (.ite (fun _ => .refl s) fun _ => (Acts.onLines s p _ (fun _ => rfl) id).then_whenOperating fun _ => ?_)
  refine Acts.trans (.ite (fun h => .enterAccel _ p _ ?_) fun _ => .refl _) (.followE _ p)
  simp only [Bool.and_eq_true, beq_iff_eq] at h
  rw [h.1]
  decide

theorem actsTo_airfClose : ActsTo s (execAirfClose p s) :=
  .next (.ite (fun _ => .refl s) fun _ => (Acts.onLines s p _ id id).then_whenOperating fun _ =>
    .ite (fun _ => Acts.onCe _ p _ rfl rfl id) fun _ => .refl _)

theorem actsTo_airfOpen : ActsTo s (execAirfOpen p s) :=
  .next (.ite (fun _ => (Acts.onLines s p _ id id).then_whenOperating fun _ => Acts.blowerEnds _ p _ rfl rfl rfl) fun _ => .refl s)

theorem Acts.proveAirflow : Acts s (s.proveAirflow p) := by
  have h1 : Acts s (s.onCe p (fun c => { c with airflowProven := true, closureDue := none, lossDue := none, provingDue := none })) :=
    Acts.onCe s p _ rfl rfl fun _ => rfl
  exact (h1.trans (.ite (fun _ => .startRequest _ p) fun _ => .refl _)).trans (.followE _ p)

theorem actsTo_airflowProven : ActsTo s (execAirflowProven p s) := by
  refine .next (.whenOperating fun _ => ?_)
  split
  · exact (Acts.reach s _).trans (.proveAirflow _ p)
  · exact .refl s

theorem actsTo_provingTimeout : ActsTo s (execProvingTimeout p s) := by
  refine .next (.whenOperating fun hm => ?_)
  split
  · exact (Acts.reach s _).trans ((Acts.onCe _ p _ rfl rfl id).trans (.report _ p _ _ (by simpa using hm)))
  · exact .refl s

theorem actsTo_airflowLossTimeout : ActsTo s (execAirflowLossTimeout p s) := by
  refine .next (.whenOperating fun hm => ?_)
  split
  · exact (Acts.reach s _).trans ((Acts.onCe _ p _ rfl rfl id).trans (.report _ p _ _ (by simpa using hm)))
  · exact .refl s

theorem actsTo_hlimOpen : ActsTo s (execHlimOpen p s) := by
  refine .next (.ite (fun _ => ?_) fun _ => .refl s)
  by_cases hm : s.mode = .operating
  · rw [State.whenOperating_operating _ _ (by simpa using hm)]
    have h1 : Acts s ((s.onLines p (fun l => { l with hlimClosed := false })).dropE p) :=
      .cut (by simp [PocketState.clearForHeat]) {} {}
    exact h1.trans (.report _ p _ _ (h1.mode.trans hm))
  · rw [State.whenOperating_other _ _ (by simpa using hm)]
    exact .onLines_held s p _ hm

theorem actsTo_hlimClose : ActsTo s (execHlimClose p s) :=
  .next (.ite (fun _ => .refl s) fun _ => (Acts.onLines s p _ id fun _ => rfl).then_whenOperating fun _ => .followE _ p)

theorem actsTo_drvfAssert : ActsTo s (execDrvfAssert p s) :=
  .next ((Acts.onLines s p _ id id).then_whenOperating fun hm => .ite (fun _ => .failSegment _ p _ hm) fun _ => .refl _)

/-! ### Measurement and messages -/

theorem actsTo_idxEdge (after : Ticks) : ActsTo s (execIdxEdge p after s) :=
  .next ((Acts.elapse s after).then_whenOperating fun hm => .indexEdge _ p hm)

theorem actsTo_tchEdge (after : Ticks) (rising : Bool) : ActsTo s (execTchEdge p after rising s) :=
  .next ((Acts.elapse s after).then_whenOperating fun _ => .ite (fun _ => Acts.onRcu _ p _) fun _ => .refl _)

theorem actsTo_wetRise (after : Ticks) : ActsTo s (execWetRise p after s) :=
  .next (.ite (fun _ => .elapse s after) fun _ => ((Acts.elapse s after).trans (Acts.onLines _ p _ id id)).then_whenOperating fun _ =>
    .ite (fun _ => Acts.onRcu _ p _) fun _ => .refl _)

theorem actsTo_wetFall (after : Ticks) : ActsTo s (execWetFall p after s) :=
  .next (.ite (fun _ => ((Acts.elapse s after).trans (Acts.onLines _ p _ id id)).then_whenOperating fun _ =>
    (Acts.settlePulse _ p).trans (Acts.onRcu _ p _)) fun _ => .elapse s after)

theorem actsTo_contactQualified : ActsTo s (execContactQualified p s) := by
  refine .next (.whenOperating fun _ => ?_)
  split
  · exact .ite (fun _ => .refl s) fun _ => (Acts.reach s _).trans (Acts.onRcu _ p _)
  · exact .refl s

theorem actsTo_dryCondition (phase : Nat) : ActsTo s (execDryCondition p phase s) := by
  have h1 : Acts s (s.onMe p (fun m => { m with dryNotice := if m.dryNotice = some phase then none else m.dryNotice })) := Acts.onMe s p _ rfl
  refine .next (.whenOperating fun _ => .ite (fun h => h1.trans (.endPhase _ p _ ?_)) fun _ => h1)
  unfold State.inDryPhase at h
  simp only [Bool.and_eq_true, beq_iff_eq] at h
  simpa using h.1.1

theorem actsTo_earlyReversal : ActsTo s (execEarlyReversal p s) := by
  have h1 : Acts s (s.onTm p (fun t => { t with reversalNotice := false })) := Acts.onTm s p _ rfl
  exact .next (.whenOperating fun hm => .ite (fun _ => h1.trans (.reverseEarly _ p (h1.mode.trans hm))) fun _ => h1)

theorem actsTo_faultReport (k : FaultKind) (detail : Option Nat) : ActsTo s (execFaultReport p k detail s) :=
  .next (.whenOperating fun hm => .report s p k detail hm)

/-! ### The timers of the cycle engine, of heat and of the supply -/

theorem State.phaseDue_running {t : Ticks} (h : s.phaseDue p = some t) : (s.pocket p).ce.state = .running := by
  unfold State.phaseDue at h
  split at h
  · assumption
  · cases h

theorem actsTo_phaseTimeExpired : ActsTo s (execPhaseTimeExpired p s) := by
  refine .next (.whenOperating fun _ => ?_)
  split
  · rename_i t ht
    refine (Acts.reach s t).trans ?_
    unfold State.phaseTimeEnds
    split
    · exact .endPhase _ p _ (by rw [State.pocket_reach]; exact State.phaseDue_running s p ht)
    · exact .refl _
  · exact .refl s

theorem actsTo_purgeEnd : ActsTo s (execPurgeEnd p s) := by
  refine .next (.whenOperating fun _ => ?_)
  split
  · exact (Acts.reach s _).trans (Acts.blowerEnds _ p _ rfl rfl rfl)
  · exact .refl s

theorem actsTo_pauseTimeout : ActsTo s (execPauseTimeout p s) := by
  refine .next (.whenOperating fun _ => ?_)
  split
  · rename_i t ht
    refine (Acts.reach s t).trans (.enterWindDown _ p _ ?_)
    unfold CycleEngine.pauseDue at ht
    split at ht
    · rename_i hp
      have : (s.pocket p).ce.state = .paused := by simpa using hp
      simp [this]
    · cases ht
  · exact .refl s

theorem actsTo_runOnTimeout : ActsTo s (execRunOnTimeout p s) := by
  refine .next (.whenOperating fun _ => ?_)
  split
  · exact (Acts.reach s _).trans (.endRunOn _ p)
  · exact .refl s

theorem actsTo_releaseHoldExpired : ActsTo s (execReleaseHoldExpired p s) := by
  refine .next (.whenOperating fun _ => ?_)
  split
  · exact .ite (fun _ => .refl s) fun _ => (Acts.reach s _).trans (.askRelease _ p)
  · exact .refl s

theorem actsTo_energizeStep : ActsTo s (execEnergizeStep p s) :=
  .next (.whenOperating fun _ => .ite (fun _ => (Acts.reach s _).trans (.riseE _ p)) fun _ => .refl s)

theorem actsTo_recoveryEnd : ActsTo s (execRecoveryEnd p s) := by
  refine .next (.whenOperating fun _ => ?_)
  split
  · exact (Acts.reach s _).trans ((Acts.onHsc _ p _ rfl rfl rfl fun _ => rfl).trans (.followE _ p))
  · exact .refl s

theorem actsTo_shedHoldExpired : ActsTo s (execShedHoldExpired p s) := by
  refine .next (.whenOperating fun _ => ?_)
  split
  · exact (Acts.reach s _).trans (.endHold _ p)
  · exact .refl s

theorem SampleBuffers.Sound.timer_off {b : SampleBuffers} (h : b.Sound) : ({ b with flushDue := none } : SampleBuffers).Sound :=
  ⟨h.1, h.2.1, h.2.2.1, nofun⟩

theorem actsTo_flushTimerExpired : ActsTo s (execFlushTimerExpired p s) := by
  refine .next (.whenOperating fun _ => ?_)
  split
  · exact (Acts.reach s _).trans ((Acts.onSb _ p _ (·.timer_off)).trans (.flushSamples _ p))
  · exact .refl s

end

section
variable (s : State)

theorem actsTo_levelLinesChange (l2 l1 l0 : Bool) : ActsTo s (execLevelLinesChange l2 l1 l0 s) :=
  .next (.ite (fun _ => .refl s) fun _ => (Acts.levelLines s _ (levelOfLines_le l2 l1 l0)).then_whenOperating fun _ => .startStability _)

theorem actsTo_levelDebounceExpired : ActsTo s (execLevelDebounceExpired s) := by
  refine .next (.whenOperating fun _ => ?_)
  split
  · exact (Acts.reach s _).trans (.debounce _)
  · exact .refl s

theorem actsTo_saveDone (matched : Bool) : ActsTo s (execSaveDone matched s) :=
  .next (.whenOperating fun _ => .ite (fun _ => (Acts.setStore s (s.ps.endSave matched) rfl).trans (.post _ _)) fun _ => .refl s)

theorem actsTo_supplyUpdate (r : Readings) : ActsTo s (execSupplyUpdate r s) := .next (.whenOperating fun hm => .supplyUpdate s r hm)

theorem actsTo_voltageSample (v : Nat) : ActsTo s (execVoltageSample v s) := by
  refine .next (.whenOperating fun _ => ?_)
  have h1 : Acts (s.reach s.sm.nextSample) { s.reach s.sm.nextSample with
      sm := { (s.reach s.sm.nextSample).sm with nextSample := (s.reach s.sm.nextSample).sm.nextSample + millis 50 } } := .meter _ _ rfl
  exact (Acts.reach s _).trans (h1.trans (.takeSample _ _))

theorem actsTo_receive (q : Port) (chars : List Byte) : ActsTo s (.next (s.whenOperating (·.receive q chars))) :=
  .next (.whenOperating fun _ => .receive s q chars)

theorem actsTo_characterError (q : Port) (chars : List Byte) : ActsTo s (execCharacterError q chars s) :=
  .next (.whenOperating fun _ => (Acts.receive s q chars).trans (.discardFrame _ q))

theorem actsTo_frameGapTimeout (q : Port) (chars : List Byte) : ActsTo s (execFrameGapTimeout q chars s) := by
  refine .next (.whenOperating fun _ => ?_)
  dsimp only
  have h1 := Acts.receive s q chars
  split
  · exact h1.trans ((Acts.reach _ _).trans (.discardFrame _ q))
  · exact h1

theorem actsTo_replyDone (q : Port) : ActsTo s (execReplyDone q s) :=
  .next (.whenOperating fun _ => .ite (fun _ => .port s q _ fun ⟨_, hlatch⟩ => ⟨nofun, hlatch⟩) fun _ => .refl s)

end

end Sys2Proof.Machine


/-! PROOF. What every step keeps (O56 to O60): every step is a chain of acts, a restart, or the end of the profile load. -/

namespace Sys2Proof.Machine

/-! ## Every command -/

/-- The state right after the ports have opened and SAFE is asserted, at the end of the profile load (R184, R200). -/
def State.opened (s : State) : State :=
  { s with mode := .operating, loadedAt := s.now, portA := s.portA.live .A, portB := s.portB.live .B, portS := s.portS.live .S,
           sm := { s.sm with nextSample := s.now + millis 50, nextUpdate := s.now + millis 250 },
           a := { s.a with hsc := { s.a.hsc with safe := true } }, b := { s.b with hsc := { s.b.hsc with safe := true } } }

/-- What a command comes to: acts, a restart into a mode that is not at work, or acts from the end of the profile load. -/
inductive Outcome (s : State) : State → Prop
  | acts {t : State} (h : Acts s t) : Outcome s t
  | restart (mode : Mode) (f : ProfileStore) (h : mode ≠ .operating) : Outcome s (s.clear mode f)
  | loaded {t : State} (hm : s.mode = .loading) (h : Acts s.opened t) : Outcome s t

/-- A command answers with one of these outcomes. -/
def ComesTo (s : State) (r : Result) : Prop := ∃ t, r = .next t ∧ Outcome s t

theorem ActsTo.comesTo {s : State} {r : Result} (h : ActsTo s r) : ComesTo s r := by
  obtain ⟨t, e, h⟩ := h
  exact ⟨t, e, .acts h⟩

theorem comesTo_resetRelease (s : State) : ComesTo s (execResetRelease s) := by
  refine ⟨_, rfl, ?_⟩
  cases hm : s.mode
  case held => exact .restart .loading _ (by decide)
  all_goals exact .acts (.refl s)

theorem Acts.examineLimit (s : State) (p : Pocket) (hm : s.mode = .operating) : Acts s (s.examineLimit p) :=
  .ite (fun _ => .refl s) fun _ => .report s p _ _ hm

theorem Acts.endLoad (s : State) (v : Nat) : Acts s.opened (s.endLoad v) := by
  have h1 : Acts s.opened (s.opened.startStability.takeSample (voltageReading v)) := (Acts.startStability _).trans (.takeSample _ _)
  have h2 := h1.trans (.examineLimit _ .A (h1.mode.trans rfl))
  exact h2.trans (.examineLimit _ .B (h2.mode.trans rfl))

theorem comesTo_profileLoadDone (s : State) (v : Nat) : ComesTo s (execProfileLoadDone v s) := by
  refine ⟨_, rfl, ?_⟩
  cases hm : s.mode
  case loading => exact .loaded hm (.endLoad s v)
  all_goals exact .acts (.refl s)

theorem actsTo_request (s : State) (r : Request) (q : Port) (tag : Byte) (payload : List Byte) :
    ActsTo s (.next (s.request r q tag payload)) := .next (.request s r q tag payload)

/-- Every command's outcome. -/
theorem exec_comesTo (c : Instr) (s : State) : ComesTo s (exec c s) := by
  cases c
  case start q tag payload => exact (actsTo_request s .start q tag payload).comesTo
  case pause q tag payload => exact (actsTo_request s .pause q tag payload).comesTo
  case resume q tag payload => exact (actsTo_request s .resume q tag payload).comesTo
  case stop q tag payload => exact (actsTo_request s .stop q tag payload).comesTo
  case addTime q tag payload => exact (actsTo_request s .addTime q tag payload).comesTo
  case halt q tag payload => exact (actsTo_request s .halt q tag payload).comesTo
  case shed q tag payload => exact (actsTo_request s .shed q tag payload).comesTo
  case restore q tag payload => exact (actsTo_request s .restore q tag payload).comesTo
  case fetchSamples q tag payload => exact (actsTo_request s .fetchSamples q tag payload).comesTo
  case clearFault q tag payload => exact (actsTo_request s .clearFault q tag payload).comesTo
  case readPocket q tag payload => exact (actsTo_request s .readPocket q tag payload).comesTo
  case readFaults q tag payload => exact (actsTo_request s .readFaults q tag payload).comesTo
  case readSupply q tag payload => exact (actsTo_request s .readSupply q tag payload).comesTo
  case readMeter q tag payload => exact (actsTo_request s .readMeter q tag payload).comesTo
  case readProfile q tag payload => exact (actsTo_request s .readProfile q tag payload).comesTo
  case readEvents q tag payload => exact (actsTo_request s .readEvents q tag payload).comesTo
  case setEventMask q tag payload => exact (actsTo_request s .setEventMask q tag payload).comesTo
  case setLevel q tag payload => exact (actsTo_request s .setLevel q tag payload).comesTo
  case writeCeiling q tag payload => exact (actsTo_request s .writeCeiling q tag payload).comesTo
  case setClass q tag payload => exact (actsTo_request s .setClass q tag payload).comesTo
  case writeProfile q tag payload => exact (actsTo_request s .writeProfile q tag payload).comesTo
  case saveProfile q tag payload => exact (actsTo_request s .saveProfile q tag payload).comesTo
  case unknownCode q code tag payload => exact (ActsTo.next (.unknownRequest s q code tag)).comesTo
  case frameCheckFail q chars => exact (actsTo_receive s q chars).comesTo
  case frameLengthInvalid q chars => exact (actsTo_receive s q chars).comesTo
  case characterError q chars => exact (actsTo_characterError s q chars).comesTo
  case frameGapTimeout q chars => exact (actsTo_frameGapTimeout s q chars).comesTo
  case replyDone q => exact (actsTo_replyDone s q).comesTo
  case doorOpen p => exact (actsTo_doorOpen s p).comesTo
  case doorClose p => exact (actsTo_doorClose s p).comesTo
  case airfClose p => exact (actsTo_airfClose s p).comesTo
  case airfOpen p => exact (actsTo_airfOpen s p).comesTo
  case airflowProven p => exact (actsTo_airflowProven s p).comesTo
  case provingTimeout p => exact (actsTo_provingTimeout s p).comesTo
  case airflowLossTimeout p => exact (actsTo_airflowLossTimeout s p).comesTo
  case hlimOpen p => exact (actsTo_hlimOpen s p).comesTo
  case hlimClose p => exact (actsTo_hlimClose s p).comesTo
  case drvfAssert p => exact (actsTo_drvfAssert s p).comesTo
  case idxEdge p after => exact (actsTo_idxEdge s p after).comesTo
  case tchEdge p after rising => exact (actsTo_tchEdge s p after rising).comesTo
  case wetRise p after => exact (actsTo_wetRise s p after).comesTo
  case wetFall p after => exact (actsTo_wetFall s p after).comesTo
  case contactQualified p => exact (actsTo_contactQualified s p).comesTo
  case dryCondition p phase => exact (actsTo_dryCondition s p phase).comesTo
  case earlyReversal p => exact (actsTo_earlyReversal s p).comesTo
  case faultReport p k detail => exact (actsTo_faultReport s p k detail).comesTo
  case dclrPulseEnd p drvf => exact (actsTo_dclrPulseEnd s p drvf).comesTo
  case lockoutEnd p => exact (actsTo_lockoutEnd s p).comesTo
  case accelTimeout p => exact (actsTo_accelTimeout s p).comesTo
  case fullRun p => exact (actsTo_fullRun s p).comesTo
  case stallTimeout p => exact (actsTo_stallTimeout s p).comesTo
  case coastEnd p => exact (actsTo_coastEnd s p).comesTo
  case dwellEnd p => exact (actsTo_dwellEnd s p).comesTo
  case minimumRunReached p => exact (actsTo_minimumRunReached s p).comesTo
  case phaseTimeExpired p => exact (actsTo_phaseTimeExpired s p).comesTo
  case purgeEnd p => exact (actsTo_purgeEnd s p).comesTo
  case pauseTimeout p => exact (actsTo_pauseTimeout s p).comesTo
  case runOnTimeout p => exact (actsTo_runOnTimeout s p).comesTo
  case supplyUpdate r => exact (actsTo_supplyUpdate s r).comesTo
  case voltageSample v => exact (actsTo_voltageSample s v).comesTo
  case releaseHoldExpired p => exact (actsTo_releaseHoldExpired s p).comesTo
  case energizeStep p => exact (actsTo_energizeStep s p).comesTo
  case recoveryEnd p => exact (actsTo_recoveryEnd s p).comesTo
  case shedHoldExpired p => exact (actsTo_shedHoldExpired s p).comesTo
  case flushTimerExpired p => exact (actsTo_flushTimerExpired s p).comesTo
  case levelLinesChange l2 l1 l0 => exact (actsTo_levelLinesChange s l2 l1 l0).comesTo
  case levelDebounceExpired => exact (actsTo_levelDebounceExpired s).comesTo
  case saveDone matched => exact (actsTo_saveDone s matched).comesTo
  case resetAssert => exact ⟨_, rfl, .restart .held _ (by decide)⟩
  case powerLoss => exact ⟨_, rfl, .restart .off _ (by decide)⟩
  case resetRelease => exact comesTo_resetRelease s
  case profileLoadDone v => exact comesTo_profileLoadDone s v

/-- Every step's outcome, from the state without the command it has taken off the queue. -/
theorem step_comesTo (s : State) : ∃ cs, ComesTo { s with pending := cs } (step s) := by
  unfold step
  split
  · exact ⟨_, exec_comesTo _ _⟩
  · rename_i hempty
    refine ⟨s.pending, ?_⟩
    have hidle : ∀ c, ComesTo s (exec c s) := fun c => exec_comesTo c s
    have hwait : ComesTo s (if s.waitsForReading then .next s else .next (s.elapse 1)) := by
      split
      · exact ⟨_, rfl, .acts (.refl s)⟩
      · exact ⟨_, rfl, .acts (.elapse s 1)⟩
    show ComesTo s s.idleStep
    unfold State.idleStep
    cases hm : s.mode
    case operating =>
      unfold State.workOn
      dsimp only
      split
      · split
        · exact hidle _
        · exact hwait
      · exact hwait
    case loading => exact ⟨_, rfl, .acts (.elapse s 1)⟩
    all_goals exact ⟨_, rfl, .acts (.refl s)⟩

/-- What holds through every act, holds after a restart, and is carried through the end of the profile load, every step keeps. -/
theorem step_keeps {P : State → Prop} (hacts : ∀ s t, Acts s t → P s → P t)
    (hrestart : ∀ s mode f, mode ≠ .operating → P s → P (s.clear mode f))
    (hload : ∀ s, s.mode = .loading → P s → P s.opened) {s t : State} (h : P s) (hstep : step s = .next t) : P t := by
  obtain ⟨cs, u, e, ho⟩ := step_comesTo s
  have hu : u = t := by
    rw [e] at hstep
    injection hstep
  subst hu
  have hq : P { s with pending := cs } := hacts _ _ (.queue s cs) h
  cases ho with
  | acts ha => exact hacts _ _ ha hq
  | restart mode f hm => exact hrestart _ mode f hm hq
  | loaded hm ha => exact hacts _ _ ha (hload _ hm hq)

/-! ## The reversal lockout (O58) -/

theorem State.clear_pocket (s : State) (mode : Mode) (f : ProfileStore) (p : Pocket) :
    (s.clear mode f).pocket p = .startUp (s.pocket p).lines := by cases p <;> rfl

theorem State.opened_pocket (s : State) (p : Pocket) :
    s.opened.pocket p = { s.pocket p with hsc := { (s.pocket p).hsc with safe := true } } := by cases p <;> rfl

/-- Settles O58: a run output is asserted by two operations alone, each of which waits for the 2 s (R31). -/
theorem stepKeepsTheLockout : Obligations.StepKeepsTheLockout := by
  unfold Obligations.StepKeepsTheLockout
  intro s t
  refine step_keeps (P := LockoutKept) (fun u v h => h.obeyed ownLaw_lockout) (fun u mode f _ _ p => ?_) fun u _ h p => ?_
  · rw [State.clear_pocket]
    exact LockoutAt.of_off rfl rfl
  · rw [State.opened_pocket]
    exact h p

/-! ## The fault lists and SAFE (O59) -/

theorem faultsAgree_clear (s : State) {mode : Mode} (f : ProfileStore) (hm : mode ≠ .operating) : FaultsAgree (s.clear mode f) := by
  intro p
  rw [State.clear_pocket]
  have hfaulted : CycleEngine.startUp.state ≠ .faulted := by decide
  exact ⟨⟨Nat.zero_le _, List.nodup_nil, nofun⟩, iff_of_false (Nat.lt_irrefl 0) hfaulted, fun h => absurd h hm, fun _ => ⟨rfl, rfl⟩⟩

theorem FaultsAgree.opened {s : State} (hm : s.mode = .loading) (h : FaultsAgree s) : FaultsAgree s.opened := by
  intro p
  obtain ⟨hlist, htrips, -, hoff⟩ := h p
  obtain ⟨hempty, -⟩ := hoff (by rw [hm]; decide)
  rw [State.opened_pocket]
  exact ⟨hlist, htrips, fun _ => iff_of_false (by simp) (by simp [FaultList.holds, hempty]), fun hn => absurd rfl hn⟩

/-- Settles O59: a report and CLEAR_FAULT change the list, the cycle state and SAFE together (R113, R165, R168). -/
theorem stepKeepsTripsAndSafe : Obligations.StepKeepsTripsAndSafe := by
  unfold Obligations.StepKeepsTripsAndSafe
  intro s t
  exact step_keeps (P := FaultsAgree) (fun u v h => h.obeyed ownLaw_faults) (fun u mode f hm _ => faultsAgree_clear u f hm)
    fun u hm h => h.opened hm

/-! ## The sample buffers and the ports (O60) -/

theorem SampleBuffers.startUp_sound : SampleBuffers.startUp.Sound :=
  ⟨by show 0 < 12; decide, rfl, by decide, nofun⟩

theorem PortState.silent_sound (q : Port) : (PortState.silent q).Sound := by
  cases q <;> exact ⟨nofun, by decide, by decide⟩

theorem PortState.live_sound (q : Port) (x : PortState) : (x.live q).Sound := by
  have hlatch : EventKind.restarted.set &&& admitted (defaultMask q) = EventKind.restarted.set := by cases q <;> decide
  have hmask : defaultMask q &&& eventBits = defaultMask q := by cases q <;> decide
  exact ⟨nofun, hlatch, hmask⟩

/-- Settles O60: each operation of the buffers and of a port keeps its law (R177, R181, R183, R185, R186). -/
theorem stepKeepsBuffersAndPorts : Obligations.StepKeepsBuffersAndPorts := by
  unfold Obligations.StepKeepsBuffersAndPorts
  intro s t
  refine step_keeps (P := fun u => BuffersHold u ∧ PortsHold u) (fun u v h ⟨hb, hp⟩ => ⟨h.obeyed ownLaw_buffers hb, h.ports hp⟩)
    (fun u mode f _ _ => ⟨fun p => ?_, fun q => ?_⟩) fun u _ ⟨hb, _⟩ => ⟨fun p => ?_, fun q => ?_⟩
  · rw [State.clear_pocket]
    exact SampleBuffers.startUp_sound
  · cases q
    · exact PortState.silent_sound .A
    · exact PortState.silent_sound .B
    · exact PortState.silent_sound .S
  · rw [State.opened_pocket]
    exact hb p
  · cases q
    · exact PortState.live_sound .A _
    · exact PortState.live_sound .B _
    · exact PortState.live_sound .S _

/-! ## Heat within what is permitted (O56) -/

/-- Settles O56: no operation raises E above its target, and a target falls only with E following (R107, R108). -/
theorem stepKeepsHeatPermitted : Obligations.StepKeepsHeatPermitted := by
  unfold Obligations.StepKeepsHeatPermitted
  intro s t hf h hstep
  refine (step_keeps (P := fun u => FaultsAgree u ∧ HeatAllowed u) (fun u v ha ⟨hf, h⟩ => ⟨ha.obeyed ownLaw_faults hf, ha.heat hf h⟩)
    (fun u mode f hm _ => ⟨faultsAgree_clear u f hm, fun p => ?_⟩) (fun u hm ⟨hf, h⟩ => ⟨hf.opened hm, fun p => ?_⟩) ⟨hf, h⟩ hstep).2
  · rw [State.clear_pocket]
    exact Nat.zero_le _
  · obtain ⟨-, -, -, hoff⟩ := hf p
    have hsafe := (hoff (by rw [hm]; decide)).2
    have hzero : (u.pocket p).hsc.energized = 0 := HeatAt.energized_eq_zero (h p) (by simp [PocketState.clearForHeat, hsafe])
    rw [State.opened_pocket]
    exact hzero ▸ Nat.zero_le _

/-! ## The supply account (O57) -/

/-- Settles O57: each operation of the account keeps the law of each pocket's entries, and every evaluation brings committed power within
the ceiling in force (R101, R105, R127, R131). -/
theorem stepKeepsTheAccount : Obligations.StepKeepsTheAccount := by
  unfold Obligations.StepKeepsTheAccount
  intro s t
  refine step_keeps (P := fun u => LevelsHold u ∧ AccountHolds u) (fun u v ha h => ?_) (fun u mode f _ h => ?_) fun u _ h => ?_
  · obtain ⟨hl, hacc⟩ := h
    obtain ⟨hallot, hcommit⟩ := (accountHolds_iff u).mp hacc
    obtain ⟨⟨hl', hallot'⟩, hkept, -⟩ := ha.account ⟨hl, hallot⟩
    exact ⟨hl', (accountHolds_iff v).mpr ⟨hallot', hkept hcommit⟩⟩
  · refine ⟨⟨h.1.1, nofun, nofun⟩, (accountHolds_iff _).mpr ⟨fun p => ?_, ?_⟩⟩
    · refine (allotmentHolds_iff _ p).mpr ⟨.of_empty rfl rfl, ?_⟩
      rw [State.clear_pocket]
      exact Nat.zero_le _
    · have hzero : (u.clear mode f).committed = 0 := by
        unfold State.committed State.committedOf
        split <;> simp [State.meteredPart, grantsOf, ratedSum, State.clear, State.startUp, Allocator.startUp]
      rw [hzero]
      exact Nat.zero_le _
  · obtain ⟨hl, hacc⟩ := h
    obtain ⟨hallot, hcommit⟩ := (accountHolds_iff u).mp hacc
    refine ⟨hl, (accountHolds_iff _).mpr ⟨fun p => ?_, ?_⟩⟩
    · refine (hallot p).of_same rfl rfl (by rw [State.opened_pocket]) ?_ ?_ (by rw [State.opened_pocket])
      · cases p <;> rfl
      · cases p <;> rfl
    · have e : u.opened.committed = u.committed := rfl
      rw [e]
      exact hcommit

end Sys2Proof.Machine


/-! PROOF. The machine's step (O1, O2), the state right after reset (O3), reset and the release (O4), and saves (O6). -/

namespace Sys2Proof.Machine

/-! ## A step (O1, O2) -/

/-- Settles O1: a step is defined on the front of the queue. -/
theorem stepRunsTheFrontCommand : Obligations.StepRunsTheFrontCommand := fun _ _ _ => rfl

/-- The earliest of a list stands on it, and nothing on it comes sooner. -/
theorem earliest_spec {es : List (Ticks × Instr)} {d : Ticks × Instr} (h : earliest es = some d) :
    d ∈ es ∧ ∀ e ∈ es, d.1 ≤ e.1 := by
  induction es generalizing d with
  | nil => simp [earliest] at h
  | cons e es ih =>
    unfold earliest at h
    split at h
    · rename_i f hf
      obtain ⟨hmem, hleast⟩ := ih hf
      split at h <;> rename_i hlt <;> cases h
      · exact ⟨List.mem_cons_of_mem _ hmem, List.forall_mem_cons.mpr ⟨hlt.le, hleast⟩⟩
      · exact ⟨List.mem_cons_self, List.forall_mem_cons.mpr ⟨le_rfl, fun g hg => (not_lt.mp hlt).trans (hleast g hg)⟩⟩
    · rename_i hnone
      cases h
      cases es with
      | nil => exact ⟨List.mem_cons_self, by simp⟩
      | cons f fs => unfold earliest at hnone; split at hnone <;> (try split at hnone) <;> cases hnone

theorem earliest_isSome {es : List (Ticks × Instr)} (h : es ≠ []) : ∃ d, earliest es = some d := by
  cases es with
  | nil => exact absurd rfl h
  | cons e es =>
    unfold earliest
    split
    · split <;> exact ⟨_, rfl⟩
    · exact ⟨_, rfl⟩

theorem step_of_empty {s : State} (h : s.pending = []) : step s = s.idleStep := by
  unfold step
  rw [h]

/-- At work with nothing fallen due the clock waits for a reading, or one tick passes. -/
theorem State.workOn_of_none_due {s : State} (h : ∀ e ∈ s.due, s.now < e.1) :
    s.workOn = .next (if s.waitsForReading then s else s.elapse 1) := by
  unfold State.workOn
  split
  · rename_i t c he
    have hlate : ¬ t ≤ s.now := not_le.mpr (h _ (earliest_spec he).1)
    rw [if_neg hlate]
    split <;> rfl
  · split <;> rfl

/-- At work with something fallen due, the earliest is done. -/
theorem State.workOn_of_due {s : State} (h : ∃ e ∈ s.due, e.1 ≤ s.now) :
    ∃ d ∈ s.due, (∀ e ∈ s.due, d.1 ≤ e.1) ∧ s.workOn = exec d.2 s := by
  obtain ⟨e, he, hnow⟩ := h
  obtain ⟨d, hd⟩ := earliest_isSome (List.ne_nil_of_mem he)
  obtain ⟨hmem, hleast⟩ := earliest_spec hd
  refine ⟨d, hmem, hleast, ?_⟩
  unfold State.workOn
  rw [hd]
  exact if_pos ((hleast e he).trans hnow)

/-- Settles O2: by the mode, and at work by what the earliest of the list of things due is. -/
theorem emptyQueueWorksByTheClock : Obligations.EmptyQueueWorksByTheClock := by
  unfold Obligations.EmptyQueueWorksByTheClock
  intro s hempty
  rw [step_of_empty hempty]
  unfold State.idleStep
  refine ⟨?_, fun hm => by rw [hm], fun hm h => ?_, fun hm h => ?_⟩
  · rintro (hm | hm) <;> rw [hm]
  · rw [hm]; exact State.workOn_of_none_due h
  · rw [hm]; exact State.workOn_of_due h

/-! ## The state right after reset (O3) -/

theorem startUp_account (queue : List Instr) (mode : Mode) (la lb : PocketLines) (level : Nat) (f : ProfileStore) :
    AccountHolds (.startUp queue mode la lb level f) := by
  refine (accountHolds_iff _).mpr ⟨fun p => (allotmentHolds_iff _ p).mpr ⟨.of_empty rfl rfl, ?_⟩, ?_⟩
  · cases p <;> exact Nat.zero_le _
  · have hzero : (State.startUp queue mode la lb level f).committed = 0 := by
      unfold State.committed State.committedOf
      split <;> simp [State.meteredPart, grantsOf, ratedSum, State.startUp, Allocator.startUp]
    rw [hzero]
    exact Nat.zero_le _

theorem defaultProfile_inRange : defaultProfile.inRange = true := by decide +kernel

theorem defaultProfile_jointlyValid : defaultProfile.jointlyValid = true := by decide +kernel

/-- Settles O3: every block stands at its start-up values, which meet each law, and the profile is the defaults. -/
theorem resetStateIsSound : Obligations.ResetStateIsSound := by
  unfold Obligations.ResetStateIsSound
  refine ⟨fun p => ?_, startUp_account _ _ _ _ _ _, ⟨Nat.zero_le _, nofun, nofun⟩, fun p => ?_,
    faultsAgree_clear (.startUp [] .loading .initial .initial 0 .factory) _ (by decide), fun p => ?_, fun q => ?_,
    defaultProfile_inRange, defaultProfile_jointlyValid⟩
  · cases p <;> exact Nat.zero_le _
  · cases p <;> exact LockoutAt.of_off rfl rfl
  · cases p <;> exact SampleBuffers.startUp_sound
  · cases q
    · exact PortState.silent_sound .A
    · exact PortState.silent_sound .B
    · exact PortState.silent_sound .S

/-! ## Reset, the release and the loss of power (O4) -/

/-- A restart leaves every block at its start-up values, with a store whose image and check stand. -/
theorem State.clear_blocksCleared (s : State) (mode : Mode) {f : ProfileStore} (himage : f.image = s.ps.image)
    (hcheck : f.check = s.ps.check) (hsaving : f.saving = false) (hsave : f.lastSave = none) :
    BlocksCleared s (s.clear mode f) := by
  refine ⟨fun p => ⟨s.clear_pocket mode f p, ?_⟩, fun q => ?_, rfl, rfl, rfl, rfl, rfl, rfl, himage, hcheck, hsaving, hsave⟩
  · unfold State.outputsOff State.blwr
    rw [State.clear_pocket]
    refine ⟨rfl, rfl, rfl, rfl, fun n => ?_, rfl, rfl⟩
    cases n <;> rfl
  · cases q <;> exact ⟨rfl, rfl, rfl⟩

theorem ProfileStore.checkPasses_iff (f : ProfileStore) :
    f.checkPasses = true ↔ f.check = checkOf f.image.bytes ∧ f.image.inRange = true ∧ f.image.jointlyValid = true := by
  simp [ProfileStore.checkPasses, and_assoc]

theorem ProfileStore.load_of_passes {f : ProfileStore} (h : f.checkPasses = true) :
    f.load = { profile := f.image, unsaved := false, saving := false, lastSave := none, image := f.image, check := f.check,
               storeInvalid := false } := if_pos h

theorem ProfileStore.load_of_fails {f : ProfileStore} (h : ¬ f.checkPasses = true) :
    f.load = { profile := defaultProfile, unsaved := true, saving := false, lastSave := none, image := f.image, check := f.check,
               storeInvalid := true } := if_neg h

theorem ProfileStore.load_kept (f : ProfileStore) :
    f.load.image = f.image ∧ f.load.check = f.check ∧ f.load.saving = false ∧ f.load.lastSave = none := by
  unfold ProfileStore.load
  split <;> exact ⟨rfl, rfl, rfl, rfl⟩

theorem exec_resetRelease {s : State} (h : s.mode = .held) : exec .resetRelease s = .next (s.clear .loading s.ps.load) := by
  show execResetRelease s = _
  unfold execResetRelease
  rw [h]

/-- Settles O4: each of the three is a restart; the release loads the store. -/
theorem resetClearsAndReleaseLoads : Obligations.ResetClearsAndReleaseLoads := by
  unfold Obligations.ResetClearsAndReleaseLoads ResetAndPowerLossClearTheBlocks ReleaseLoadsTheProfile
  refine ⟨fun s => ⟨⟨_, rfl, rfl, s.clear_blocksCleared .held rfl rfl rfl rfl⟩,
    ⟨_, rfl, rfl, s.clear_blocksCleared .off rfl rfl rfl rfl⟩⟩, fun s hm => ?_⟩
  obtain ⟨himage, hcheck, hsaving, hsave⟩ := s.ps.load_kept
  refine ⟨_, exec_resetRelease hm, rfl, s.clear_blocksCleared .loading himage hcheck hsaving hsave, fun h => ?_, fun h => ?_⟩
  · rw [← ProfileStore.checkPasses_iff] at h
    show s.ps.load.profile = _ ∧ s.ps.load.storeInvalid = false ∧ s.ps.load.unsaved = false
    rw [ProfileStore.load_of_passes h]
    exact ⟨rfl, rfl, rfl⟩
  · rw [← ProfileStore.checkPasses_iff] at h
    show s.ps.load.profile = _ ∧ s.ps.load.storeInvalid = true ∧ s.ps.load.unsaved = true
    rw [ProfileStore.load_of_fails h]
    exact ⟨rfl, rfl, rfl⟩

/-! ## Requests that a port hears (R177, R178) -/

theorem exec_command (r : Request) (q : Port) (tag : Byte) (payload : List Byte) (s : State) :
    exec (r.command q tag payload) s = .next (s.request r q tag payload) := by cases r <;> rfl

/-- A request that a port hears is answered with what its reaction gives. -/
theorem exec_command_answered {s : State} {q : Port} (h : s.hears q) (r : Request) (tag : Byte) {payload : List Byte}
    {reaction : Reaction} (hr : s.respond r q payload = reaction) :
    exec (r.command q tag payload) s =
      .next (reaction.state.answered q r.code tag reaction.status reaction.payload) := by
  subst hr
  rw [exec_command, State.request_eq_answered h]

/-! ## Saves (O6) -/

theorem checkWord_not_ne (x : CheckWord) : ~~~ x ≠ x := by
  intro h
  have h0 := congrArg (fun y : CheckWord => y.getLsbD 0) h
  simp at h0

theorem ProfileStore.checkPasses_of_inverted {f : ProfileStore} (h : f.check = ~~~ checkOf f.image.bytes) : f.checkPasses = false := by
  refine Bool.eq_false_iff.mpr fun hp => ?_
  have hcheck := ((ProfileStore.checkPasses_iff f).mp hp).1
  exact checkWord_not_ne _ (h.symm.trans hcheck)

theorem exec_saveDone {s : State} (hm : s.mode = .operating) (hs : s.ps.saving = true) (matched : Bool) :
    exec (.saveDone matched) s = .next ({ s with ps := s.ps.endSave matched }.post .saveDone) := by
  show execSaveDone matched s = _
  unfold execSaveDone
  rw [State.whenOperating_operating _ _ hm, if_pos hs]

/-- Settles O6: SAVE_PROFILE writes an inverted check, the end of the save the check of the image or again an inverted one. -/
theorem saveRunsAndEnds : Obligations.SaveRunsAndEnds := by
  unfold Obligations.SaveRunsAndEnds
  intro s tag matched
  refine ⟨fun hh hs => ?_, fun hh hs => ?_, fun hm hs => ⟨_, exec_saveDone hm hs matched, ?_, ?_, ?_⟩⟩
  · have hr : s.respond .saveProfile .S [] = s.refuse .busy := if_pos hs
    exact exec_command_answered hh .saveProfile tag hr
  · have hr : s.respond .saveProfile .S []
        = State.ok { s with ps := { s.ps with saving := true, check := ~~~ checkOf s.ps.image.bytes } } [] := if_neg (by simp [hs])
    exact ⟨_, exec_command_answered hh .saveProfile tag hr, rfl, ProfileStore.checkPasses_of_inverted rfl⟩
  · rfl
  · rintro rfl; rfl
  · rintro rfl
    exact ProfileStore.checkPasses_of_inverted rfl

end Sys2Proof.Machine


/-! PROOF. Requests at a port (O9, O10), SET_EVENT_MASK (O13), ADD_TIME (O20), tach edges (O33) and the filter (O38). -/

namespace Sys2Proof.Machine

/-! ## The checks of the link (R178, R179) -/

theorem State.respond_of_refused {s : State} {r : Request} {q : Port} {payload : List Byte} {status : Status}
    (h : r.linkRefusal q payload = some status) : s.respond r q payload = s.refuse status := by
  unfold State.respond
  rw [h]

theorem State.respond_of_passes {s : State} {r : Request} {q : Port} {payload : List Byte} (h : r.linkRefusal q payload = none) :
    s.respond r q payload = s.actOn r q ((r.subject q payload).getD .A) payload := by
  unfold State.respond
  rw [h]

/-- A request refused by the link answers its status at its port, and changes nothing else. -/
theorem exec_command_refused {s : State} {q : Port} (h : s.hears q) (r : Request) (tag : Byte) {payload : List Byte} {status : Status}
    (hr : r.linkRefusal q payload = some status) :
    exec (r.command q tag payload) s = .next (s.answered q r.code tag status []) :=
  exec_command_answered h r tag (State.respond_of_refused hr)

theorem exec_unknownCode {s : State} {q : Port} (h : s.hears q) (code tag : Byte) (payload : List Byte) :
    exec (.unknownCode q code tag payload) s = .next (s.answered q code tag .unknown []) := by
  show Host.Outcome.next (s.unknownRequest q code tag) = _
  rw [State.unknownRequest, State.deaf_eq_false h]
  rfl

/-- A reaction without OK carries no payload (R178). -/
def Reaction.Sound (r : Reaction) : Prop := r.status ≠ .ok → r.payload = []

theorem Reaction.Sound.refuse (s : State) (status : Status) : (s.refuse status).Sound := fun _ => rfl

theorem Reaction.Sound.ok (s : State) (payload : List Byte) : (s.ok payload).Sound := fun h => absurd rfl h

theorem Reaction.Sound.ite {c : Prop} [Decidable c] {r r' : Reaction} (h : r.Sound) (h' : r'.Sound) :
    (if c then r else r').Sound := by split <;> assumption

theorem State.actStart_sound (s : State) (p : Pocket) (payload : List Byte) : (s.actStart p payload).Sound := by
  unfold State.actStart
  refine Reaction.Sound.ite (Reaction.Sound.refuse _ _) (Reaction.Sound.ite (Reaction.Sound.refuse _ _) ?_)
  split
  · exact Reaction.Sound.refuse _ _
  · exact Reaction.Sound.ok _ _

theorem State.actPause_sound (s : State) (p : Pocket) : (s.actPause p).Sound := by
  unfold State.actPause
  split
  · exact Reaction.Sound.ok _ _
  · exact Reaction.Sound.ok _ _
  · exact Reaction.Sound.refuse _ _

theorem State.actRestore_sound (s : State) (p : Pocket) : (s.actRestore p).Sound := by
  unfold State.actRestore
  split <;> exact Reaction.Sound.ok _ _

theorem State.actFetchSamples_sound (s : State) (p : Pocket) : (s.actFetchSamples p).Sound := by
  unfold State.actFetchSamples
  split
  · exact Reaction.Sound.ok _ _
  · exact Reaction.Sound.refuse _ _

theorem State.actReadProfile_sound (s : State) (number : Nat) : (s.actReadProfile number).Sound := by
  unfold State.actReadProfile
  split
  · exact Reaction.Sound.ok _ _
  · exact Reaction.Sound.refuse _ _

theorem State.actWriteProfile_sound (s : State) (number value : Nat) : (s.actWriteProfile number value).Sound := by
  unfold State.actWriteProfile
  split
  · exact Reaction.Sound.refuse _ _
  · exact .ite (.refuse _ _) (.ite (.refuse _ _) (.ite (.refuse _ _)
      (.ite (.refuse _ _) (.ite (.refuse _ _) (.ok _ _)))))

/-- Whatever the owning block does with a request, a reply without OK is empty (R178). -/
theorem State.actOn_sound (s : State) (r : Request) (q : Port) (p : Pocket) (payload : List Byte) :
    (s.actOn r q p payload).Sound := by
  have refuse := Reaction.Sound.refuse s
  have ok := Reaction.Sound.ok
  cases r
  case start => exact s.actStart_sound p payload
  case pause => exact s.actPause_sound p
  case resume => exact .ite (refuse _) (.ite (refuse _) (ok _ _))
  case stop => exact .ite (refuse _) (.ite (refuse _) (.ite (ok _ _) (ok _ _)))
  case addTime => exact .ite (refuse _) (.ite (refuse _) (ok _ _))
  case halt => exact .ite (refuse _) (ok _ _)
  case shed => exact .ite (refuse _) (ok _ _)
  case restore => exact s.actRestore_sound p
  case fetchSamples => exact s.actFetchSamples_sound p
  case clearFault => exact .ite (refuse _) (ok _ _)
  case readPocket => exact ok _ _
  case readFaults => exact ok _ _
  case readSupply => exact ok _ _
  case readMeter => exact ok _ _
  case readProfile => exact s.actReadProfile_sound _
  case readEvents => exact ok _ _
  case setEventMask => exact .ite (refuse _) (ok _ _)
  case setLevel => exact .ite (ok _ _) (.ite (refuse _) (ok _ _))
  case writeCeiling => exact .ite (refuse _) (.ite (refuse _) (ok _ _))
  case setClass => exact .ite (refuse _) (.ite (refuse _) (ok _ _))
  case writeProfile => exact s.actWriteProfile_sound _ _
  case saveProfile => exact .ite (refuse _) (ok _ _)

theorem State.respond_sound (s : State) (r : Request) (q : Port) (payload : List Byte) : (s.respond r q payload).Sound := by
  unfold State.respond
  split
  · exact Reaction.Sound.refuse _ _
  · exact s.actOn_sound _ _ _ _

/-! ## One request at a time (O9) -/

/-- A port that is off loses a request (R177). -/
theorem exec_command_of_off {s : State} {q : Port} (h : (s.port q).receiver = .off) (r : Request) (tag : Byte) (payload : List Byte) :
    exec (r.command q tag payload) s = .next s := by
  rw [exec_command]
  simp [State.request, State.deaf, h]

theorem exec_unknownCode_of_off {s : State} {q : Port} (h : (s.port q).receiver = .off) (code tag : Byte) (payload : List Byte) :
    exec (.unknownCode q code tag payload) s = .next s := by
  show Host.Outcome.next (s.unknownRequest q code tag) = _
  simp [State.unknownRequest, State.deaf, h]

theorem exec_replyDone {s : State} {q : Port} (hm : s.mode = .operating) (h : (s.port q).reply ≠ none) :
    exec (.replyDone q) s = .next (s.setPort q { s.port q with receiver := .hunt, reply := none }) := by
  show execReplyDone q s = _
  unfold execReplyDone
  rw [State.whenOperating_operating _ _ hm, if_pos (Option.isSome_iff_ne_none.mpr h)]

theorem exec_replyDone_of_none {s : State} {q : Port} (hm : s.mode = .operating) (h : (s.port q).reply = none) :
    exec (.replyDone q) s = .next s := by
  show execReplyDone q s = _
  unfold execReplyDone
  rw [State.whenOperating_operating _ _ hm, h]
  rfl

theorem requestsAreTakenOneByOne : RequestsAreTakenOneByOne := by
  intro r q tag payload s hh
  have hmode : (s.respond r q payload).state.mode = .operating := (Acts.respond s r q payload hh.1).mode.trans hh.1
  have hreply : (((s.respond r q payload).state.answered q r.code tag (s.respond r q payload).status
      (s.respond r q payload).payload).port q).reply =
        some (Reply.mk (r.code ||| 0x80#8) tag (s.respond r q payload).status (s.respond r q payload).payload) := by
    rw [State.port_answered]
  refine ⟨_, _, exec_command_answered hh r tag rfl, hreply, rfl, rfl, s.respond_sound r q payload, by rw [State.port_answered],
    by rw [State.port_answered]; rfl, fun r₂ tag₂ payload₂ => exec_command_of_off ?_ r₂ tag₂ payload₂,
    fun code₂ tag₂ payload₂ => exec_unknownCode_of_off ?_ code₂ tag₂ payload₂, exec_replyDone ?_ ?_⟩
  · rw [State.port_answered]
  · rw [State.port_answered]
  · simpa [State.answered] using hmode
  · rw [State.port_answered]
    nofun

/-- Settles O9: a port that holds a reply has its receiver off, and only REPLY_DONE ends that. -/
theorem oneRequestAtATime : Obligations.OneRequestAtATime :=
  ⟨requestsAreTakenOneByOne, fun _ _ hm => ⟨exec_replyDone hm, exec_replyDone_of_none hm⟩⟩

/-! ## Refusals of the link, and the table of requests (O10) -/

theorem pocketOfByte_eq_none {b : Byte} (h : 2 ≤ b.toNat) : pocketOfByte b = none := by
  have h0 : b ≠ 0#8 := by rintro rfl; simp at h
  have h1 : b ≠ 1#8 := by rintro rfl; simp at h
  simp [pocketOfByte, h0, h1]

theorem pocketOfByte_of_code {b : Byte} {p : Pocket} (h : b.toNat = pocketCode p) : pocketOfByte b = some p := by
  have hb : b = BitVec.ofNat 8 (pocketCode p) := by rw [← h]; simp
  subst hb
  cases p <;> rfl

/-- A request limited to the own pocket names a pocket. -/
theorem Request.namesPocket_of_ownOnly {r : Request} (h : r.ownOnly = true) : r.namesPocket = true := by cases r <;> trivial

theorem Request.portMay_of_ownOnly {r : Request} (h : r.ownOnly = true) (q : Port) : r.portMay q = true := by cases r <;> trivial

theorem linkRefusals : LinkRefusals := by
  intro q tag payload s hh
  refine ⟨fun code => exec_unknownCode hh code tag payload, fun r => ⟨fun hl => ?_, fun hl hm => ?_, fun hl hm hn hp => ?_,
    fun own p hl ho hq hp hne => ?_⟩⟩ <;> refine exec_command_refused hh r tag ?_
  · simp [Request.linkRefusal, hl]
  · simp [Request.linkRefusal, hl, hm]
  · have hnone : pocketOfByte (payload.getD 0 0#8) = none := pocketOfByte_eq_none hp
    simp only [Request.linkRefusal, hl, hm, hn, Request.subject, if_true, hnone]
    rfl
  · have hsome : pocketOfByte (payload.getD 0 0#8) = some p := pocketOfByte_of_code hp
    have hn := Request.namesPocket_of_ownOnly ho
    have hm := Request.portMay_of_ownOnly ho q
    simp only [Request.linkRefusal, hl, hm, hn, ho, Request.subject, if_true, hsome, hq]
    simp [hne]

theorem requestTable_lengths : ∀ row ∈ requestTable, ∀ payload : List Byte,
    row.1.lengthFits payload = true ↔ payload.length = row.2.2.1 := by
  intro row hrow payload
  fin_cases hrow <;> simp [Request.lengthFits]

theorem requestTable_rest : ∀ row ∈ requestTable, row.1.code = row.2.1 ∧ requestOfCode row.2.1 = some row.1
    ∧ row.1.namesPocket = row.2.2.2.2 ∧ (∀ q ∈ [Port.A, .B, .S], row.1.portMay q = true ↔ q ∈ row.2.2.2.1)
    ∧ (row.1.ownOnly = true ↔ row.1 = .fetchSamples ∨ row.1 = .clearFault) := by decide +kernel

theorem requestTable_complete (r : Request) (h : r ≠ .start) : ∃ row ∈ requestTable, row.1 = r := by
  cases r
  case start => exact absurd rfl h
  all_goals decide

/-- A code that is neither START's nor the table's names no request. -/
theorem requestOfCode_eq_none {code : Byte} (hstart : code ≠ 0x10#8) (h : ∀ row ∈ requestTable, row.2.1 ≠ code) :
    requestOfCode code = none := by
  refine List.find?_eq_none.mpr fun r _ hcode => ?_
  have hr : r.code = code := by simpa using hcode
  by_cases hs : r = .start
  · exact hstart (by rw [← hr, hs]; rfl)
  · obtain ⟨row, hrow, rfl⟩ := requestTable_complete r hs
    exact h row hrow ((requestTable_rest row hrow).1 ▸ hr)

theorem requestsAreThoseOfTheTable : RequestsAreThoseOfTheTable := by
  refine ⟨fun r code length ports names hrow => ?_, fun r hr => ?_, rfl, rfl, rfl, fun payload => ?_, fun q => ?_,
    fun code hs h => requestOfCode_eq_none hs h⟩
  · obtain ⟨hcode, hof, hnames, hports, hown⟩ := requestTable_rest _ hrow
    exact ⟨hcode, hof, hnames, requestTable_lengths _ hrow, fun q => hports q (by cases q <;> simp), hown⟩
  · obtain ⟨⟨_, code, length, ports, names⟩, hrow, rfl⟩ := requestTable_complete r hr
    exact ⟨code, length, ports, names, hrow⟩
  · simp [Request.lengthFits, and_assoc]
  · cases q <;> decide

/-- Settles O10: the checks of the link in their order, and the table row by row. -/
theorem linkRefusalsChangeNothing : Obligations.LinkRefusalsChangeNothing := ⟨linkRefusals, requestsAreThoseOfTheTable⟩

/-! ## SET_EVENT_MASK (O13) -/

theorem beValue_be3 {n : Nat} (h : n < 16777216) : beValue (be3 n) = n := by
  simp only [beValue, be3, List.foldl_cons, List.foldl_nil, BitVec.toNat_ofNat]
  omega

theorem exec_setEventMask {s : State} {q : Port} (h : s.hears q) (tag : Byte) (set : EventSet) {reaction : Reaction}
    (hr : s.actSetEventMask q set.toNat = reaction) :
    exec (.setEventMask q tag (be3 set.toNat)) s =
      .next (reaction.state.answered q 0x51#8 tag reaction.status reaction.payload) := by
  refine exec_command_answered h .setEventMask tag ?_
  have hpass : Request.linkRefusal q (be3 set.toNat) .setEventMask = none := by cases q <;> rfl
  rw [State.respond_of_passes hpass, ← hr]
  show s.actSetEventMask q (beValue (be3 set.toNat)) = _
  rw [beValue_be3 set.isLt]

/-- The latch filtered by a mask keeps RESTARTED (R181, R183). -/
theorem restarted_kept (latch set : EventSet) (h : EventKind.restarted.set &&& latch = EventKind.restarted.set) :
    EventKind.restarted.set &&& (latch &&& (set ||| EventKind.restarted.set)) = EventKind.restarted.set := by
  rw [← BitVec.and_assoc, h, BitVec.or_comm]
  exact latch_and_or _ _

/-- Settles O13: the mask and the latch are those of the action, at the set's own number. -/
theorem setEventMaskFiltersTheLatch : Obligations.SetEventMaskFiltersTheLatch := by
  unfold Obligations.SetEventMaskFiltersTheLatch
  intro q tag set s hh
  refine ⟨fun hbig => exec_setEventMask hh tag set (if_pos hbig), fun hsmall => ?_⟩
  have hmask : BitVec.ofNat 24 set.toNat = set := by simp
  have hact : s.actSetEventMask q set.toNat =
      (s.setPort q { s.port q with mask := set, latch := (s.port q).latch &&& admitted set }).ok
        (be3 set.toNat ++ be3 ((s.port q).latch &&& admitted set).toNat) := by
    rw [State.actSetEventMask, if_neg (not_le.mpr hsmall), hmask]
  exact ⟨_, exec_setEventMask hh tag set hact, rfl, restarted_kept _ _, fun k => rfl⟩

/-! ## ADD_TIME (O20) -/

/-- The link hands ADD_TIME from a pocket's own port to that pocket's cycle engine. -/
theorem State.respond_addTime (s : State) (p : Pocket) (m : Byte) : s.respond .addTime (ownPort p) [m] = s.actAddTime p m.toNat := by
  cases p <;> rfl

theorem raiseEntry_eq_set {program : List PhaseEntry} {i : Nat} {e : PhaseEntry} (h : entryAt program i = some e) (minutes : Nat) :
    raiseEntry i minutes program = program.set (i - 1) (e.raised minutes) := by
  unfold entryAt at h
  obtain ⟨hlt, he⟩ := List.getElem?_eq_some_iff.mp h
  rw [raiseEntry, List.modify_eq_set_getElem?, h]
  rfl

theorem State.actAddTime_accepted {s : State} {p : Pocket} {i : Nat} {e : PhaseEntry} {m : Nat}
    (hstate : (s.pocket p).ce.state = .running ∨ (s.pocket p).ce.state = .paused) (hi : (s.pocket p).ce.index = some i)
    (he : entryAt (s.pocket p).ce.program i = some e) (hpos : 1 ≤ m) (hmax : m ≤ 240) :
    s.actAddTime p m =
      (s.onCe p (fun c => { c with program := c.program.set (i - 1) (e.raised m) })).ok (be1 (min 240 (e.minutes + m) - e.minutes)) := by
  have hce : s.onCe p (fun c => { c with program := raiseEntry (c.index.getD 1) m c.program })
      = s.onCe p (fun c => { c with program := c.program.set (i - 1) (e.raised m) }) := by
    simp only [State.onCe, hi, Option.getD_some, raiseEntry_eq_set he]
  have hentry : s.entryMinutes p = e.minutes := by simp [State.entryMinutes, State.entry, CycleEngine.entry, hi, he]
  have hlt : i - 1 < (s.pocket p).ce.program.length := (List.getElem?_eq_some_iff.mp he).1
  have hraised : (s.onCe p (fun c => { c with program := c.program.set (i - 1) (e.raised m) })).entryMinutes p
      = min 240 (e.minutes + m) := by
    simp [State.entryMinutes, State.entry, CycleEngine.entry, hi, entryAt, hlt, PhaseEntry.raised]
  unfold State.actAddTime
  rw [if_neg (by rcases hstate with h | h <;> simp [h]), if_neg (by simp; omega)]
  simp only [hce, hraised, hentry]

/-- Settles O20: the action of ADD_TIME on the current entry. -/
theorem addTimeRaisesTheCurrentEntry : Obligations.AddTimeRaisesTheCurrentEntry := by
  unfold Obligations.AddTimeRaisesTheCurrentEntry
  intro p tag m s i e hh hstate hi he hpos hmax
  exact exec_command_answered hh .addTime tag
    ((s.respond_addTime p m).trans (State.actAddTime_accepted hstate hi he hpos hmax))

/-! ## Tach edges (O33) -/

theorem exec_tchEdge {s : State} (hm : s.mode = .operating) (p : Pocket) (n : Ticks) (rising : Bool) :
    exec (.tchEdge p n rising) s =
      .next (if s.countsTach p rising then (s.elapse n).onRcu p (·.countTach) else s.elapse n) := by
  show execTchEdge p n rising s = _
  unfold execTchEdge
  rw [State.whenOperating_operating _ (s.elapse n) hm]
  rfl

theorem RevolutionCounter.countTach_of_none {r : RevolutionCounter} (h : r.window = none) : r.countTach = r := by
  cases r
  cases h
  rfl

/-- A block of a pocket changed to what it is leaves the state. -/
theorem State.onRcu_eq_self {s : State} {p : Pocket} {f : RevolutionCounter → RevolutionCounter}
    (h : f (s.pocket p).rcu = (s.pocket p).rcu) : s.onRcu p f = s := by
  unfold State.onRcu
  rw [h]
  exact s.setPocket_pocket p

/-- Settles O33: by the edge mode, and by whether a window is open. -/
theorem tachEdgesAreCounted : Obligations.TachEdgesAreCounted := by
  unfold Obligations.TachEdgesAreCounted
  rintro p n rising s b hm rfl
  rw [exec_tchEdge hm]
  refine ⟨fun hw => ?_, fun hr hmode => ?_, fun w hw hcounts => ?_⟩
  · have hself : (s.elapse n).onRcu p (·.countTach) = s.elapse n :=
      State.onRcu_eq_self (RevolutionCounter.countTach_of_none (by simpa using hw))
    rw [hself, ite_self]
  · rw [if_neg]
    simp [State.countsTach, hr, hmode]
  · rw [if_pos (by simpa [State.countsTach] using hcounts)]
    simp [State.onRcu, RevolutionCounter.countTach, hw, counterLimit]

/-! ## The filter (O38) -/

theorem smooth_rises {k s16 w : Nat} (hw : w ≤ 4096) (h : s16 ≤ w * 16) :
    smooth k s16 w = s16 + (w * 16 - s16) / 2 ^ k := by
  have hdiff : ((w : Int) * 16 - s16) = ((w * 16 - s16 : Nat) : Int) := by omega
  have hle : (w * 16 - s16) / 2 ^ k ≤ w * 16 - s16 := Nat.div_le_self _ _
  rw [smooth, hdiff, ← Int.ofNat_tdiv]
  generalize (w * 16 - s16) / 2 ^ k = moved at hle ⊢
  omega

theorem smooth_falls {k s16 w : Nat} (hs : s16 ≤ 65536) (h : w * 16 ≤ s16) :
    smooth k s16 w = s16 - (s16 - w * 16) / 2 ^ k := by
  have hdiff : ((w : Int) * 16 - s16) = -((s16 - w * 16 : Nat) : Int) := by omega
  have hle : (s16 - w * 16) / 2 ^ k ≤ s16 - w * 16 := Nat.div_le_self _ _
  rw [smooth, hdiff, Int.neg_tdiv, ← Int.ofNat_tdiv]
  generalize (s16 - w * 16) / 2 ^ k = moved at hle ⊢
  omega

/-- A difference divided by 2^k, k at least 1: at most half of it, and 0 exactly below 2^k. -/
theorem shifted_difference {k : Nat} (d : Nat) (hk : 1 ≤ k) : 2 * (d / 2 ^ k) ≤ d ∧ (d / 2 ^ k = 0 ↔ d < 2 ^ k) := by
  have h2 : 2 ≤ 2 ^ k := by
    calc 2 = 2 ^ 1 := rfl
      _ ≤ 2 ^ k := Nat.pow_le_pow_right (by decide) hk
  have hmul : d / 2 ^ k * 2 ^ k ≤ d := Nat.div_mul_le_self d _
  have hhalf : d / 2 ^ k * 2 ≤ d / 2 ^ k * 2 ^ k := Nat.mul_le_mul_left _ h2
  refine ⟨by omega, ?_⟩
  rw [Nat.div_eq_zero_iff]
  omega

/-- Settles O38: the filter as a rise or a fall by the shifted difference. -/
theorem filterMovesTowardTheWetFraction : Obligations.FilterMovesTowardTheWetFraction := by
  unfold Obligations.FilterMovesTowardTheWetFraction
  intro k s16 w hk hs hw
  refine ⟨fun h => ?_, fun h => ?_⟩
  · obtain ⟨hhalf, hzero⟩ := shifted_difference (w * 16 - s16) hk
    rw [smooth_rises hw h, ← hzero]
    omega
  · obtain ⟨hhalf, hzero⟩ := shifted_difference (s16 - w * 16) hk
    rw [smooth_falls hs h, ← hzero]
    omega

end Sys2Proof.Machine


/-! PROOF. The receiver over a frame (O7, O8). -/

namespace Sys2Proof.Machine

/-! ## The receiver byte by byte (R176) -/

@[simp] theorem State.setReceiver_setReceiver (s : State) (q : Port) (r r' : Receiver) :
    (s.setReceiver q r).setReceiver q r' = s.setReceiver q r' := by simp [State.setReceiver]

@[simp] theorem State.port_setReceiver (s : State) (q : Port) (r : Receiver) :
    (s.setReceiver q r).port q = { s.port q with receiver := r } := by simp [State.setReceiver]

theorem State.setReceiver_eq_self {s : State} {q : Port} {r : Receiver} (h : (s.port q).receiver = r) : s.setReceiver q r = s := by
  subst h
  exact s.setPort_port q

/-- The bytes of a body before its last: kept, with the running check. -/
theorem State.receive_body (s : State) (q : Port) (bs got : List Byte) (wanted : Nat) (check : CheckWord) (h : bs.length < wanted) :
    bs.foldl (fun t b => t.receiveByte q b) (s.setReceiver q (.body wanted got check))
      = s.setReceiver q (.body (wanted - bs.length) (got ++ bs) (bs.foldl checkByte check)) := by
  induction bs generalizing wanted got check with
  | nil => simp
  | cons b bs ih =>
    simp only [List.length_cons] at h
    have hbyte : (s.setReceiver q (.body wanted got check)).receiveByte q b
        = s.setReceiver q (.body (wanted - 1) (got ++ [b]) (checkByte check b)) := by
      simp only [State.receiveByte, State.port_setReceiver, if_neg (show ¬ wanted ≤ 1 by omega), State.setReceiver_setReceiver]
    have hleft : wanted - 1 - bs.length = wanted - (bs.length + 1) := by omega
    rw [List.foldl_cons, hbyte, ih _ _ _ (by omega), hleft, List.append_assoc]
    rfl

/-- A whole body: the receiver waits for the check. -/
theorem State.receive_whole_body (s : State) (q : Port) (body : List Byte) (check : CheckWord) (h : body ≠ []) :
    body.foldl (fun t b => t.receiveByte q b) (s.setReceiver q (.body body.length [] check))
      = s.setReceiver q (.check body (body.foldl checkByte check) none) := by
  obtain ⟨init, last, rfl⟩ : ∃ init last, body = init ++ [last] := ⟨_, _, (List.dropLast_append_getLast h).symm⟩
  have hwanted : (init ++ [last]).length - init.length = 1 := by simp
  rw [List.foldl_append, s.receive_body q init [] _ check (by simp), hwanted, List.foldl_append]
  simp [State.receiveByte]

/-- A port in HUNT takes the start byte and a length byte of 2 to 242. -/
theorem State.receive_head {s : State} {q : Port} (h : (s.port q).receiver = .hunt) (b : Byte) (hb : 2 ≤ b.toNat ∧ b.toNat ≤ 242) :
    [0x7E#8, b].foldl (fun t b => t.receiveByte q b) s = s.setReceiver q (.body b.toNat [] (checkByte checkStart b)) := by
  simp [State.receiveByte, h, hb]

/-- Bytes received, after which the receiver alone has changed: the time of the last character moves. -/
theorem State.receive_of_foldl {s : State} {q : Port} {bs : List Byte} {r : Receiver} (hne : bs ≠ [])
    (h : bs.foldl (fun t b => t.receiveByte q b) s = s.setReceiver q r) :
    s.receive q bs = s.setPort q { s.port q with receiver := r, lastCharacter := s.now } := by
  unfold State.receive
  rw [h, if_neg (by simpa using hne)]
  simp [State.setReceiver]

/-! ## The parts of a frame (R175) -/

/-- The body of a request's frame. -/
def requestBody (code tag : Byte) (payload : List Byte) : List Byte := code :: tag :: payload

/-- The length byte of a request's frame. -/
def lengthByte (payload : List Byte) : Byte := BitVec.ofNat 8 (2 + payload.length)

theorem lengthByte_toNat {payload : List Byte} (h : payload.length ≤ 240) (code tag : Byte) :
    (lengthByte payload).toNat = (requestBody code tag payload).length := by
  simp only [lengthByte, requestBody, BitVec.toNat_ofNat, List.length_cons]
  omega

theorem requestChecked_eq (code tag : Byte) (payload : List Byte) :
    requestChecked code tag payload = lengthByte payload :: requestBody code tag payload := rfl

/-- A frame up to its check brings a port in HUNT to CHECK, with the check worked over it. -/
theorem State.receive_checked {s : State} {q : Port} (h : (s.port q).receiver = .hunt) (code tag : Byte) {payload : List Byte}
    (hp : payload.length ≤ 240) :
    ([0x7E#8] ++ requestChecked code tag payload).foldl (fun t b => t.receiveByte q b) s
      = s.setReceiver q (.check (requestBody code tag payload) (checkOf (requestChecked code tag payload)) none) := by
  have hlen := lengthByte_toNat hp code tag
  have hhead := State.receive_head h (lengthByte payload) (by rw [hlen]; simp [requestBody]; omega)
  have hsplit : [0x7E#8] ++ requestChecked code tag payload = [0x7E#8, lengthByte payload] ++ requestBody code tag payload := rfl
  rw [hsplit, List.foldl_append, hhead, hlen, s.receive_whole_body q (requestBody code tag payload) _ (List.cons_ne_nil _ _)]
  rfl

/-- The two bytes of a check word, high byte first, give it back. -/
theorem be2_checkWord (w : CheckWord) :
    ∃ high low : Byte, be2 w.toNat = [high, low] ∧ high ++ low = w := by
  refine ⟨_, _, rfl, BitVec.eq_of_toNat_eq ?_⟩
  have hlt : (BitVec.ofNat 8 w.toNat).toNat < 2 ^ 8 := (BitVec.ofNat 8 w.toNat).isLt
  rw [BitVec.toNat_append, ← Nat.shiftLeft_add_eq_or_of_lt hlt, Nat.shiftLeft_eq]
  have hw := w.isLt
  simp only [BitVec.toNat_ofNat]
  omega

/-- A frame with any check bytes: the first is held, the second decides. -/
theorem State.receive_frame {s : State} {q : Port} (h : (s.port q).receiver = .hunt) (code tag : Byte) {payload : List Byte}
    (hp : payload.length ≤ 240) (high low : Byte) :
    ([0x7E#8] ++ requestChecked code tag payload ++ [high, low]).foldl (fun t b => t.receiveByte q b) s
      = if high ++ low = checkOf (requestChecked code tag payload) then
          (s.setReceiver q (.check (requestBody code tag payload) (checkOf (requestChecked code tag payload)) (some high))).takeBody q
            (requestBody code tag payload)
        else s.setReceiver q .hunt := by
  rw [List.foldl_append, State.receive_checked h code tag hp]
  simp [State.receiveByte]

/-! ## A well-formed frame (O7) -/

/-- Settles O7: the frame up to its check by `State.receive_checked`, the check by the two bytes that spell it. -/
theorem wellFormedFrameIsTaken : Obligations.WellFormedFrameIsTaken := by
  unfold Obligations.WellFormedFrameIsTaken
  intro q s code tag payload _ hhunt hp
  obtain ⟨high, low, hbytes, hcheck⟩ := be2_checkWord (checkOf (requestChecked code tag payload))
  have hfold := State.receive_frame hhunt code tag hp high low
  rw [if_pos hcheck] at hfold
  refine ⟨checkOf (requestChecked code tag payload), high,
    (s.setReceiver q (.check (requestBody code tag payload) (checkOf (requestChecked code tag payload)) (some high))).takeBody q
      (requestBody code tag payload), ?_, fun r hr => ?_, fun hr => ?_⟩
  · unfold State.receive requestFrame
    rw [hbytes, hfold]
    simp
  · simp only [State.takeBody, requestBody, hr]
  · simp only [State.takeBody, requestBody, hr]

/-! ## Discarded frames (O8) -/

/-- A frame cut short leaves the receiver inside it. -/
theorem State.receive_cut {s : State} {q : Port} (h : (s.port q).receiver = .hunt) (code tag : Byte) {payload : List Byte}
    (hp : payload.length ≤ 240) {n : Nat} (hpos : 1 ≤ n) (hn : n < (requestFrame code tag payload).length) :
    ∃ r : Receiver, r.assembling = true
      ∧ ((requestFrame code tag payload).take n).foldl (fun t b => t.receiveByte q b) s = s.setReceiver q r := by
  obtain ⟨high, low, hbytes, -⟩ := be2_checkWord (checkOf (requestChecked code tag payload))
  have hlen := lengthByte_toNat hp code tag
  have hbody : (requestBody code tag payload).length = payload.length + 2 := rfl
  have hframe : requestFrame code tag payload
      = 0x7E#8 :: lengthByte payload :: (requestBody code tag payload ++ [high, low]) := by
    rw [requestFrame, hbytes]; rfl
  have htotal : (requestFrame code tag payload).length = payload.length + 6 := by rw [hframe]; simp [hbody]
  obtain rfl | ⟨k, rfl⟩ : n = 1 ∨ ∃ k, n = k + 2 := by
    obtain _ | _ | k := n
    · omega
    · exact .inl rfl
    · exact .inr ⟨k, rfl⟩
  · refine ⟨.length, rfl, ?_⟩
    simp [hframe, State.receiveByte, h]
  · have hhead := State.receive_head h (lengthByte payload) (by rw [hlen, hbody]; omega)
    have hsplit : (requestFrame code tag payload).take (k + 2)
        = [0x7E#8, lengthByte payload] ++ (requestBody code tag payload ++ [high, low]).take k := by rw [hframe]; rfl
    rw [hsplit, List.foldl_append, hhead, hlen]
    rcases Nat.lt_or_ge k (requestBody code tag payload).length with hk | hk
    · rw [List.take_append_of_le_length hk.le,
        s.receive_body q ((requestBody code tag payload).take k) [] _ _ (by rw [List.length_take]; omega)]
      exact ⟨_, rfl, rfl⟩
    · rw [List.take_append, List.take_of_length_le hk, List.foldl_append,
        s.receive_whole_body q (requestBody code tag payload) _ (List.cons_ne_nil _ _)]
      obtain hz | hz : k - (requestBody code tag payload).length = 0 ∨ k - (requestBody code tag payload).length = 1 := by
        rw [htotal] at hn
        omega
      · rw [hz]
        exact ⟨_, rfl, rfl⟩
      · rw [hz]
        refine ⟨.check (requestBody code tag payload) (checkOf (requestChecked code tag payload)) (some high), rfl, ?_⟩
        simp [State.receiveByte]
        rfl

theorem State.receive_nil (s : State) (q : Port) : s.receive q [] = s := rfl

/-- The receiver in HUNT again, with the time of the last character moved. -/
theorem State.setPort_hunt_stamped {s : State} {q : Port} (h : (s.port q).receiver = .hunt) :
    s.setPort q { s.port q with receiver := .hunt, lastCharacter := s.now } = Stamped q s := by
  rw [Stamped, ← h]

/-- A frame cut short and then discarded. -/
theorem State.discardFrame_of_assembling {s : State} {q : Port} {r : Receiver} (h : (s.port q).receiver = .hunt)
    (hr : r.assembling = true) :
    (s.setPort q { s.port q with receiver := r, lastCharacter := s.now }).discardFrame q = Stamped q s := by
  unfold State.discardFrame
  rw [State.port_setPort, if_pos hr]
  simp only [State.setReceiver, State.port_setPort, State.setPort_setPort]
  exact State.setPort_hunt_stamped h

theorem State.discardFrame_of_idle {s : State} {q : Port} (h : (s.port q).receiver.assembling = false) : s.discardFrame q = s := by
  unfold State.discardFrame
  rw [h]
  rfl

/-- What the receiver discards by itself leaves the time of its last character. -/
theorem State.receive_discarded {s : State} {q : Port} {bs : List Byte} (h : (s.port q).receiver = .hunt) (hne : bs ≠ [])
    (hfold : bs.foldl (fun t b => t.receiveByte q b) s = s.setReceiver q .hunt) : s.receive q bs = Stamped q s :=
  (State.receive_of_foldl hne hfold).trans (State.setPort_hunt_stamped h)

/-- A byte sequence received and the gap after it (R176). -/
def State.gapAfter (q : Port) (chars : List Byte) (s : State) : State :=
  let s1 := s.receive q chars
  if (s1.port q).receiver.assembling then (s1.reach ((s1.port q).lastCharacter + millis 3)).discardFrame q else s1

theorem State.reach_setPort (s : State) (q : Port) (x : PortState) (t : Ticks) : (s.setPort q x).reach t = (s.reach t).setPort q x := by
  cases q <;> rfl

theorem State.discardFrame_reach (s : State) (q : Port) (t : Ticks) : (s.reach t).discardFrame q = (s.discardFrame q).reach t := by
  simp only [State.discardFrame, State.port_reach]
  split
  · simp [State.setReceiver, State.reach_setPort]
  · rfl

theorem exec_receive {s : State} (hm : s.mode = .operating) (q : Port) (chars : List Byte) :
    exec (.frameCheckFail q chars) s = .next (s.receive q chars) ∧ exec (.frameLengthInvalid q chars) s = .next (s.receive q chars)
    ∧ exec (.characterError q chars) s = .next ((s.receive q chars).discardFrame q)
    ∧ exec (.frameGapTimeout q chars) s = .next (s.gapAfter q chars) := by
  refine ⟨?_, ?_, ?_, ?_⟩
  · exact congrArg Host.Outcome.next (State.whenOperating_operating _ _ hm)
  · exact congrArg Host.Outcome.next (State.whenOperating_operating _ _ hm)
  · exact congrArg Host.Outcome.next (State.whenOperating_operating _ _ hm)
  · exact congrArg Host.Outcome.next (State.whenOperating_operating _ _ hm)

/-- Settles O8: what is discarded brings the receiver back to the HUNT in which it stood. -/
theorem discardedFramesLeaveNoTrace : Obligations.DiscardedFramesLeaveNoTrace := by
  unfold Obligations.DiscardedFramesLeaveNoTrace
  intro q s code tag payload hh hhunt hp
  have hm := hh.1
  have hidle : (s.port q).receiver.assembling = false := by rw [hhunt]; rfl
  refine ⟨fun w hw => ?_, fun b hb => ?_, fun n hpos hn => ?_, ?_, ?_⟩
  · obtain ⟨high, low, hbytes, hcheck⟩ := be2_checkWord w
    have hfold := State.receive_frame hhunt code tag hp high low
    rw [hcheck, if_neg hw] at hfold
    rw [(exec_receive hm q _).1, hbytes, State.receive_discarded hhunt (by simp) hfold]
  · have hbad : ¬ (2 ≤ b.toNat ∧ b.toNat ≤ 242) := by omega
    have hfold : [0x7E#8, b].foldl (fun t b => t.receiveByte q b) s = s.setReceiver q .hunt := by
      simp [State.receiveByte, hhunt, hbad]
    rw [(exec_receive hm q _).2.1, State.receive_discarded hhunt (by simp) hfold]
  · obtain ⟨r, hr, hfold⟩ := State.receive_cut hhunt code tag hp hpos hn
    have hne : (requestFrame code tag payload).take n ≠ [] := by
      intro h0
      rw [List.take_eq_nil_iff] at h0
      rcases h0 with h0 | h0
      · omega
      · rw [h0] at hn; exact absurd hn (by simp)
    have hreceive := State.receive_of_foldl hne hfold
    refine ⟨?_, ?_⟩
    · rw [(exec_receive hm q _).2.2.1, hreceive, State.discardFrame_of_assembling hhunt hr]
    · simp only [(exec_receive hm q _).2.2.2, State.gapAfter]
      rw [hreceive, State.port_setPort, if_pos hr, State.discardFrame_reach, State.discardFrame_of_assembling hhunt hr]
  · rw [(exec_receive hm q _).2.2.1, State.receive_nil, State.discardFrame_of_idle hidle]
  · simp only [(exec_receive hm q _).2.2.2, State.gapAfter]
    rw [State.receive_nil, hidle]
    rfl

end Sys2Proof.Machine


/-! PROOF. The cycle requests: their checks (O15), PAUSE and RESUME (O17), and the stops (O18). -/

namespace Sys2Proof.Machine

/-! ## The link hands a cycle request to its pocket's cycle engine (R178) -/

theorem State.respond_pause (s : State) (p : Pocket) : s.respond .pause (ownPort p) [] = s.actPause p := by cases p <;> rfl

theorem State.respond_resume (s : State) (p : Pocket) : s.respond .resume (ownPort p) [] = s.actResume p := by cases p <;> rfl

theorem State.respond_stop (s : State) (p : Pocket) (m : Byte) : s.respond .stop (ownPort p) [m] = s.actStop p m.toNat := by
  cases p <;> rfl

theorem State.respond_halt (s : State) (p : Pocket) : s.respond .halt .S (be1 (pocketCode p)) = s.actHalt p := by cases p <;> rfl

/-! ## The checks of R4 (O15) -/

theorem CycleState.stoppable_iff (c : CycleState) : c.stoppable = true ↔ c = .proving ∨ c = .running ∨ c = .paused := by
  cases c <;> decide

section
variable {s : State} {p : Pocket}

theorem State.actStart_busy (h : (s.pocket p).ce.state ≠ .idle) (payload : List Byte) : s.actStart p payload = s.refuse .busy :=
  if_pos (by simpa using h)

theorem State.actStart_interlock (h : (s.pocket p).ce.state = .idle) (hd : (s.pocket p).lines.doorClosed = false)
    (payload : List Byte) : s.actStart p payload = s.refuse .interlock := by
  simp [State.actStart, h, hd]

theorem State.actStart_range (h : (s.pocket p).ce.state = .idle) (hd : (s.pocket p).lines.doorClosed = true) {payload : List Byte}
    (hnone : decodeProgram payload = none) : s.actStart p payload = s.refuse .range := by
  simp [State.actStart, h, hd, hnone]

theorem State.actPause_busy (h : ¬ ((s.pocket p).ce.state = .proving ∨ (s.pocket p).ce.state = .running)) :
    s.actPause p = s.refuse .busy := by
  unfold State.actPause
  split
  · rename_i hst; exact absurd (.inl hst) h
  · rename_i hst; exact absurd (.inr hst) h
  · rfl

theorem State.actPause_taken (h : (s.pocket p).ce.state = .proving ∨ (s.pocket p).ce.state = .running) :
    s.actPause p = (s.enterPaused p .pause).ok [] := by
  unfold State.actPause
  rcases h with h | h <;> rw [h]

theorem State.actResume_busy (h : (s.pocket p).ce.state ≠ .paused) : s.actResume p = s.refuse .busy := if_pos (by simpa using h)

theorem State.actResume_interlock (h : (s.pocket p).ce.state = .paused) (hd : (s.pocket p).lines.doorClosed = false) :
    s.actResume p = s.refuse .interlock := by
  simp [State.actResume, h, hd]

theorem State.actResume_taken (h : (s.pocket p).ce.state = .paused) (hd : (s.pocket p).lines.doorClosed = true) :
    s.actResume p = (s.enterProving p).ok [] := by
  simp [State.actResume, h, hd]

theorem State.actStop_busy (h : (s.pocket p).ce.state.stoppable = false) (m : Nat) : s.actStop p m = s.refuse .busy :=
  if_pos (by rw [h]; rfl)

theorem State.actStop_range (h : (s.pocket p).ce.state.stoppable = true) {m : Nat} (hm : 2 ≤ m) : s.actStop p m = s.refuse .range := by
  simp [State.actStop, h, hm]

theorem State.actStop_now (h : (s.pocket p).ce.state.stoppable = true) {m : Nat} (hm : m ≤ 1)
    (hnow : m = 1 ∨ (s.pocket p).ce.state ≠ .running) : s.actStop p m = (s.enterWindDown p .windingDown .stopped).ok [] := by
  have hle : ¬ 2 ≤ m := by omega
  have hcool : ¬ (m = 0 ∧ (s.pocket p).ce.state = .running) := by
    rintro ⟨rfl, hr⟩
    rcases hnow with h1 | h1
    · cases h1
    · exact h1 hr
  simp [State.actStop, h, hle, hcool]

theorem State.actStop_cool (h : (s.pocket p).ce.state = .running) : s.actStop p 0 = (s.stopCool p).ok [] := by
  simp [State.actStop, h, CycleState.stoppable]

theorem State.actAddTime_busy (h : ¬ ((s.pocket p).ce.state = .running ∨ (s.pocket p).ce.state = .paused)) (m : Nat) :
    s.actAddTime p m = s.refuse .busy :=
  if_pos (by simpa [not_or] using h)

theorem State.actAddTime_range (h : (s.pocket p).ce.state = .running ∨ (s.pocket p).ce.state = .paused) {m : Nat}
    (hm : m = 0 ∨ 240 < m) : s.actAddTime p m = s.refuse .range := by
  unfold State.actAddTime
  rw [if_neg (by rcases h with h | h <;> simp [h]), if_pos (by simpa using hm)]

theorem State.actHalt_busy (h : (s.pocket p).ce.state.stoppable = false) : s.actHalt p = s.refuse .busy := if_pos (by rw [h]; rfl)

theorem State.actHalt_taken (h : (s.pocket p).ce.state.stoppable = true) :
    s.actHalt p = (s.enterWindDown p .windingDown .halted).ok [] := if_neg (by rw [h]; decide)

end

theorem cycleRequestChecks : CycleRequestChecks := by
  rintro p tag s c rfl
  have unstoppable (h : ¬ ((s.pocket p).ce.state = .proving ∨ (s.pocket p).ce.state = .running ∨ (s.pocket p).ce.state = .paused)) :
      (s.pocket p).ce.state.stoppable = false := by rwa [Bool.eq_false_iff, Ne, CycleState.stoppable_iff]
  refine ⟨fun hh => ⟨fun payload hfits => ⟨fun hst => ?_, fun hst hd => ?_, fun hst hd hnone => ?_⟩, fun hst => ?_, fun hst => ?_,
    fun hst hd => ?_, fun m hst => ?_, fun m hst hm => ?_, fun m hst => ?_, fun m hst hm => ?_⟩, fun hh hst => ?_⟩
  · exact exec_command_answered hh .start tag ((s.respond_start p payload hfits).trans (State.actStart_busy hst payload))
  · exact exec_command_answered hh .start tag ((s.respond_start p payload hfits).trans (State.actStart_interlock hst hd payload))
  · exact exec_command_answered hh .start tag ((s.respond_start p payload hfits).trans (State.actStart_range hst hd hnone))
  · exact exec_command_answered hh .pause tag ((s.respond_pause p).trans (State.actPause_busy hst))
  · exact exec_command_answered hh .resume tag ((s.respond_resume p).trans (State.actResume_busy hst))
  · exact exec_command_answered hh .resume tag ((s.respond_resume p).trans (State.actResume_interlock hst hd))
  · exact exec_command_answered hh .stop tag ((s.respond_stop p m).trans (State.actStop_busy (unstoppable hst) _))
  · exact exec_command_answered hh .stop tag
      ((s.respond_stop p m).trans (State.actStop_range ((CycleState.stoppable_iff _).mpr hst) hm))
  · exact exec_command_answered hh .addTime tag ((s.respond_addTime p m).trans (State.actAddTime_busy hst _))
  · refine exec_command_answered hh .addTime tag ((s.respond_addTime p m).trans (State.actAddTime_range hst ?_))
    exact hm.imp (fun h => by rw [h]; rfl) id
  · exact exec_command_answered hh .halt tag ((s.respond_halt p).trans (State.actHalt_busy (unstoppable hst)))

theorem phaseKindOfCode_eq_none {n : Nat} (h : 4 ≤ n) : phaseKindOfCode n = none := by
  obtain ⟨m, rfl⟩ := Nat.exists_eq_add_of_le' h
  rfl

/-- A kind byte of 4 or above spells no entry (R189). -/
theorem decodeEntry_eq_none {bs : List Byte} (h : 4 ≤ byteAt bs 0) : decodeEntry bs = none := by
  unfold decodeEntry
  split
  · rename_i kind _ _ _ _ _ _ _
    have hkind : phaseKindOfCode kind.toNat = none := phaseKindOfCode_eq_none h
    rw [hkind]
    rfl
  · rfl

theorem decodeEntries_eq_none {n k : Nat} {bs : List Byte} (hk : k < n) (h : 4 ≤ byteAt bs (8 * k)) : decodeEntries n bs = none := by
  induction n generalizing k bs with
  | zero => omega
  | succ n ih =>
    unfold decodeEntries
    cases k with
    | zero =>
      have hfirst : byteAt (bs.take 8) 0 = byteAt bs 0 := by cases bs <;> rfl
      rw [decodeEntry_eq_none (hfirst ▸ h)]
    | succ k =>
      have hrest : byteAt (bs.drop 8) (8 * k) = byteAt bs (8 * (k + 1)) := by
        simp only [byteAt, List.getD_eq_getElem?_getD, List.getElem?_drop]
        congr 3
        omega
      rw [ih (Nat.lt_of_succ_lt_succ hk) (hrest ▸ h)]
      cases decodeEntry (bs.take 8) <;> rfl

theorem decodeProgram_eq_none {payload : List Byte} {k : Nat} (hk : k < byteAt payload 0) (h : 4 ≤ byteAt payload (1 + 8 * k)) :
    decodeProgram payload = none := by
  cases payload with
  | nil => rfl
  | cons count bs =>
    have hbyte : byteAt (count :: bs) (1 + 8 * k) = byteAt bs (8 * k) := by rw [Nat.add_comm]; rfl
    have hnone : decodeEntries count.toNat bs = none := decodeEntries_eq_none hk (hbyte ▸ h)
    simp only [decodeProgram, hnone]

theorem decodeProgram_out_of_range {es : List PhaseEntry} (hlen : es.length ≤ 8) (hfits : ∀ e ∈ es, EntryFits e)
    (h : ∃ e ∈ es, e.inRange = false) : decodeProgram (programPayload es) = none := by
  have hcount : (BitVec.ofNat 8 es.length).toNat = es.length := byteAt_programPayload_zero es hlen
  have hdecode := decodeEntries_flatMap_encodeEntry es hfits
  have hrange : es.all (·.inRange) = false := List.all_eq_false.mpr (h.imp fun e he => ⟨he.1, by simp [he.2]⟩)
  simp [programPayload, be1, decodeProgram, hcount, hdecode, hrange]

theorem PhaseEntry.inRange_iff {e : PhaseEntry} (hhold : e.hold ≤ 255) :
    e.inRange = true ↔ 1 ≤ e.minutes ∧ e.minutes ≤ 240 ∧ e.pattern ≤ 3
      ∧ ((e.kind = .heatTimed ∨ e.kind = .heatDry) →
          30 ≤ e.temperature ∧ e.temperature ≤ 90 ∧ 1 ≤ e.stageCap ∧ e.stageCap ≤ 6)
      ∧ (e.kind = .heatDry → 500 ≤ e.dryness ∧ e.dryness ≤ 1000 ∧ 1 ≤ e.hold)
      ∧ (e.kind = .cool → 25 ≤ e.temperature ∧ e.temperature ≤ 60) := by
  unfold PhaseEntry.inRange
  cases e.kind <;> simp [hhold, and_assoc]

/-- Settles O15: each check of R4 where it stands, and the program decoder entry by entry. -/
theorem cycleRequestsAreCheckedInOrder : Obligations.CycleRequestsAreCheckedInOrder := by
  refine ⟨cycleRequestChecks, fun e => PhaseEntry.inRange_iff, fun es hpos hlen hfits => ⟨fun h => ?_, fun h => ?_⟩,
    fun payload k _ hk h => decodeProgram_eq_none hk h⟩
  · exact decodeProgram_programPayload es hlen fun e he => ⟨hfits e he, h e he⟩
  · exact decodeProgram_out_of_range hlen hfits h

/-! ## PAUSE and RESUME (O17) -/

theorem pauseFreezesTheCycle : PauseFreezesTheCycle := by
  intro p tag s hh hst
  have hentered := s.enterPaused_entered p .pause
  refine ⟨s.enterPaused p .pause, exec_command_answered hh .pause tag ((s.respond_pause p).trans (State.actPause_taken hst)), hentered, ?_⟩
  obtain ⟨hce, -⟩ := hentered
  simp [State.phaseTicks, hce]

theorem resumeProvesAirflowAnew : ResumeProvesAirflowAnew := by
  intro p tag s hh hst hd
  refine ⟨_, exec_command_answered hh .resume tag ((s.respond_resume p).trans (State.actResume_taken hst hd)), rfl, rfl, ?_, rfl⟩
  simp [State.phaseTicks]

/-- Settles O17: the entries to PAUSED and to PROVING. -/
theorem pauseFreezesAndResumeProves : Obligations.PauseFreezesAndResumeProves := ⟨pauseFreezesTheCycle, resumeProvesAirflowAnew⟩

/-! ## The stops (O18) -/

theorem State.enterWindDown_entered (s : State) (p : Pocket) (reason : CycleEndReason) :
    EnteredWindDown reason p s (s.enterWindDown p .windingDown reason) := s.enterWindDown_left p .windingDown reason (by decide)

/-- No COOL entry stands at an index above `i` (R17). -/
theorem CycleEngine.laterCool_eq_nil {c : CycleEngine} {i : Nat} (h : ∀ j e, i < j → entryAt c.program j = some e → e.kind ≠ .cool) :
    c.laterCool i = [] := by
  refine List.filter_eq_nil_iff.mpr fun j _ hj => ?_
  simp only [Bool.and_eq_true, decide_eq_true_eq, Option.any_eq_true, beq_iff_eq] at hj
  obtain ⟨hij, e, he, hcool⟩ := hj
  exact h j e hij he hcool

theorem State.stopCool_of_none {s : State} {p : Pocket} {i : Nat} (hi : (s.pocket p).ce.index = some i)
    (h : ∀ j e, i < j → entryAt (s.pocket p).ce.program j = some e → e.kind ≠ .cool) :
    s.stopCool p = s.enterWindDown p .windingDown .stopped := by
  simp only [State.stopCool, hi, CycleEngine.laterCool_eq_nil h]

theorem exec_pauseTimeout {s : State} {p : Pocket} (hm : s.mode = .operating) (hst : (s.pocket p).ce.state = .paused)
    {cause : PauseCause} {t : Ticks} (hp : (s.pocket p).ce.pause = some (cause, t)) :
    exec (.pauseTimeout p) s = .next ((s.reach (t + seconds 1800)).enterWindDown p .windingDown .pauseTimeout) := by
  have hdue : (s.pocket p).ce.pauseDue = some (t + seconds 1800) := by simp [CycleEngine.pauseDue, hst, hp]
  show execPauseTimeout p s = _
  unfold execPauseTimeout
  rw [State.whenOperating_operating _ _ hm, hdue]

/-- Settles O18: each of the five is the entry to WINDING_DOWN with its reason. -/
theorem stopsBeginTheWindDown : Obligations.StopsBeginTheWindDown := by
  unfold Obligations.StopsBeginTheWindDown
  intro p tag s
  refine ⟨fun hh hst m hm => ⟨_, ?_, s.enterWindDown_entered p .stopped⟩, fun hh hst => ⟨_, ?_, s.enterWindDown_entered p .stopped⟩,
    fun hh hst i hi hlater => ⟨_, ?_, s.enterWindDown_entered p .stopped⟩, fun hh hst => ⟨_, ?_, s.enterWindDown_entered p .halted⟩,
    fun cause t hm hst hp => ⟨_, exec_pauseTimeout hm hst hp, State.enterWindDown_entered _ p .pauseTimeout⟩⟩
  · refine exec_command_answered hh .stop tag ((s.respond_stop p m).trans (State.actStop_now ?_ hm (.inr ?_)))
    · rcases hst with h | h <;> rw [h] <;> rfl
    · rcases hst with h | h <;> rw [h] <;> decide
  · exact exec_command_answered hh .stop tag
      ((s.respond_stop p 1#8).trans (State.actStop_now (by rw [hst]; rfl) (le_refl 1) (.inl rfl)))
  · have hcool := State.actStop_cool hst
    rw [State.stopCool_of_none hi hlater] at hcool
    exact exec_command_answered hh .stop tag ((s.respond_stop p 0#8).trans hcool)
  · exact exec_command_answered hh .halt tag ((s.respond_halt p).trans (State.actHalt_taken hst))

end Sys2Proof.Machine


/-! PROOF. Doors, airflow and the jump of STOP COOL (O16, O19, O21, O22, O23). -/

namespace Sys2Proof.Machine

/-! ## A post moves past the account's operations (R131, R181) -/

theorem PortState.post_comm (x : PortState) (k k' : EventKind) : (x.post k).post k' = (x.post k').post k := by
  simp only [PortState.post]
  rw [BitVec.or_assoc, BitVec.or_assoc, BitVec.or_comm (k.set &&& _)]

section
variable (s : State) (p : Pocket) (k : EventKind)

theorem State.onHsc_post (f : HeatStages → HeatStages) : (s.post k).onHsc p f = (s.onHsc p f).post k := by cases p <;> rfl

theorem State.heatTarget_post : (s.post k).heatTarget p = s.heatTarget p := by cases p <;> rfl

theorem State.keepAsked_post (n : Nat) : (s.post k).keepAsked p n = (s.keepAsked p n).post k := by
  have hran : (s.post k).holdRanOut p = s.holdRanOut p := by cases p <;> rfl
  rw [State.keepAsked, hran, State.onHsc_post, State.pocket_post, State.keepAsked]
  split <;> rfl

theorem State.considerHold_post (c : Bool) : (s.post k).considerHold p c = (s.considerHold p c).post k := s.onHsc_post p k _

theorem State.dropE_post : (s.post k).dropE p = (s.dropE p).post k := by
  rw [State.dropE, State.heatTarget_post, State.onHsc_post]
  rfl

theorem State.tellGranted_post (n : Nat) : (s.post k).tellGranted p n = (s.tellGranted p n).post k := by
  have hg : ∀ t : State, (t.post k).granted p = t.granted p := fun _ => rfl
  simp only [State.tellGranted, hg, State.keepAsked_post, State.onHsc_post, State.considerHold_post, State.dropE_post,
    State.pocket_post, State.post_shared]
  split_ifs <;> rfl

theorem State.postIf_post (c : Bool) (k' : EventKind) : (s.post k).postIf c k' = (s.postIf c k').post k := by
  cases c
  · rfl
  · simp only [State.postIf, if_true, State.post]
    rw [PortState.post_comm s.portA, PortState.post_comm s.portB, PortState.post_comm s.portS]

/-- An evaluation works alike after a post, and keeps what was posted. -/
theorem State.evaluate_post : (s.post k).evaluate = s.evaluate.post k := by
  have he : (s.post k).evaluated = s.evaluated := ReadAlike.evaluated ⟨rfl, rfl, fun r => by simp⟩
  have hw : ∀ gs rs, (s.post k).withLists gs rs = (s.withLists gs rs).post k := fun _ _ => rfl
  have hg : ∀ r, (s.post k).granted r = s.granted r := fun _ => rfl
  simp only [State.evaluate, he, hw, hg, State.tellGranted_post, State.postIf_post]

end

/-! ## What a change says from before a post, or before a change of the cycle engine -/

section
variable {s t : State} {p : Pocket} {k : EventKind}

theorem EvaluatedWithout.of_post (h : EvaluatedWithout p (s.post k) t) : EvaluatedWithout p s t := by
  obtain ⟨x, hx, ho, hl⟩ := h
  obtain ⟨y, hy⟩ : ∃ y, y = s.relisted (s.sa.grants.filter (fun g => g.pocket ≠ p)) (s.sa.requests.filter (fun r => r.pocket ≠ p)) :=
    ⟨_, rfl⟩
  have hxy : x = y.post k := by rw [hx, hy]; rfl
  rw [hxy, State.evaluate_post] at ho hl
  exact ⟨y, hy, (OnlyPocketAndLatches.post p _ k).trans ho, fun q => EventSet.held_trans (by rw [State.port_post]; exact latch_and_or _ _) (hl q)⟩

theorem HeatGivenUp.of_post (h : HeatGivenUp p (s.post k) t) : HeatGivenUp p s t := by
  obtain ⟨he, hg, hr, hl, hw⟩ := h
  exact ⟨he, hg, hr, hl, hw.of_post⟩

theorem OnlyPocketAndAccount.post (p : Pocket) (s : State) (k : EventKind) : OnlyPocketAndAccount p s (s.post k) :=
  .of_moves (MovesTo.post k s)

theorem CycleLeft.of_post (h : CycleLeft p (s.post k) t) : CycleLeft p s t := by
  obtain ⟨hheat, hdrum, hpending, hme, htm, honly⟩ := h
  rw [State.pocket_post] at hdrum hme htm
  exact ⟨hheat.of_post, hdrum, hpending, hme, htm, (OnlyPocketAndAccount.post p s k).trans honly⟩

/-- The cycle engine's own items have no say in how a cycle is left. -/
theorem CycleLeft.of_ce {c : CycleEngine} (h : CycleLeft p (s.setPocket p { s.pocket p with ce := c }) t) : CycleLeft p s t := by
  obtain ⟨hheat, hdrum, hpending, hme, htm, honly⟩ := h
  have hcoast : (s.setPocket p { s.pocket p with ce := c }).coastTicks p = s.coastTicks p := by simp [State.coastTicks, State.item]
  rw [State.pocket_setPocket] at hdrum hme htm
  rw [hcoast] at hdrum
  refine ⟨hheat.of_setPocket (by rfl), ?_, hpending, hme, htm, (OnlyPocketAndAccount.setPocket p s _).trans honly⟩
  simpa [DrumHalted] using hdrum

/-- A cycle left with the drum stopped before. -/
theorem CycleLeft.of_halted (h : CycleLeft p (s.haltDrum p) t) : CycleLeft p s t := by
  obtain ⟨d, r, hs, e, -, -, hhalted⟩ := s.haltDrum_pocket p
  obtain ⟨hheat, hdrum, hpending, hme, htm, honly⟩ := h
  have hstill : ¬ (((s.haltDrum p).pocket p).dmc.state = .accel ∨ ((s.haltDrum p).pocket p).dmc.state = .run) := by
    rw [State.haltDrum_eq]
    cases hd : (s.pocket p).dmc.state
    case accel | run => simp [State.toCoast_eq, coastBegun]
    all_goals simp [hd]
  have hnow : (s.haltDrum p).now = s.now := by rw [e]; simp
  have hcoast : (s.haltDrum p).coastTicks p = s.coastTicks p := by rw [e]; simp [State.coastTicks, State.item]
  rw [hnow, hcoast] at hdrum
  rw [if_neg hstill] at htm
  refine ⟨?_, hhalted.trans hdrum, hpending, ?_, ?_, ?_⟩
  · rw [e] at hheat
    exact hheat.of_setPocket (by rfl)
  · rw [hme, e, State.pocket_setPocket]
  · rw [htm, e, State.pocket_setPocket]
  · rw [e] at honly
    exact (OnlyPocketAndAccount.setPocket p s _).trans honly

/-- A phase started after the end of the phase before was counted and posted. -/
theorem PhaseStarted.of_counted {c c' : CycleEngine} (hticks : c'.phaseTicks = (s.pocket p).ce.phaseTicks)
    (hsince : c'.runSince = (s.pocket p).ce.runSince) (hearlier : c'.earlierSeconds = (s.pocket p).ce.earlierSeconds)
    (h : PhaseStarted p c ((s.setPocket p { s.pocket p with ce := c' }).post k) t) : PhaseStarted p c s t := by
  obtain ⟨hce, hover, ⟨e, he, hme, hcold, hheat⟩, hdmc, hrcu, htm, hrec, honly⟩ := h
  have hpocket : ((s.setPocket p { s.pocket p with ce := c' }).post k).pocket p = { s.pocket p with ce := c' } := by simp
  have htotal : ((s.setPocket p { s.pocket p with ce := c' }).post k).totalRunning p = s.totalRunning p := by
    simp [State.totalRunning, State.phaseElapsed, State.phaseTicks, hticks, hsince, hearlier]
  rw [htotal] at hce
  rw [hpocket] at hme hdmc hrcu htm hrec
  refine ⟨by simpa using hce, hover, ⟨e, he, ?_, fun hk => (hcold hk).of_post.of_setPocket (by rfl), fun hk => (hheat hk).of_start ?_ ?_ ?_⟩,
    hdmc, hrcu, htm, hrec, ((OnlyPocketAndAccount.setPocket p s _).trans (.post p _ k)).trans honly⟩
  · simpa [State.item] using hme
  · simp
  · simp
  · simp

end

/-! ## DOOR opening (O16) -/

theorem exec_doorOpen {s : State} {p : Pocket} (hm : s.mode = .operating) (hd : (s.pocket p).lines.doorClosed = true) :
    exec (.doorOpen p) s = .next ((s.onLines p (fun l => { l with doorClosed := false })).openDoor p) := by
  show execDoorOpen p s = _
  unfold execDoorOpen
  rw [if_pos hd, State.whenOperating_operating _ _ (by simpa using hm)]

theorem State.phaseTicks_haltDrum (s : State) (p : Pocket) : (s.haltDrum p).phaseTicks p = s.phaseTicks p := by
  obtain ⟨d, r, hs, e, -⟩ := s.haltDrum_pocket p
  rw [e]
  simp [State.phaseTicks]

theorem EnteredPaused.of_halted {s t : State} {p : Pocket} {cause : PauseCause} (h : EnteredPaused cause p (s.haltDrum p) t) :
    EnteredPaused cause p s t := by
  obtain ⟨hce, hleft, hrec, hgain⟩ := h
  have hticks := s.phaseTicks_haltDrum p
  obtain ⟨d, r, hs, e, -⟩ := s.haltDrum_pocket p
  refine ⟨?_, hleft.of_halted, ?_, ?_⟩
  · rw [hce, hticks, e]
    simp
  · rw [e] at hrec
    simpa [SameRecords] using hrec
  · rw [e] at hgain
    simpa [LatchesGain] using hgain

/-- The door interlock takes E to 0 (R107). -/
theorem State.dropE_zero {s : State} {p : Pocket} (h : s.heatTarget p = 0) : ((s.dropE p).pocket p).hsc.energized = 0 := by
  rw [State.dropE_energized, h, Nat.min_zero]

theorem State.openDoor_still {s : State} {p : Pocket}
    (h : ¬ ((s.pocket p).ce.state = .proving ∨ (s.pocket p).ce.state = .running)) : s.openDoor p = (s.haltDrum p).dropE p := by
  have hce : ((s.haltDrum p).pocket p).ce = (s.pocket p).ce := by
    obtain ⟨d, r, hs, e, -⟩ := s.haltDrum_pocket p
    rw [e, State.pocket_setPocket]
  unfold State.openDoor
  dsimp only
  rw [hce]
  split
  · rename_i hst; exact absurd (.inl hst) h
  · rename_i hst; exact absurd (.inr hst) h
  · rfl

theorem State.openDoor_pausing {s : State} {p : Pocket}
    (h : (s.pocket p).ce.state = .proving ∨ (s.pocket p).ce.state = .running) : s.openDoor p = (s.haltDrum p).enterPaused p .door := by
  have hce : ((s.haltDrum p).pocket p).ce = (s.pocket p).ce := by
    obtain ⟨d, r, hs, e, -⟩ := s.haltDrum_pocket p
    rw [e, State.pocket_setPocket]
  unfold State.openDoor
  dsimp only
  rw [hce]
  rcases h with h | h <;> rw [h]

/-- Settles O16: the drum is stopped in every state; a turning cycle then enters PAUSED, and otherwise E falls with the interlock. -/
theorem doorOpeningStopsThePocket : Obligations.DoorOpeningStopsThePocket := by
  unfold Obligations.DoorOpeningStopsThePocket
  rintro p s b hm rfl
  refine ⟨fun hopen => ?_, fun hclosed => ⟨_, exec_doorOpen hm hclosed, ?_⟩⟩
  · show execDoorOpen p s = _
    unfold execDoorOpen
    rw [hopen]
    rfl
  · set b := s.onLines p (fun l => { l with doorClosed := false }) with hb
    have hpocket : b.pocket p = { s.pocket p with lines := { (s.pocket p).lines with doorClosed := false } } := by simp [hb]
    by_cases hst : (s.pocket p).ce.state = .proving ∨ (s.pocket p).ce.state = .running
    · rw [State.openDoor_pausing (by rwa [hpocket])]
      have hentered := ((b.haltDrum p).enterPaused_entered p .door).of_halted
      obtain ⟨-, ⟨⟨hzero, -⟩, -⟩, -⟩ := id hentered
      exact ⟨hzero, fun _ => hentered, fun h => absurd hst h⟩
    · rw [State.openDoor_still (by rwa [hpocket])]
      obtain ⟨d, r, hs, e, -, hpending, hhalted⟩ := b.haltDrum_pocket p
      have hnow : b.now = s.now := by simp [hb]
      have hcoast : b.coastTicks p = s.coastTicks p := by simp [hb, State.coastTicks, State.item]
      have hdark : (b.haltDrum p).heatTarget p = 0 :=
        State.heatTarget_eq_zero _ _ (.inr (.inr (.inl (by rw [e, State.pocket_setPocket, hpocket]))))
      refine ⟨State.dropE_zero hdark, fun h => absurd h hst, fun _ => ?_⟩
      rw [hnow, hcoast, hpocket] at hhalted
      have hdropped : ((b.haltDrum p).dropE p).pocket p
          = { (b.haltDrum p).pocket p with hsc := ((b.haltDrum p).pocket p).hsc.withEnergized b.now 0 } := by
        rw [State.dropE, State.pocket_onHsc, hdark, Nat.min_zero, e, State.pocket_setPocket]
        simp
      refine ⟨?_, ?_, ?_, ?_, ?_, ?_⟩
      · rw [hdropped, e, State.pocket_setPocket, hpocket]
      · rw [hdropped, e, State.pocket_setPocket, hpocket]
      · rw [hdropped]
        simpa [DrumHalted, coastBegun] using hhalted
      · rw [hdropped, e, State.pocket_setPocket]
        exact hpending.trans (by rw [hpocket])
      · rw [hdropped, e, State.pocket_setPocket]
        exact ⟨rfl, rfl, rfl, rfl, rfl⟩
      · rw [OnlyPocket, State.dropE, e]
        simp [State.onHsc]

/-! ## The jump of STOP COOL (O19) -/

/-- The first COOL entry above `i` is the head of the later ones (R17). -/
theorem CycleEngine.laterCool_head {c : CycleEngine} {i j : Nat} {e : PhaseEntry} (hij : i < j) (hi : 1 ≤ i)
    (he : entryAt c.program j = some e) (hcool : e.kind = .cool)
    (hfirst : ∀ k f, i < k → k < j → entryAt c.program k = some f → f.kind ≠ .cool) : ∃ js, c.laterCool i = j :: js := by
  have hhead : (c.laterCool i).head? = some j := by
    unfold CycleEngine.laterCool
    rw [List.head?_filter, List.find?_map, Option.map_eq_some_iff]
    have hlt : j - 1 < c.program.length := (List.getElem?_eq_some_iff.mp he).1
    refine ⟨j - 1, ?_, by omega⟩
    rw [List.find?_range_eq_some]
    have hj : j - 1 + 1 = j := by omega
    refine ⟨?_, List.mem_range.mpr hlt, fun k hk => ?_⟩
    · simp [hj, hij, he, hcool]
    · simp only [Function.comp_apply, Bool.not_eq_true', Bool.and_eq_false_iff, decide_eq_false_iff_not]
      rcases Nat.lt_or_ge i (k + 1) with hlater | hearlier
      · right
        cases hf : entryAt c.program (k + 1) with
        | none => rfl
        | some f => simpa using hfirst (k + 1) f hlater (by omega) hf
      · exact .inl (by omega)
  cases h : c.laterCool i with
  | nil => rw [h] at hhead; cases hhead
  | cons j' js =>
    rw [h] at hhead
    cases hhead
    exact ⟨js, rfl⟩

/-- The jump skips a HEAT_DRY entry exactly where one stands from the current phase up to the entry before (R17). -/
theorem CycleEngine.skipsDry_iff {c : CycleEngine} {i j : Nat} (hi : 1 ≤ i) :
    c.skipsDry i j = true ↔ ∃ k f, i ≤ k ∧ k < j ∧ entryAt c.program k = some f ∧ f.kind = .heatDry := by
  simp only [CycleEngine.skipsDry, List.any_eq_true, beq_iff_eq]
  constructor
  · rintro ⟨f, hf, hdry⟩
    obtain ⟨n, hn⟩ := List.mem_iff_getElem?.mp hf
    rw [List.getElem?_drop, List.getElem?_take] at hn
    split at hn
    · rename_i hlt
      have hindex : i + n - 1 = i - 1 + n := by omega
      exact ⟨i + n, f, by omega, by omega, by rw [entryAt, hindex]; exact hn, hdry⟩
    · cases hn
  · rintro ⟨k, f, hik, hkj, hf, hdry⟩
    refine ⟨f, List.mem_iff_getElem?.mpr ⟨k - i, ?_⟩, hdry⟩
    have hindex : i - 1 + (k - i) = k - 1 := by omega
    rw [List.getElem?_drop, hindex, List.getElem?_take, if_pos (by omega)]
    exact hf

theorem State.phaseTicks_post (s : State) (p : Pocket) (k : EventKind) : (s.post k).phaseTicks p = s.phaseTicks p := by
  simp [State.phaseTicks]

/-- Of a phase just started no tick has passed, and the running time is in whole seconds (R9, R10). -/
theorem PhaseStarted.totalRunning {p : Pocket} {c : CycleEngine} {s t : State} (h : PhaseStarted p c s t) :
    t.totalRunning p = s.totalRunning p := by
  obtain ⟨hce, -, -, -, -, -, -, ⟨-, -, hnow, -⟩, -⟩ := h
  have hticks : t.phaseTicks p = 0 := by simp [State.phaseTicks, hce, hnow]
  rw [State.totalRunning, State.phaseElapsed, hticks, hce]
  rfl

/-- Settles O19: the jump is a change of the cycle engine and a post before the start of the COOL phase. -/
theorem stopCoolJumpsToTheCoolPhase : Obligations.StopCoolJumpsToTheCoolPhase := by
  unfold Obligations.StopCoolJumpsToTheCoolPhase
  intro p tag s i j e hh hst hi hpos hij he hcool hfirst
  obtain ⟨js, hlater⟩ := CycleEngine.laterCool_head hij hpos he hcool hfirst
  obtain ⟨c, hc⟩ : ∃ c, c = { (s.pocket p).ce with
      lastPhaseEnd := some (j - 1, PhaseEndReason.skipped), index := some j,
      lastDryEnd := if (s.pocket p).ce.skipsDry i j then some PhaseEndReason.skipped else (s.pocket p).ce.lastDryEnd } := ⟨_, rfl⟩
  obtain ⟨b, hb⟩ : ∃ b, b = (s.setPocket p { s.pocket p with ce := c }).post (.phaseEnd p) := ⟨_, rfl⟩
  have hjump : s.stopCool p = b.phaseStart p := by
    simp only [State.stopCool, hi, hlater, State.jumpToCool, hb, hc, State.onCe]
  have hbce : (b.pocket p).ce = c := by simp [hb]
  have hentry : (b.pocket p).ce.entry = some e := by rw [hbce, hc]; exact he
  obtain ⟨hstarted, hlatches⟩ := b.phaseStart_started p e hentry
  rw [hbce] at hstarted
  have hphase : PhaseStarted p c s (b.phaseStart p) := by
    rw [hb] at hstarted ⊢
    exact hstarted.of_counted (by rw [hc]) (by rw [hc]) (by rw [hc])
  refine ⟨b.phaseStart p, c.lastDryEnd, ?_, ?_, fun hdry => ?_, fun hdry => ?_, ?_, hphase.totalRunning, ?_⟩
  · have hact := State.actStop_cool hst
    rw [hjump] at hact
    exact exec_command_answered hh .stop tag ((s.respond_stop p 0#8).trans hact)
  · rw [hc] at hphase ⊢
    exact hphase
  · rw [hc]
    exact if_pos ((CycleEngine.skipsDry_iff hpos).mpr hdry)
  · rw [hc]
    refine if_neg fun hskips => ?_
    obtain ⟨k, f, hik, hkj, hf, hkind⟩ := (CycleEngine.skipsDry_iff hpos).mp hskips
    exact hdry k f hik hkj hf hkind
  · obtain ⟨hce, -⟩ := hphase
    rw [hce, hc]
    exact hst
  · intro q
    have hq := hlatches q
    rw [hb, State.port_post, State.port_setPocket] at hq
    rw [hb]
    exact hq

end Sys2Proof.Machine


/-! PROOF. E and its target (R108), the entry to ACCEL (R30), airflow (O21, O22, O23), DOOR closing (O26) and the run output (O27). -/

namespace Sys2Proof.Machine

/-! ## E follows its target (R108) -/

/-- A heat stage controller whose E has followed a target; `due` tells that the stage interval since its last rise has passed. -/
def HeatStages.followed (now : Ticks) (due : Bool) (target : Nat) (h : HeatStages) : HeatStages :=
  if target < h.energized then { h with energized := target, lastChange := now }
  else if h.energized < target ∧ due = true then { h with energized := h.energized + 1, lastRise := some now, lastChange := now }
  else h

theorem HeatStages.followed_kept (now : Ticks) (due : Bool) (target : Nat) (h : HeatStages) :
    (h.followed now due target).level = h.level ∧ (h.followed now due target).recoveryDue = h.recoveryDue
      ∧ (h.followed now due target).safe = h.safe := by
  unfold HeatStages.followed
  split_ifs <;> exact ⟨rfl, rfl, rfl⟩

theorem State.riseDue_iff (s : State) (p : Pocket) :
    s.riseDue p = true ↔ ¬ ∃ t, (s.pocket p).hsc.lastRise = some t ∧ s.now < t + s.stageTicks p := by
  unfold State.riseDue State.passed State.stageTicks
  cases (s.pocket p).hsc.lastRise <;> simp

theorem HeatStages.followed_follows {s : State} {p : Pocket} (target : Nat) :
    FollowsTarget s.now (s.stageTicks p) target (s.pocket p).hsc ((s.pocket p).hsc.followed s.now (s.riseDue p) target) := by
  have hdue := s.riseDue_iff p
  unfold HeatStages.followed
  refine ⟨fun h => if_pos h, fun h => ?_, fun h hearly => ?_, fun h hlate => ?_⟩
  · rw [if_neg (by omega), if_neg (by omega)]
  · rw [if_neg (by omega), if_neg fun hr => hdue.mp hr.2 hearly]
  · rw [if_neg (by omega), if_pos ⟨h, hdue.mpr hlate⟩]

theorem State.onHsc_onHsc (s : State) (p : Pocket) (f g : HeatStages → HeatStages) :
    (s.onHsc p f).onHsc p g = s.onHsc p (fun h => g (f h)) := by
  simp [State.onHsc]

/-- A heat stage controller replaced by one with the same L, recovery and SAFE leaves the target of R107. -/
theorem State.heatTarget_onHsc {s : State} {p : Pocket} {f : HeatStages → HeatStages}
    (hlevel : (f (s.pocket p).hsc).level = (s.pocket p).hsc.level)
    (hrecovery : (f (s.pocket p).hsc).recoveryDue = (s.pocket p).hsc.recoveryDue)
    (hsafe : (f (s.pocket p).hsc).safe = (s.pocket p).hsc.safe) : (s.onHsc p f).heatTarget p = s.heatTarget p := by
  have hperm : (s.onHsc p f).heatPermitted p = s.heatPermitted p :=
    State.heatPermitted_congr (by simp) (State.pocket_onHsc s p f) hrecovery hsafe
  have hlevel' : ((s.onHsc p f).pocket p).hsc.level = (s.pocket p).hsc.level := by rw [State.pocket_onHsc]; exact hlevel
  simp only [State.heatTarget, hperm, hlevel', State.granted_onHsc]

theorem State.followE_eq_followed (s : State) (p : Pocket) :
    s.followE p = s.onHsc p (·.followed s.now (s.riseDue p) (s.heatTarget p)) := by
  have hdrop : s.dropE p = s.onHsc p (fun h => h.withEnergized s.now (min h.energized (s.heatTarget p))) := rfl
  unfold State.followE State.riseE
  rw [State.heatTarget_dropE, State.dropE_energized]
  rcases Nat.lt_or_ge (s.heatTarget p) (s.pocket p).hsc.energized with hlt | hge
  · have hcap : min (s.pocket p).hsc.energized (s.heatTarget p) = s.heatTarget p := Nat.min_eq_right hlt.le
    rw [if_neg (by simp [hcap]), hdrop]
    simp only [State.onHsc, hcap, HeatStages.followed, if_pos hlt, HeatStages.withEnergized]
    rw [if_neg (by omega)]
  · have hcap : min (s.pocket p).hsc.energized (s.heatTarget p) = (s.pocket p).hsc.energized := Nat.min_eq_left hge
    have hstill : s.dropE p = s := by
      rw [hdrop, State.onHsc, hcap, HeatStages.withEnergized, if_pos rfl]
      exact s.setPocket_pocket p
    rw [hstill, hcap]
    simp only [State.onHsc, HeatStages.followed, if_neg (not_lt.mpr hge), Bool.and_eq_true, decide_eq_true_eq]
    split_ifs
    · rfl
    · exact (s.setPocket_pocket p).symm

/-- Following the target changes E alone, as R108 says. -/
theorem State.followE_followed (s : State) (p : Pocket) :
    ∃ h : HeatStages, s.followE p = s.onHsc p (fun _ => h)
      ∧ FollowsTarget s.now (s.stageTicks p) ((s.followE p).heatTarget p) (s.pocket p).hsc h := by
  obtain ⟨hlevel, hrecovery, hsafe⟩ := HeatStages.followed_kept s.now (s.riseDue p) (s.heatTarget p) (s.pocket p).hsc
  refine ⟨(s.pocket p).hsc.followed s.now (s.riseDue p) (s.heatTarget p), s.followE_eq_followed p, ?_⟩
  rw [s.followE_eq_followed p, State.heatTarget_onHsc hlevel hrecovery hsafe]
  exact HeatStages.followed_follows _

/-! ## Entry to ACCEL (R30) -/

/-- The pocket as ACCEL is entered. -/
def PocketState.accelerated (dir : Direction) (now : Ticks) (l : LatchedPattern) (x : PocketState) : PocketState :=
  { x with
      dmc := { x.dmc.outputOff now with
        state := .accel, direction := dir, purpose := none, latched := l, speed := l.speed, pulseDue := some (now + millis 100),
        pendingStart := false, lastEdge := none, lastPeriod := none, segmentSince := none, minimumRunDue := none,
        lockoutDue := none, accelDue := none, stallDue := none, quietDue := none, coastDue := none, dwellDue := none }
      tm := { x.tm with score := 0, flag := false, reference := none, reversalNotice := false }
      rcu := { x.rcu with segmentRecords := 0 } }

theorem State.enterAccel_eq (s : State) (p : Pocket) (dir : Direction) :
    s.enterAccel p dir = s.setPocket p ((s.pocket p).accelerated dir s.now (s.patternToLatch p)) := by
  simp [State.enterAccel, State.onDmc, State.onTm, State.onRcu, PocketState.accelerated]

theorem State.patternToLatch_latched (s : State) (p : Pocket) : PatternLatched p s (s.patternToLatch p) := by
  simp only [PatternLatched, State.patternToLatch, speedOfCode]
  rfl

/-- The drum, the monitor and the counter of a pocket that has entered ACCEL. -/
theorem PocketState.accelerated_entered {s : State} {p : Pocket} {dir : Direction} {l : LatchedPattern} {x y z : PocketState}
    (hl : PatternLatched p s l) (hz : z.dmc = { x.dmc with
        state := z.dmc.state, purpose := z.dmc.purpose, quietDue := z.dmc.quietDue, coastDue := z.dmc.coastDue,
        dwellDue := z.dmc.dwellDue } ∧ z.tm = x.tm ∧ z.rcu = x.rcu)
    (hdmc : y.dmc = (z.accelerated dir s.now l).dmc) (htm : y.tm = (z.accelerated dir s.now l).tm)
    (hrcu : y.rcu = (z.accelerated dir s.now l).rcu) : AccelEntered dir p s x y := by
  obtain ⟨h1, h2, h3⟩ := hz
  refine ⟨⟨l, hl, ?_⟩, ?_, ?_⟩
  · rw [hdmc]
    simp only [PocketState.accelerated, DrumMotion.outputOff]
    rw [h1]
    simp
  · rw [htm, ← h2]; rfl
  · rw [hrcu, ← h3]; rfl

/-! ## Airflow (O21, O22, O23) -/

theorem exec_airflowProven {s : State} {p : Pocket} (hm : s.mode = .operating) {t : Ticks} (h : (s.pocket p).ce.closureDue = some t) :
    exec (.airflowProven p) s = .next ((s.reach t).proveAirflow p) := by
  show execAirflowProven p s = _
  unfold execAirflowProven
  rw [State.whenOperating_operating _ _ hm, h]

/-- The pocket whose airflow has been proven, before the drum and E are considered. -/
def PocketState.proven (x : PocketState) : PocketState :=
  { x with ce := { x.ce with airflowProven := true, closureDue := none, lossDue := none, provingDue := none } }

/-- What a start request leaves of a pocket (R29). -/
def PocketState.startRequested (now : Ticks) (l : LatchedPattern) (x : PocketState) : PocketState :=
  match x.dmc.state with
  | .stopped =>
    if x.lines.doorClosed then x.accelerated .forward now l else { x with dmc := { x.dmc with pendingStart := true } }
  | .coast => if x.dmc.purpose = some .stop then { x with dmc := { x.dmc with pendingStart := true } } else x
  | .accel | .run | .dwell => x

theorem State.startRequest_eq (s : State) (p : Pocket) :
    s.startRequest p = s.setPocket p ((s.pocket p).startRequested s.now (s.patternToLatch p)) := by
  unfold State.startRequest PocketState.startRequested
  cases (s.pocket p).dmc.state
  case stopped => simp only [State.enterAccel_eq, State.onDmc]; split <;> rfl
  case coast =>
    simp only [State.onDmc, beq_iff_eq]
    split
    · rfl
    · exact (s.setPocket_pocket p).symm
  all_goals exact (s.setPocket_pocket p).symm

theorem PocketState.startRequested_kept (now : Ticks) (l : LatchedPattern) (x : PocketState) :
    (x.startRequested now l).ce = x.ce ∧ (x.startRequested now l).me = x.me ∧ (x.startRequested now l).hsc = x.hsc
      ∧ SameRecords x (x.startRequested now l) := by
  unfold PocketState.startRequested
  split
  · split <;> exact ⟨rfl, rfl, rfl, rfl, rfl, rfl, rfl, rfl⟩
  · split <;> exact ⟨rfl, rfl, rfl, rfl, rfl, rfl, rfl, rfl⟩
  all_goals exact ⟨rfl, rfl, rfl, rfl, rfl, rfl, rfl, rfl⟩

/-- The pocket at the end of a proof of airflow, before E follows: the first proof in PROVING asks the drum to start. -/
def PocketState.airflowTaken (now : Ticks) (l : LatchedPattern) (x : PocketState) : PocketState :=
  if x.ce.state = .proving ∧ x.ce.provingDue ≠ none then x.proven.startRequested now l else x.proven

theorem State.proveAirflow_eq (s : State) (p : Pocket) :
    s.proveAirflow p = (s.setPocket p ((s.pocket p).airflowTaken s.now (s.patternToLatch p))).followE p := by
  have hproven : s.onCe p (fun c => { c with airflowProven := true, closureDue := none, lossDue := none, provingDue := none })
      = s.setPocket p (s.pocket p).proven := rfl
  have hlatch : (s.setPocket p (s.pocket p).proven).patternToLatch p = s.patternToLatch p := by
    simp [State.patternToLatch, State.pattern, State.patternInForce, State.entry, State.item, CycleEngine.entry, PocketState.proven]
  have hfirst : ((s.pocket p).ce.state == .proving && (s.pocket p).ce.provingDue.isSome) = true
      ↔ (s.pocket p).ce.state = .proving ∧ (s.pocket p).ce.provingDue ≠ none := by simp [Option.isSome_iff_ne_none]
  unfold State.proveAirflow PocketState.airflowTaken
  simp only [hproven, hfirst]
  split
  · rw [State.startRequest_eq, hlatch]
    simp
  · rfl

theorem State.closeAirflow_eq (s : State) (p : Pocket) :
    s.closeAirflow p = s.onCe p (fun c => { c with closureDue := if c.blowerDemand then some (s.now + seconds 1) else c.closureDue }) := by
  unfold State.closeAirflow
  cases h : (s.pocket p).ce.blowerDemand
  · simp only [State.onCe, h]
    exact (s.setPocket_pocket p).symm
  · simp [State.onCe, h]

theorem exec_airfClose {s : State} {p : Pocket} (hm : s.mode = .operating) (h : (s.pocket p).lines.airfClosed = false) :
    exec (.airfClose p) s = .next ((s.onLines p (fun l => { l with airfClosed := true })).closeAirflow p) := by
  show execAirfClose p s = _
  unfold execAirfClose
  rw [h, State.whenOperating_operating _ _ (by simpa using hm)]
  rfl

/-- Settles O21: the proof of airflow, the start request by the drum's state, then E. -/
theorem airflowIsProvenAndStartsTheDrum : Obligations.AirflowIsProvenAndStartsTheDrum := by
  unfold Obligations.AirflowIsProvenAndStartsTheDrum
  intro p s hm
  refine ⟨fun h => ?_, fun h => ?_, ?_⟩
  · rw [exec_airfClose hm h, State.closeAirflow_eq]
    simp
  · show execAirflowProven p s = _
    unfold execAirflowProven
    rw [State.whenOperating_operating _ _ hm, h]
  · rintro t b hdue rfl
    set b := s.reach t with hb
    obtain ⟨x, hx⟩ : ∃ x, x = (b.pocket p).airflowTaken b.now (b.patternToLatch p) := ⟨_, rfl⟩
    have hprove : b.proveAirflow p = (b.setPocket p x).followE p := by rw [hx]; exact b.proveAirflow_eq p
    obtain ⟨h, hfollow, hfollows⟩ := (b.setPocket p x).followE_followed p
    have hpocket : b.pocket p = s.pocket p := by simp [hb]
    rw [hpocket] at hx
    have hticks : (b.setPocket p x).stageTicks p = s.stageTicks p := by simp [State.stageTicks, State.item, hb]
    have hxkept : x.ce = (s.pocket p).proven.ce ∧ x.me = (s.pocket p).me ∧ x.hsc = (s.pocket p).hsc ∧ SameRecords (s.pocket p) x := by
      rw [hx, PocketState.airflowTaken]
      split
      · exact PocketState.startRequested_kept _ _ (s.pocket p).proven
      · exact ⟨rfl, rfl, rfl, rfl, rfl, rfl, rfl, rfl⟩
    obtain ⟨hce, hme, hhsc, hrec⟩ := hxkept
    have hu : ((b.setPocket p x).followE p).pocket p = { x with hsc := h } := by rw [hfollow]; simp
    rw [hticks, State.pocket_setPocket, hhsc] at hfollows
    refine ⟨_, (exec_airflowProven hm hdue).trans (congrArg _ hprove), ?_, ?_, ?_, ?_, ?_, fun hnot => ?_, fun hfirst => ?_⟩
    · rw [OnlyPocket, hfollow]
      simp [State.onHsc]
    · rw [hu]; exact hce
    · rw [hu]; exact hme
    · rw [hu]; exact hrec
    · rw [hu]
      simpa using hfollows
    · rw [hu, hx, PocketState.airflowTaken, if_neg hnot]
      exact ⟨rfl, rfl, rfl⟩
    · have hlatched : PatternLatched p b (b.patternToLatch p) := b.patternToLatch_latched p
      rw [PocketState.airflowTaken, if_pos hfirst] at hx
      rw [hu, hx]
      refine ⟨fun hst hd => ?_, fun hst => ?_, fun hst hcoast => ?_⟩
      · have hstart : (s.pocket p).proven.startRequested b.now (b.patternToLatch p)
            = (s.pocket p).proven.accelerated .forward b.now (b.patternToLatch p) := by
          simp [PocketState.startRequested, PocketState.proven, hst, hd]
        rw [hstart]
        exact PocketState.accelerated_entered (z := (s.pocket p).proven) hlatched ⟨rfl, rfl, rfl⟩ rfl rfl rfl
      · rcases hst with ⟨hst, hd⟩ | ⟨hst, hpurpose⟩
        · simp [PocketState.startRequested, PocketState.proven, hst, hd]
        · simp [PocketState.startRequested, PocketState.proven, hst, hpurpose]
      · unfold PocketState.startRequested
        cases hd : (s.pocket p).proven.dmc.state
        case stopped => exact absurd hd hst
        case coast =>
          have hpurpose : ¬ (s.pocket p).proven.dmc.purpose = some .stop := fun hp => hcoast ⟨hd, hp⟩
          simp only [hpurpose, if_false]
          rfl
        all_goals rfl

theorem exec_airfOpen {s : State} {p : Pocket} (hm : s.mode = .operating) (h : (s.pocket p).lines.airfClosed = true) :
    exec (.airfOpen p) s = .next ((s.onLines p (fun l => { l with airfClosed := false })).openAirflow p) := by
  show execAirfOpen p s = _
  unfold execAirfOpen
  rw [if_pos h, State.whenOperating_operating _ _ (by simpa using hm)]

/-- E at 0 with the time of its fall (R108, R110). -/
theorem HeatStages.withEnergized_zero (now : Ticks) (h : HeatStages) :
    h.withEnergized now 0 = { h with energized := 0, lastChange := if h.energized = 0 then h.lastChange else now } := by
  unfold HeatStages.withEnergized
  by_cases hz : h.energized = 0
  · rw [if_pos hz.symm, if_pos hz]
    cases h
    cases hz
    rfl
  · rw [if_neg fun e => hz e.symm, if_neg hz]

theorem CycleState.watchesAirflow_iff (c : CycleState) : c.watchesAirflow = true ↔ c = .proving ∨ c = .running := by cases c <;> decide

/-- Settles O22: airflow unproven fails its interlock, and E falls to 0. -/
theorem airflowLossRemovesHeat : Obligations.AirflowLossRemovesHeat := by
  unfold Obligations.AirflowLossRemovesHeat
  rintro p s b hm rfl
  refine ⟨fun h => ?_, fun h => ⟨_, _, exec_airfOpen hm h, ?_, rfl⟩⟩
  · show execAirfOpen p s = _
    unfold execAirfOpen
    rw [h]
    rfl
  · unfold State.openAirflow
    obtain ⟨c, hc⟩ : ∃ c, c = { (s.pocket p).ce with
        airflowProven := false, closureDue := none,
        lossDue := if (s.pocket p).ce.airflowProven = true
            ∧ ((s.pocket p).ce.state = CycleState.proving ∨ (s.pocket p).ce.state = CycleState.running) then some (s.now + seconds 10)
          else (s.pocket p).ce.lossDue } := ⟨_, rfl⟩
    have hopened : (s.onLines p (fun l => { l with airfClosed := false })).onCe p (fun c =>
          { c with airflowProven := false, closureDue := none,
                   lossDue := if c.airflowProven && c.state.watchesAirflow then
                     some ((s.onLines p (fun l => { l with airfClosed := false })).now + seconds 10) else c.lossDue })
        = s.setPocket p { s.pocket p with lines := { (s.pocket p).lines with airfClosed := false }, ce := c } := by
      simp [State.onCe, State.onLines, hc, CycleState.watchesAirflow_iff]
    rw [hopened, State.dropE_setPocket_zero s p (by simp [PocketState.clearForHeat, hc]), HeatStages.withEnergized_zero, ← hc]
    simp

theorem exec_provingTimeout {s : State} {p : Pocket} (hm : s.mode = .operating) {t : Ticks} (h : (s.pocket p).ce.provingDue = some t) :
    exec (.provingTimeout p) s
      = .next (((s.reach t).onCe p (fun c => { c with provingDue := none })).report p .airflowFail none) := by
  show execProvingTimeout p s = _
  unfold execProvingTimeout
  rw [State.whenOperating_operating _ _ hm, h]

theorem exec_airflowLossTimeout {s : State} {p : Pocket} (hm : s.mode = .operating) {t : Ticks} (h : (s.pocket p).ce.lossDue = some t) :
    exec (.airflowLossTimeout p) s
      = .next (((s.reach t).onCe p (fun c => { c with lossDue := none })).report p .airflowFail none) := by
  show execAirflowLossTimeout p s = _
  unfold execAirflowLossTimeout
  rw [State.whenOperating_operating _ _ hm, h]

/-- Settles O23: both are a report of AIRFLOW_FAIL, a TRIP. -/
theorem airflowFailTrips : Obligations.AirflowFailTrips := by
  unfold Obligations.AirflowFailTrips
  intro p s hm
  refine ⟨fun h => ?_, fun h => ?_, ?_, ?_⟩
  · show execProvingTimeout p s = _
    unfold execProvingTimeout
    rw [State.whenOperating_operating _ _ hm, h]
  · show execAirflowLossTimeout p s = _
    unfold execAirflowLossTimeout
    rw [State.whenOperating_operating _ _ hm, h]
  · rintro t b h rfl
    obtain ⟨htrip, hrec, hlist, -⟩ := State.report_trip ((s.reach t).onCe p (fun c => { c with provingDue := none })) p .airflowFail none rfl
    exact ⟨_, exec_provingTimeout hm h, htrip, hrec, hlist⟩
  · rintro t b h rfl
    obtain ⟨htrip, hrec, hlist, -⟩ := State.report_trip ((s.reach t).onCe p (fun c => { c with lossDue := none })) p .airflowFail none rfl
    exact ⟨_, exec_airflowLossTimeout hm h, htrip, hrec, hlist⟩

/-! ## DOOR closing (O26) -/

theorem exec_doorClose {s : State} {p : Pocket} (hm : s.mode = .operating) (h : (s.pocket p).lines.doorClosed = false) :
    exec (.doorClose p) s = .next ((s.onLines p (fun l => { l with doorClosed := true })).closeDoor p) := by
  show execDoorClose p s = _
  unfold execDoorClose
  rw [h, State.whenOperating_operating _ _ (by simpa using hm)]
  rfl

/-- Settles O26: a pending start in STOPPED is the entry to ACCEL; then E follows. -/
theorem doorClosingTakesThePendingStart : Obligations.DoorClosingTakesThePendingStart := by
  unfold Obligations.DoorClosingTakesThePendingStart
  rintro p s b hm rfl
  refine ⟨fun h => ?_, fun hopen => ?_⟩
  · show execDoorClose p s = _
    unfold execDoorClose
    rw [h]
    rfl
  · set b := s.onLines p (fun l => { l with doorClosed := true }) with hb
    have hpocket : b.pocket p = { s.pocket p with lines := { (s.pocket p).lines with doorClosed := true } } := by simp [hb]
    obtain ⟨x, hx⟩ : ∃ x, x = if (s.pocket p).dmc.state = .stopped ∧ (s.pocket p).dmc.pendingStart = true then
        (b.pocket p).accelerated .forward b.now (b.patternToLatch p) else b.pocket p := ⟨_, rfl⟩
    have hclose : b.closeDoor p = (b.setPocket p x).followE p := by
      unfold State.closeDoor
      rw [hx, hpocket]
      simp only [Bool.and_eq_true, beq_iff_eq]
      split
      · rw [State.enterAccel_eq, hpocket]
      · rw [← hpocket, State.setPocket_pocket]
    obtain ⟨h, hfollow, hfollows⟩ := (b.setPocket p x).followE_followed p
    have hxkept : x.ce = (s.pocket p).ce ∧ x.me = (s.pocket p).me ∧ x.hsc = (s.pocket p).hsc ∧ SameRecords (b.pocket p) x := by
      rw [hx, hpocket]
      split <;> exact ⟨rfl, rfl, rfl, rfl, rfl, rfl, rfl, rfl⟩
    obtain ⟨hce, hme, hhsc, hrec⟩ := hxkept
    have hticks : (b.setPocket p x).stageTicks p = s.stageTicks p := by simp [State.stageTicks, State.item, hb]
    have hnow : (b.setPocket p x).now = s.now := by simp [hb]
    rw [hticks, hnow, State.pocket_setPocket, hhsc] at hfollows
    have hu : ((b.setPocket p x).followE p).pocket p = { x with hsc := h } := by rw [hfollow]; simp
    refine ⟨_, (exec_doorClose hm hopen).trans (congrArg _ hclose), ?_, ?_, ?_, ?_, ?_, fun hst => ?_, fun hst => ?_⟩
    · rw [OnlyPocket, hfollow]
      simp [State.onHsc]
    · rw [hu]; exact hce
    · rw [hu]; exact hme
    · rw [hu]; exact hrec
    · rw [hu]; exact hfollows
    · rw [if_pos hst] at hx
      rw [hu, hx]
      exact PocketState.accelerated_entered (z := b.pocket p) (b.patternToLatch_latched p)
        (by rw [hpocket]; exact ⟨rfl, rfl, rfl⟩) rfl rfl rfl
    · rw [if_neg hst] at hx
      rw [hu, hx, hpocket]
      exact ⟨rfl, rfl, rfl⟩

/-! ## The run output (O27) -/

theorem exec_dclrPulseEnd {s : State} {p : Pocket} (hm : s.mode = .operating) {t : Ticks} (h : (s.pocket p).dmc.pulseDue = some t)
    (drvf : Bool) : exec (.dclrPulseEnd p drvf) s = .next ((s.reach t).endPulse p drvf) := by
  show execDclrPulseEnd p drvf s = _
  unfold execDclrPulseEnd
  rw [State.whenOperating_operating _ _ hm, h]

theorem exec_lockoutEnd {s : State} {p : Pocket} (hm : s.mode = .operating) {t : Ticks} (hst : (s.pocket p).dmc.state = .accel)
    (h : (s.pocket p).dmc.lockoutDue = some t) : exec (.lockoutEnd p) s = .next ((s.reach t).assertOutput p) := by
  show execLockoutEnd p s = _
  unfold execLockoutEnd
  rw [State.whenOperating_operating _ _ hm]
  simp [DrumMotion.timerIn, hst, h]

/-- The pocket as the DCLR pulse ends with DRVF as it is found. -/
def PocketState.pulseEnded (drvf : Bool) (x : PocketState) : PocketState :=
  { x with lines := { x.lines with drvf := drvf }, dmc := { x.dmc with pulseDue := none } }

theorem State.endPulse_of_accel {s : State} {p : Pocket} (h : (s.pocket p).dmc.state = .accel) :
    s.endPulse p false = (s.setPocket p ((s.pocket p).pulseEnded false)).readyOutput p := by
  simp [State.endPulse, h, State.onLines, State.onDmc, PocketState.pulseEnded]

theorem State.endPulse_of_other {s : State} {p : Pocket} (h : (s.pocket p).dmc.state ≠ .accel) (drvf : Bool) :
    s.endPulse p drvf = s.setPocket p ((s.pocket p).pulseEnded drvf) := by
  simp [State.endPulse, h, State.onLines, State.onDmc, PocketState.pulseEnded]

theorem State.readyOutput_free {s : State} {p : Pocket} (h : (s.pocket p).dmc.oppositeOff + seconds 2 ≤ s.now) :
    s.readyOutput p = s.setPocket p (OutputAsserted p s (s.pocket p)) := if_pos h

theorem State.readyOutput_held {s : State} {p : Pocket} (h : s.now < (s.pocket p).dmc.oppositeOff + seconds 2) :
    s.readyOutput p = s.setPocket p { s.pocket p with dmc := { (s.pocket p).dmc with
      lockoutDue := some ((s.pocket p).dmc.oppositeOff + seconds 2) } } := if_neg (not_le.mpr h)

/-- Settles O27: by the drum's state at the end of the pulse, and by whether the 2 s have passed. -/
theorem runOutputWaitsForPulseAndLockout : Obligations.RunOutputWaitsForPulseAndLockout := by
  unfold Obligations.RunOutputWaitsForPulseAndLockout
  rintro p s b t x hm rfl hx
  have hend : x = (s.pocket p).pulseEnded false := hx
  set b := s.reach t with hb
  have hpocket : b.pocket p = s.pocket p := by simp [hb]
  have hopposite : ((s.pocket p).pulseEnded false).dmc.oppositeOff = (s.pocket p).dmc.oppositeOff := rfl
  have hnow : ∀ y, (b.setPocket p y).now = b.now := fun y => by cases p <;> rfl
  have hassert : ∀ y, OutputAsserted p (b.setPocket p y) y = OutputAsserted p b y := by
    intro y
    simp [OutputAsserted, State.item]
  refine ⟨fun h drvf => ?_, fun h => ⟨fun hst drvf => ?_, fun hst hfree => ?_, fun hst hheld => ?_⟩, fun hst h => ?_⟩
  · show execDclrPulseEnd p drvf s = _
    unfold execDclrPulseEnd
    rw [State.whenOperating_operating _ _ hm, h]
  · rw [exec_dclrPulseEnd hm h, State.endPulse_of_other (by rwa [State.pocket_reach]), hx, hpocket]
    rfl
  · rw [exec_dclrPulseEnd hm h, State.endPulse_of_accel (by rwa [State.pocket_reach]), hpocket, hend]
    rw [State.readyOutput_free (by rw [State.pocket_setPocket, hopposite, hnow]; exact hfree)]
    rw [State.pocket_setPocket, hassert, State.setPocket_setPocket]
  · rw [exec_dclrPulseEnd hm h, State.endPulse_of_accel (by rwa [State.pocket_reach]), hpocket, hend]
    rw [State.readyOutput_held (by rw [State.pocket_setPocket, hopposite, hnow]; exact hheld)]
    rw [State.pocket_setPocket, State.setPocket_setPocket, hopposite]
    rfl
  · rw [exec_lockoutEnd hm hst h, ← hpocket]
    rfl

end Sys2Proof.Machine


/-! PROOF. IDX edges without a window (O28), stalls and drive faults (O29), the full run (O30). -/

namespace Sys2Proof.Machine

/-! ## IDX edges without a window (O28) -/

theorem exec_idxEdge {s : State} (hm : s.mode = .operating) (p : Pocket) (n : Ticks) :
    exec (.idxEdge p n) s = .next ((s.elapse n).indexEdge p) := by
  show execIdxEdge p n s = _
  unfold execIdxEdge
  rw [State.whenOperating_operating _ _ (by simpa using hm)]

theorem edgesOutsideAWindow : EdgesOutsideAWindow := by
  rintro p n s b hm rfl
  rw [exec_idxEdge hm]
  unfold State.indexEdge
  rw [State.pocket_elapse]
  refine ⟨?_, fun hst => ⟨fun period hp => ?_, fun hp => ?_⟩⟩
  · rintro (hst | hst | ⟨hst, hoff⟩)
    · rw [hst]
    · rw [hst]
    · rw [hst, hoff]
      rfl
  · rw [hst]
    simp [State.onDmc, DrumMotion.quietTime, hp]
  · rw [hst]
    simp [State.onDmc, DrumMotion.quietTime, hp]

/-- The pocket at the first edge of a segment, before the cycle engine and E take note of it. -/
def PocketState.firstEdge (p : Pocket) (s : State) (x : PocketState) : PocketState :=
  { x with
      dmc := runEntered p s s.now x.dmc
      rcu := { x.rcu with
        window := some { openedAt := s.now, tachEdges := 0, contacts := 0, contactTicks := 0 },
        pulse := if x.lines.wet then some { since := s.now, accepted := false } else none } }

theorem State.enterRun_eq (s : State) (p : Pocket) :
    s.enterRun p = ((s.setPocket p ((s.pocket p).firstEdge p s)).drumReachedRun p).followE p := by
  unfold State.enterRun
  dsimp only
  congr 2
  by_cases h : s.item p PocketItem.settleRevolutions = 0
  · rw [if_pos h]
    simp [State.openWindow, State.resetRestarts, State.onDmc, State.onRcu, PocketState.firstEdge, runEntered, h,
      State.stallTicks]
  · rw [if_neg h]
    simp [State.openWindow, State.onDmc, State.onRcu, PocketState.firstEdge, runEntered, h, State.stallTicks]

/-- What the start of a phase leaves alone and what it makes of the cycle engine, with or without a current entry. -/
theorem State.phaseStart_kept (s : State) (p : Pocket) :
    ((s.phaseStart p).pocket p).ce
        = { (s.pocket p).ce with earlierSeconds := s.totalRunning p, phaseTicks := 0, runSince := some s.now, begun := true }
      ∧ ((s.phaseStart p).pocket p).dmc = (s.pocket p).dmc ∧ ((s.phaseStart p).pocket p).rcu = (s.pocket p).rcu
      ∧ ((s.phaseStart p).pocket p).tm = (s.pocket p).tm ∧ SameRecords (s.pocket p) ((s.phaseStart p).pocket p)
      ∧ OnlyPocketAndAccount p s (s.phaseStart p) := by
  obtain ⟨y, hy, hce, hdmc, hrcu, htm, hrec⟩ : ∃ y, MovesTo (s.setPocket p y) (s.phaseStart p)
      ∧ y.ce = { (s.pocket p).ce with earlierSeconds := s.totalRunning p, phaseTicks := 0, runSince := some s.now, begun := true }
      ∧ y.dmc = (s.pocket p).dmc ∧ y.rcu = (s.pocket p).rcu ∧ y.tm = (s.pocket p).tm ∧ SameRecords (s.pocket p) y := by
    unfold State.phaseStart
    dsimp only
    obtain ⟨y, he, hy⟩ : ∃ y, ((((s.onCe p (fun c =>
            { c with earlierSeconds := s.totalRunning p, phaseTicks := 0, runSince := some s.now, begun := true })).onMe p (fun m =>
            { m with hold := if ((s.entry p).any (fun e => e.kind == .heatDry)) then 0 else m.hold,
                     lastA := if s.onHeatEntry p then m.lastA else none, dryNotice := none })).updateTaper p).onHsc p
          (fun h => { h with overCount := 0 })) = s.setPocket p y
        ∧ y.ce = { (s.pocket p).ce with earlierSeconds := s.totalRunning p, phaseTicks := 0, runSince := some s.now, begun := true }
        ∧ y.dmc = (s.pocket p).dmc ∧ y.rcu = (s.pocket p).rcu ∧ y.tm = (s.pocket p).tm ∧ SameRecords (s.pocket p) y := by
      refine ⟨_, by simp only [State.updateTaper, State.onCe, State.onMe, State.onHsc, State.setPocket_setPocket]; rfl, ?_⟩
      simp [SameRecords]
    rw [he]
    exact ⟨y, .ite (.applyCap p _) ((MovesTo.dropE p _).trans (.releaseAll p _)), hy⟩
  obtain ⟨k, hk⟩ := hy.pocket p
  rw [State.pocket_setPocket] at hk
  rw [hk]
  exact ⟨hce, hdmc, hrcu, htm, hrec, (OnlyPocketAndAccount.setPocket p s y).trans (.of_moves hy)⟩

/-- The first edge: RUN is entered, the cycle engine is told, and E follows its target. -/
theorem firstEdgeEntersRun : FirstEdgeEntersRun := by
  rintro p n s b x c hm hst hout rfl hc hx
  set b := s.elapse n with hb
  have hpb : b.pocket p = s.pocket p := State.pocket_elapse s n p
  have hentered : x = b.setPocket p { (s.pocket p).firstEdge p b with ce := c } := hx
  obtain ⟨v, hv⟩ : ∃ v, v = (b.setPocket p ((s.pocket p).firstEdge p b)).drumReachedRun p := ⟨_, rfl⟩
  have hexec : exec (.idxEdge p n) s = .next (v.followE p) := by
    rw [exec_idxEdge hm, ← hb, State.indexEdge, hpb, hst, hv]
    simp only [hout, if_true, State.enterRun_eq, hpb]
  have hreached : v = if (s.pocket p).ce.state = .proving ∧ (s.pocket p).ce.begun = false then x.phaseStart p else x := by
    have hce : ((b.setPocket p ((s.pocket p).firstEdge p b)).pocket p).ce = (s.pocket p).ce := by simp [PocketState.firstEdge]
    rw [hv, State.drumReachedRun, hce]
    by_cases hproving : (s.pocket p).ce.state = .proving
    · have hx : (b.setPocket p ((s.pocket p).firstEdge p b)).onCe p
          (fun c => { c with state := .running, provingDue := none, runSince := some b.now }) = x := by
        rw [hentered, hc, if_pos hproving]
        simp [State.onCe, PocketState.firstEdge]
      simp only [hproving, beq_self_eq_true, if_true, true_and, (State.setPocket_shared b p _).2.2.1, hx]
      cases (s.pocket p).ce.begun <;> rfl
    · rw [if_neg (by simpa using hproving), if_neg fun h => hproving h.1, hentered, hc, if_neg hproving]
      rfl
  have hpx : x.pocket p = { (s.pocket p).firstEdge p b with ce := c } := by rw [hentered, State.pocket_setPocket]
  have honly : OnlyPocketAndAccount p b x := by rw [hentered]; exact .setPocket p b _
  have hnow : x.now = b.now := by rw [hentered]; simp
  obtain ⟨hce, hdmc, hrcu, htm, hrec, hmoved⟩ := x.phaseStart_kept p
  have hvmoved : OnlyPocketAndAccount p b v := by
    rw [hreached]
    split_ifs
    · exact honly.trans hmoved
    · exact honly
  have hvkept : (v.pocket p).dmc = (x.pocket p).dmc ∧ (v.pocket p).rcu = (x.pocket p).rcu ∧ (v.pocket p).tm = (s.pocket p).tm
      ∧ SameRecords (s.pocket p) (v.pocket p) := by
    have hx : (x.pocket p).tm = (s.pocket p).tm ∧ SameRecords (s.pocket p) (x.pocket p) := by
      rw [hpx]; exact ⟨rfl, rfl, rfl, rfl, rfl, rfl⟩
    rw [hreached]
    split_ifs
    · obtain ⟨r1, r2, r3, r4, r5⟩ := hrec
      obtain ⟨x1, x2, x3, x4, x5⟩ := hx.2
      exact ⟨hdmc, hrcu, htm.trans hx.1, r1.trans x1, r2.trans x2, r3.trans x3, r4.trans x4, r5.trans x5⟩
    · exact ⟨rfl, rfl, hx⟩
  have hshared : v.now = b.now ∧ v.stageTicks p = s.stageTicks p := by
    obtain ⟨⟨-, -, hvnow, -, -, -, hps⟩, -⟩ := hvmoved
    refine ⟨hvnow, ?_⟩
    unfold State.stageTicks State.item
    rw [hps]
    rfl
  obtain ⟨h, hu, hfollows⟩ := v.followE_followed p
  rw [hshared.1, hshared.2] at hfollows
  obtain ⟨hv1, hv2, hv3, hv4⟩ := hvkept
  have hpu : (v.followE p).pocket p = { v.pocket p with hsc := h } := by rw [hu, State.pocket_onHsc]
  refine ⟨v.followE p, h, hexec, fun hgoes => ?_, fun hproving hbegun hentry => ⟨v, ?_, hu, hfollows⟩, fun hproving hbegun => ?_, ?_⟩
  · have hvx : v = x := by
      rw [hreached, if_neg]
      rintro ⟨h1, h2⟩
      rcases hgoes with h3 | h3
      · exact h3 h1
      · rw [h2] at h3; cases h3
    refine ⟨by rw [hu, hvx], ?_⟩
    rw [hvx, hpx] at hfollows
    rw [hvx]
    exact hfollows
  · have hcentry : c.entry = (s.pocket p).ce.entry := by
      rw [hc, if_pos hproving]
      rfl
    obtain ⟨e, he⟩ := Option.ne_none_iff_exists'.mp (hcentry ▸ hentry)
    have hxc : (x.pocket p).ce = c := by rw [hpx]
    rw [hreached, if_pos ⟨hproving, hbegun⟩]
    simpa [hxc] using (x.phaseStart_started p e (by rw [hxc]; exact he)).1
  · rw [hpu]
    show (v.pocket p).ce = _
    rw [hreached, if_pos ⟨hproving, hbegun⟩, hce, hpx, hnow, hc, if_pos hproving]
  · rw [hpu]
    obtain ⟨r1, r2, r3, r4, r5⟩ := hv4
    exact ⟨hv1, hv2, hv3, ⟨r1, r2, r3, r4, r5⟩, hvmoved.trans (.of_moves (.followE p v))⟩

/-- Settles O28. -/
theorem edgesWithoutAWindow : Obligations.EdgesWithoutAWindow := ⟨firstEdgeEntersRun, edgesOutsideAWindow⟩

/-! ## Stalls and drive faults (O29) -/

/-- A pocket whose segment has failed at `now`: the count, the cause, the coast, and E at 0. -/
def PocketState.segmentFailed (purpose : CoastPurpose) (count : Nat) (cause : RetryCause) (now coast : Ticks) (x : PocketState) :
    PocketState :=
  { x with
      dmc := coastBegun purpose now coast { x.dmc with restartCount := count, lastRetry := some cause }
      rcu := { x.rcu with window := none, pulse := none }
      tm := { x.tm with reversalNotice := false }
      hsc := x.hsc.withEnergized now 0 }

theorem State.failSegment_retry {b : State} {p : Pocket} (cause : RetryCause)
    (h : (b.pocket p).dmc.restartCount < b.item p PocketItem.restartAttempts) :
    b.failSegment p cause = b.setPocket p ((b.pocket p).segmentFailed .retry ((b.pocket p).dmc.restartCount + 1) cause b.now
      (b.coastTicks p)) := by
  rw [State.failSegment, if_pos h, State.toCoast_eq]
  simp [State.onDmc, PocketState.segmentFailed, State.coastTicks, State.item]

theorem State.failSegment_trip {b : State} {p : Pocket} (cause : RetryCause)
    (h : b.item p PocketItem.restartAttempts ≤ (b.pocket p).dmc.restartCount) :
    b.failSegment p cause = (b.setPocket p ((b.pocket p).segmentFailed .stop (b.pocket p).dmc.restartCount cause b.now
      (b.coastTicks p))).report p cause.fault none := by
  rw [State.failSegment, if_neg (not_lt.mpr h), State.toCoast_eq]
  simp [State.onDmc, PocketState.segmentFailed, State.coastTicks, State.item]

/-- A stop of a drum that coasts with purpose STOP changes nothing of it but its pending start. -/
theorem DrumHalted.of_stopping {now coast : Ticks} {x y : PocketState} (h : DrumHalted now coast x y) (hst : x.dmc.state = .coast)
    (hstop : x.dmc.purpose = some .stop) : y.dmc = { x.dmc with pendingStart := y.dmc.pendingStart } ∧ y.rcu = x.rcu := by
  obtain ⟨hdmc, hrcu⟩ := h.2.1 hst
  refine ⟨?_, hrcu⟩
  rw [hdmc, ← hstop]

/-- What R42 makes of a failure: the retry is a change of the pocket alone, the trip a report from the coast. -/
theorem State.failSegment_taken (b : State) (p : Pocket) (cause : RetryCause) :
    StallOrDriveTaken cause p b (b.failSegment p cause) := by
  refine ⟨fun h => ?_, fun h => ?_⟩
  · rw [State.failSegment_retry cause h]
    refine ⟨?_, ?_, ?_⟩
    · simp [SegmentFailed, PocketState.segmentFailed, coastBegun]
    · simp [OnlyPocket]
    · simp [PocketState.segmentFailed, SameRecords]
  · rw [State.failSegment_trip cause h]
    set y := (b.pocket p).segmentFailed .stop (b.pocket p).dmc.restartCount cause b.now (b.coastTicks p) with hy
    set v := b.setPocket p y with hv
    have hkind : isTrip cause.fault = true := by cases cause <;> rfl
    have hpv : v.pocket p = y := State.pocket_setPocket b p y
    have hticks : v.phaseTicks p = b.phaseTicks p := by simp [State.phaseTicks, hy, PocketState.segmentFailed, hv]
    have hnow : v.now = b.now := by simp [hv]
    obtain ⟨⟨hresponse, hleft, hstays, hgain⟩, ⟨hlines, hsb, hmeter, hshed⟩, hlist, henergized, -⟩ := v.report_trip p cause.fault none hkind
    rw [hpv] at hresponse hleft hstays hlines hsb hmeter hshed hlist henergized
    rw [hnow, hticks] at hresponse
    have hdrum : (((v.report p cause.fault none).pocket p).dmc
          = { y.dmc with pendingStart := ((v.report p cause.fault none).pocket p).dmc.pendingStart })
        ∧ ((v.report p cause.fault none).pocket p).rcu = y.rcu := by
      cases hs : (b.pocket p).ce.state.stoppable
      · obtain ⟨hdmc, hrcu, -⟩ := hstays hs
        rw [hdmc]
        exact ⟨rfl, hrcu⟩
      · obtain ⟨-, hhalted, -⟩ := hleft hs
        rw [hpv] at hhalted
        exact hhalted.of_stopping rfl rfl
    refine ⟨hdrum, ?_, hresponse, fun hs => ?_, fun hs => ?_, ⟨hlines, hsb, hmeter, hshed⟩, ?_, ?_, ?_⟩
    · cases hs : (b.pocket p).ce.state.stoppable
      · obtain ⟨-, -, -, -, honly⟩ := hstays hs
        exact (OnlyPocketAndAccount.setPocket p b y).trans honly.toPocketAndAccount
      · obtain ⟨-, -, -, -, -, honly⟩ := hleft hs
        exact (OnlyPocketAndAccount.setPocket p b y).trans honly
    · exact (hleft hs).1.of_setPocket (by rfl)
    · obtain ⟨-, -, -, -, honly⟩ := hstays hs
      exact (OnlyPocketAndLatches.setPocket p b y).trans honly
    · have hzero : y.hsc.energized = 0 := by simp [hy, PocketState.segmentFailed]
      omega
    · intro q
      have := hgain q
      rwa [State.port_setPocket] at this
    · rw [State.secondsCount_setPocket] at hlist
      cases cause <;> exact hlist

theorem DrumMotion.timerIn_of {d : DrumMotion} {m : MotionState} (h : d.state = m) (t : Option Ticks) : d.timerIn m t = t :=
  if_pos (by simpa using h)

theorem exec_accelTimeout {s : State} {p : Pocket} (hm : s.mode = .operating) {t : Ticks} (hst : (s.pocket p).dmc.state = .accel)
    (h : (s.pocket p).dmc.accelDue = some t) : exec (.accelTimeout p) s = .next ((s.reach t).failSegment p .stall) := by
  show execAccelTimeout p s = _
  unfold execAccelTimeout
  rw [State.whenOperating_operating _ _ hm, h, DrumMotion.timerIn_of hst]

theorem exec_stallTimeout {s : State} {p : Pocket} (hm : s.mode = .operating) {t : Ticks} (hst : (s.pocket p).dmc.state = .run)
    (h : (s.pocket p).dmc.stallDue = some t) : exec (.stallTimeout p) s = .next ((s.reach t).failSegment p .stall) := by
  show execStallTimeout p s = _
  unfold execStallTimeout
  rw [State.whenOperating_operating _ _ hm, h, DrumMotion.timerIn_of hst]

theorem DrumMotion.examinesDrive_iff (d : DrumMotion) :
    d.examinesDrive = true ↔ d.state = .run ∨ (d.state = .accel ∧ d.pulseDue = none) := by
  unfold DrumMotion.examinesDrive
  cases d.state <;> simp

theorem exec_drvfAssert {s : State} (hm : s.mode = .operating) (p : Pocket) :
    exec (.drvfAssert p) s = .next (if (s.pocket p).dmc.state = .run ∨ ((s.pocket p).dmc.state = .accel ∧ (s.pocket p).dmc.pulseDue = none)
      then (s.onLines p (fun l => { l with drvf := true })).failSegment p .drive else s.onLines p (fun l => { l with drvf := true })) := by
  show execDrvfAssert p s = _
  unfold execDrvfAssert
  rw [State.whenOperating_operating _ _ (by simpa using hm)]
  simp only [State.pocket_onLines, DrumMotion.examinesDrive_iff]

/-- Settles O29: every one of the four finds is the failure of the segment. -/
theorem stallsAndDriveFaultsRetryOrTrip : Obligations.StallsAndDriveFaultsRetryOrTrip := by
  unfold Obligations.StallsAndDriveFaultsRetryOrTrip
  intro p s hm
  refine ⟨?_, ?_, ?_, ?_, fun h => ?_⟩
  · rintro t b hst h rfl
    exact ⟨_, exec_accelTimeout hm hst h, State.failSegment_taken _ p .stall⟩
  · rintro t b hst h rfl
    exact ⟨_, exec_stallTimeout hm hst h, State.failSegment_taken _ p .stall⟩
  · rintro b h rfl
    refine ⟨_, ?_, State.failSegment_taken _ p .drive⟩
    rw [exec_drvfAssert hm, if_pos h]
  · rintro t b hst h rfl
    refine ⟨_, ?_, State.failSegment_taken _ p .drive⟩
    rw [exec_dclrPulseEnd hm h]
    simp [State.endPulse, hst]
  · rw [exec_drvfAssert hm, if_neg h]

/-! ## The full run (O30) -/

/-- The pocket at the end of a full run, before the coast or the renewal. -/
def PocketState.runFull (x : PocketState) : PocketState :=
  { x with dmc := { x.dmc with reversalCount := 0 }, tm := { x.tm with relief := false } }

/-- The pocket whose run is renewed with a pattern, for `least` ticks at least. -/
def PocketState.renewed (now least : Ticks) (l : LatchedPattern) (x : PocketState) : PocketState :=
  { x.runFull with
      dmc := { x.runFull.dmc with latched := l, segmentSince := some now, minimumRunDue := some (now + least) } }

/-- The pocket whose segment ends in the coast to the next direction. -/
def PocketState.alternated (now coast : Ticks) (x : PocketState) : PocketState :=
  { x.runFull with
      dmc := coastBegun .alternate now coast x.runFull.dmc
      rcu := { x.rcu with window := none, pulse := none }
      tm := { x.runFull.tm with reversalNotice := false }
      hsc := x.hsc.withEnergized now 0 }

theorem State.renews_iff (s : State) (p : Pocket) :
    s.renews p = true ↔ (s.pocket p).dmc.latched.reverseRun = 0 ∧ (s.patternToLatch p).reverseRun = 0
      ∧ (s.patternToLatch p).speed = (s.pocket p).dmc.latched.speed := by
  simp [State.renews, and_assoc]

theorem State.fullRun_eq (s : State) (p : Pocket) :
    s.fullRun p = (s.setPocket p (if s.renews p then
        (s.pocket p).renewed s.now (seconds (s.item p PocketItem.minimumRun)) (s.patternToLatch p)
      else (s.pocket p).alternated s.now (s.coastTicks p))).applyCap p := by
  unfold State.fullRun
  dsimp only
  congr 1
  by_cases h : s.renews p = true
  · rw [if_pos h, if_pos h]
    simp [State.renewRun, State.onDmc, State.onTm, PocketState.renewed, PocketState.runFull, State.item, State.patternToLatch,
      State.pattern, State.patternInForce, State.entry]
  · rw [if_neg h, if_neg h, State.toCoast_eq]
    simp [State.onDmc, State.onTm, PocketState.alternated, PocketState.runFull, State.coastTicks, State.item]

theorem exec_fullRun {s : State} {p : Pocket} (hm : s.mode = .operating) (hst : (s.pocket p).dmc.state = .run) {since : Ticks}
    (h : (s.pocket p).dmc.segmentSince = some since) :
    exec (.fullRun p) s = .next ((s.reach (since + seconds (s.pocket p).dmc.runTime)).fullRun p) := by
  show execFullRun p s = _
  unfold execFullRun
  rw [State.whenOperating_operating _ _ hm, DrumMotion.fullRunDue, DrumMotion.timerIn_of hst, h]
  rfl

/-- Settles O30: a change of the pocket, whose relief cap is then handed to the allocator. -/
theorem fullRunAlternatesOrRenews : Obligations.FullRunAlternatesOrRenews := by
  unfold Obligations.FullRunAlternatesOrRenews
  rintro p s b since d hm hd hst hsince hb
  subst hd
  have hbs : b = s.reach (since + seconds (s.pocket p).dmc.runTime) := hb
  have hpb : b.pocket p = s.pocket p := by rw [hbs, State.pocket_reach]
  have hlatch : b.patternToLatch p = s.patternToLatch p := by
    have hps : b.ps = s.ps := by rw [hbs]; rfl
    simp [State.patternToLatch, State.pattern, State.patternInForce, State.entry, State.item, hpb, hps]
  have hticks : b.coastTicks p = s.coastTicks p ∧ b.item p PocketItem.minimumRun = s.item p PocketItem.minimumRun := by
    rw [hbs]; exact ⟨rfl, rfl⟩
  have hrenews := b.renews_iff p
  rw [hlatch, hpb] at hrenews
  obtain ⟨y, hy⟩ : ∃ y, y = if b.renews p then
        (s.pocket p).renewed b.now (seconds (s.item p PocketItem.minimumRun)) (s.patternToLatch p)
      else (s.pocket p).alternated b.now (s.coastTicks p) := ⟨_, rfl⟩
  have hfull : b.fullRun p = (b.setPocket p y).applyCap p := by
    rw [State.fullRun_eq, hlatch, hpb, hticks.1, hticks.2, ← hy]
  have hmoves := MovesTo.applyCap p (b.setPocket p y)
  obtain ⟨k, hk⟩ := hmoves.pocket p
  rw [State.pocket_setPocket] at hk
  obtain ⟨henergized, -⟩ := HeatLowered.applyCap p (b.setPocket p y) p
  have hown : y.ce = (s.pocket p).ce ∧ SameRecords (s.pocket p) y ∧ y.me = (s.pocket p).me ∧ y.hsc.level = (s.pocket p).hsc.level := by
    rw [hy]
    split_ifs
    · exact ⟨rfl, ⟨rfl, rfl, rfl, rfl, rfl⟩, rfl, rfl⟩
    · exact ⟨rfl, ⟨rfl, rfl, rfl, rfl, rfl⟩, rfl, HeatStages.withEnergized_level ..⟩
  obtain ⟨hce, hrec, hme, hlevel⟩ := hown
  refine ⟨b.fullRun p, s.patternToLatch p, hbs ▸ exec_fullRun hm hst hsince, s.patternToLatch_latched p, ?_, ?_⟩
  · rw [hfull]
    exact (OnlyPocketAndAccount.setPocket p b y).trans (.of_moves hmoves)
  · rw [hfull, hk]
    refine ⟨hce, hrec, hme, ?_, fun h => ?_, fun h => ?_⟩
    · exact (State.applyCap_handed _ p).of_start (by simp) (by rw [State.pocket_setPocket, hpb]; exact hlevel) (by simp)
    · rw [hy, if_pos (hrenews.mpr h)]
      exact ⟨rfl, rfl, rfl⟩
    · have hzero : k.energized = 0 := by
        rw [State.pocket_setPocket, hk, hy, if_neg fun h' => h (hrenews.mp h')] at henergized
        simpa [PocketState.alternated] using henergized
      rw [hy, if_neg fun h' => h (hrenews.mp h')]
      exact ⟨rfl, rfl, rfl, hzero⟩

end Sys2Proof.Machine


/-! PROOF. The end of a wind-down (R21, R185), the ends of COAST and of DWELL (O31), and the early reversal (O32). -/

namespace Sys2Proof.Machine

/-! ## Buffers that become READY (R185) -/

theorem SampleBuffers.makeReady_made (n : BufferName) (b : SampleBuffers) : MadeReady n b (b.makeReady n) := by
  unfold MadeReady SampleBuffers.makeReady
  cases n <;>
    exact ⟨rfl, rfl, rfl, fun h => if_pos (by simpa using h), fun h => if_neg (by simpa using h), fun h => if_pos (by simpa using h),
      fun h => if_neg (by simpa using h)⟩

/-- A FILLING buffer that holds a record has become READY; otherwise the buffers stand. -/
def SampleBuffers.flushed (b : SampleBuffers) : SampleBuffers :=
  match b.fillingHeld with
  | some n => b.makeReady n
  | none => b

theorem State.flushSamples_eq (s : State) (p : Pocket) :
    s.flushSamples p = (s.setPocket p { s.pocket p with sb := (s.pocket p).sb.flushed }).postIf
      (s.pocket p).sb.fillingHeld.isSome (.samplesReady p) := by
  unfold State.flushSamples State.bufferReady SampleBuffers.flushed
  cases (s.pocket p).sb.fillingHeld with
  | some n => rfl
  | none => exact (s.setPocket_pocket p).symm

section
variable {b : SampleBuffers}

theorem SampleBuffers.fillingHeld_eq_some (h : ¬ (b.x.state = .filling ∧ b.y.state = .filling)) (n : BufferName) :
    b.fillingHeld = some n ↔ (b.buffer n).state = .filling ∧ (b.buffer n).records ≠ [] := by
  rw [← SampleBuffers.filling_eq_some h]
  unfold SampleBuffers.fillingHeld
  cases hf : b.filling with
  | none => simp
  | some m =>
    by_cases he : (b.buffer m).records = []
    · refine ⟨fun h => by simp [he] at h, ?_⟩
      rintro ⟨hm, hn⟩
      exact absurd (Option.some.inj hm ▸ he) hn
    · simp only [List.isEmpty_iff, he, if_false, Option.some.injEq]
      refine ⟨?_, fun h => h.1⟩
      rintro rfl
      exact ⟨rfl, he⟩

theorem SampleBuffers.fillingHeld_eq_none (h : ¬ (b.x.state = .filling ∧ b.y.state = .filling)) :
    b.fillingHeld = none ↔ ∀ n, (b.buffer n).state = .filling → (b.buffer n).records = [] := by
  rw [Option.eq_none_iff_forall_ne_some]
  refine forall_congr' fun n => ?_
  rw [Ne, SampleBuffers.fillingHeld_eq_some h]
  tauto

/-- Once flushed no buffer that fills holds a record. -/
theorem SampleBuffers.fillingHeld_flushed (h : ¬ (b.x.state = .filling ∧ b.y.state = .filling))
    (hfree : ∀ n, (b.buffer n).state = .free → (b.buffer n).records = []) : b.flushed.fillingHeld = none := by
  unfold SampleBuffers.flushed
  cases hb : b.fillingHeld with
  | none => exact hb
  | some n =>
    obtain ⟨hfill, -⟩ := (SampleBuffers.fillingHeld_eq_some h n).mp hb
    obtain ⟨hn, -, -, hopens, hstays, -⟩ := b.makeReady_made n
    have hother : (b.buffer n.other).state ≠ .filling := fun ho => h (by cases n <;> exact ⟨by assumption, by assumption⟩)
    have hempty : ((b.makeReady n).buffer n.other).state = .filling → ((b.makeReady n).buffer n.other).records = [] := by
      by_cases ho : (b.buffer n.other).state = .free
      · rw [hopens ho]
        exact fun _ => hfree _ ho
      · rw [hstays ho]
        exact fun hf => absurd hf hother
    have hready : ((b.makeReady n).buffer n).state = .ready := by rw [hn]
    refine (SampleBuffers.fillingHeld_eq_none ?_).mpr fun m hm => ?_
    · rintro ⟨hx, hy⟩
      cases n
      · exact absurd (hready.symm.trans hx) (by decide)
      · exact absurd (hready.symm.trans hy) (by decide)
    · cases n <;> cases m
      · exact absurd (hready.symm.trans hm) (by decide)
      · exact hempty hm
      · exact hempty hm
      · exact absurd (hready.symm.trans hm) (by decide)

end

/-! ## The end of a wind-down (R21, R24) -/

section
variable {b : State} {p : Pocket} {y : PocketState}

/-- What an end of the wind-down waits for. -/
def PocketState.windDownOver (x : PocketState) : Prop := x.ce.windingDown = true ∧ x.ce.runOnSince = none ∧ x.dmc.state = .stopped

theorem State.finishWindDown_still (h : ¬ (b.pocket p).windDownOver) : b.finishWindDown p = b := by
  unfold State.finishWindDown
  exact if_neg fun hc => h (by simpa [PocketState.windDownOver, and_assoc] using hc)

/-- The pocket whose wind-down has ended with a result record. -/
def PocketState.windDownEnded (r : CycleResult) (x : PocketState) : PocketState :=
  { x with
      ce := { x.ce with
        result := some r, windingDown := false, state := if x.ce.state = .windingDown then .idle else x.ce.state }
      sb := x.sb.flushed }

theorem State.finishWindDown_over (h : (b.pocket p).windDownOver) :
    b.finishWindDown p = ((b.setPocket p ((b.pocket p).windDownEnded (b.resultNow p))).postIf
      (b.pocket p).sb.fillingHeld.isSome (.samplesReady p)).post (.cycleEnd p) := by
  obtain ⟨hw, hr, hs⟩ := h
  simp [State.finishWindDown, hw, hr, hs, State.flushSamples_eq, State.onCe, PocketState.windDownEnded]

theorem OnlyPocketAndLatches.refl (p : Pocket) (s : State) : OnlyPocketAndLatches p s s :=
  ⟨⟨rfl, rfl, rfl, rfl, rfl, rfl, rfl⟩, rfl, rfl, fun _ => rfl⟩

theorem OnlyPocketAndLatches.postIf (p : Pocket) (s : State) (c : Bool) (k : EventKind) : OnlyPocketAndLatches p s (s.postIf c k) := by
  unfold State.postIf
  split
  · exact .post p s k
  · exact .refl p s

/-- What the end of a wind-down leaves alone, whether it ends or not. -/
theorem State.finishWindDown_kept (b : State) (p : Pocket) :
    OnlyPocketAndLatches p b (b.finishWindDown p)
      ∧ ∃ c sb, (b.finishWindDown p).pocket p = { b.pocket p with ce := c, sb := sb }
        ∧ c = { (b.pocket p).ce with result := c.result, windingDown := c.windingDown, state := c.state } := by
  by_cases h : (b.pocket p).windDownOver
  · rw [State.finishWindDown_over h]
    refine ⟨((OnlyPocketAndLatches.setPocket p b _).trans (.postIf p _ _ _)).trans (.post p _ _), _, _,
      by rw [State.pocket_post, State.pocket_postIf, State.pocket_setPocket]; rfl, rfl⟩
  · rw [State.finishWindDown_still h]
    exact ⟨.refl p b, _, _, rfl, rfl⟩

/-- The wind-down ends from a pocket that has come to STOPPED or has ended its run-on, with its counts and buffers as they stood. -/
theorem State.finishWindDown_ended (hover : y.windDownOver) (hreason : (b.pocket p).ce.endReason ≠ none)
    (hce : y.ce = { (b.pocket p).ce with
      airflowProven := y.ce.airflowProven, closureDue := y.ce.closureDue, runOnSince := y.ce.runOnSince })
    (hme : y.me = (b.pocket p).me) (hmeter : y.meter = (b.pocket p).meter) (hsb : y.sb = (b.pocket p).sb)
    (hone : ¬ ((b.pocket p).sb.x.state = .filling ∧ (b.pocket p).sb.y.state = .filling))
    (hfree : ∀ n, ((b.pocket p).sb.buffer n).state = .free → ((b.pocket p).sb.buffer n).records = []) :
    WindDownEnded p b ((b.setPocket p y).finishWindDown p) := by
  obtain ⟨reason, hreason⟩ := Option.ne_none_iff_exists'.mp hreason
  set v := b.setPocket p y with hv
  have hpv : v.pocket p = y := State.pocket_setPocket b p y
  rw [State.finishWindDown_over (by rw [hpv]; exact hover), hpv, hv, State.setPocket_setPocket, ← hv, hsb]
  set held := (b.pocket p).sb.fillingHeld with hheld
  obtain ⟨z, hz⟩ : ∃ z, z = y.windDownEnded (v.resultNow p) := ⟨_, rfl⟩
  rw [← hz]
  have hpu : (((b.setPocket p z).postIf held.isSome (.samplesReady p)).post (.cycleEnd p)).pocket p = z := by
    rw [State.pocket_post, State.pocket_postIf, State.pocket_setPocket]
  have hstateBefore : y.ce.state = (b.pocket p).ce.state := by rw [hce]
  have hresult : v.resultNow p = {
      endReason := reason, runningSeconds := b.totalRunning p, phasesCompleted := (b.pocket p).ce.phasesCompleted, lastDryEnd := (b.pocket p).ce.lastDryEnd,
      finalIndex := (b.pocket p).me.index, energy := (b.pocket p).meter.cycleEnergy, hotExit := (b.pocket p).ce.hotExit } := by
    have hticks : v.totalRunning p = b.totalRunning p := by
      unfold State.totalRunning State.phaseElapsed State.phaseTicks
      rw [hpv, hce]
      simp [hv]
    unfold State.resultNow
    rw [hpv, hticks, hme, hmeter, hce]
    simp [hreason]
  have hmoves : MovesTo (b.setPocket p z) ((b.setPocket p z).postIf held.isSome (.samplesReady p)) := .postIf _ _ _
  have hmask : ∀ q, (((b.setPocket p z).postIf held.isSome (.samplesReady p)).port q).mask = (b.port q).mask := fun q => by
    obtain ⟨l, hl⟩ := hmoves.port q
    rw [hl]
    simp
  refine ⟨⟨reason, hreason, ?_⟩, ?_, fun h => ?_, fun h => ?_, ?_, ?_, fun n hfill hrec => ⟨?_, ?_⟩, fun hempty => ?_⟩
  · rw [hpu, hz, hresult]
    rfl
  · rw [hpu, hz]
    rfl
  · rw [hpu, hz]
    exact if_pos (hstateBefore.trans h)
  · rw [hpu, hz]
    exact (if_neg (by rw [hstateBefore]; exact h)).trans hstateBefore
  · rw [hpu, hz]
    exact (congrArg (·.flushed.fillingHeld) hsb).trans (SampleBuffers.fillingHeld_flushed hone hfree)
  · exact .post hmask fun q => by simpa using hmoves.latches q
  · have hn : held = some n := (SampleBuffers.fillingHeld_eq_some hone n).mpr ⟨hfill, hrec⟩
    rw [hpu, hz]
    show MadeReady n (b.pocket p).sb y.sb.flushed
    rw [hsb, SampleBuffers.flushed, ← hheld, hn]
    exact SampleBuffers.makeReady_made n _
  · have hn : held = some n := (SampleBuffers.fillingHeld_eq_some hone n).mpr ⟨hfill, hrec⟩
    rw [hn]
    have hgain : LatchesGain (.samplesReady p) b ((b.setPocket p z).post (.samplesReady p)) := .post (by simp) (by simp)
    exact hgain.keep fun q => (MovesTo.post (.cycleEnd p) _).latches q
  · have hn : held = none := (SampleBuffers.fillingHeld_eq_none hone).mpr hempty
    rw [hpu, hz]
    show y.sb.flushed = _
    rw [hsb, SampleBuffers.flushed, ← hheld, hn]

end

/-! ## The ends of COAST and of DWELL (O31) -/

theorem exec_coastEnd {s : State} {p : Pocket} (hm : s.mode = .operating) (hst : (s.pocket p).dmc.state = .coast) {quiet coast : Ticks}
    (hq : (s.pocket p).dmc.quietDue = some quiet) (hc : (s.pocket p).dmc.coastDue = some coast) :
    exec (.coastEnd p) s = .next ((s.reach (min quiet coast)).endCoast p) := by
  show execCoastEnd p s = _
  unfold execCoastEnd
  rw [State.whenOperating_operating _ _ hm, DrumMotion.coastEnd, DrumMotion.timerIn_of hst, hq, hc]
  rfl

/-- The pocket whose drum has come to STOPPED from a coast. -/
def PocketState.coastStopped (x : PocketState) : PocketState :=
  { x with dmc := { x.dmc with state := .stopped, purpose := none, quietDue := none, coastDue := none, dwellDue := none } }

theorem State.enterStopped_eq (s : State) (p : Pocket) :
    s.enterStopped p = s.setPocket p (if (s.pocket p).dmc.pendingStart = true ∧ (s.pocket p).lines.doorClosed = true then
      (s.pocket p).coastStopped.accelerated .forward s.now (s.patternToLatch p) else (s.pocket p).coastStopped) := by
  have hlatch : (s.setPocket p (s.pocket p).coastStopped).patternToLatch p = s.patternToLatch p := by
    simp [State.patternToLatch, State.pattern, State.patternInForce, State.entry, State.item, PocketState.coastStopped]
  have hstopped : s.onDmc p (fun d =>
      { d with state := .stopped, purpose := none, quietDue := none, coastDue := none, dwellDue := none })
      = s.setPocket p (s.pocket p).coastStopped := rfl
  unfold State.enterStopped
  simp only [hstopped, State.enterAccel_eq, hlatch, Bool.and_eq_true]
  split_ifs <;> simp

/-- The coast ends: DWELL is entered, or STOPPED with what waited for it. -/
theorem coastEndsInDwellOrStopped : CoastEndsInDwellOrStopped := by
  intro p s b quiet coast hm hst hq hc hb
  have hpb : b.pocket p = s.pocket p := by rw [hb, State.pocket_reach]
  have hlatched : PatternLatched p b (b.patternToLatch p) := b.patternToLatch_latched p
  refine ⟨b.endCoast p, hb ▸ exec_coastEnd hm hst hq hc, ?_⟩
  by_cases hstop : (s.pocket p).dmc.purpose = some .stop
  · have hend : b.endCoast p = (b.setPocket p (if (s.pocket p).dmc.pendingStart = true ∧ (s.pocket p).lines.doorClosed = true then
        (s.pocket p).coastStopped.accelerated .forward b.now (b.patternToLatch p) else (s.pocket p).coastStopped)).finishWindDown p := by
      rw [State.endCoast, if_pos (by rw [hpb, hstop]; rfl), State.enterStopped_eq, hpb]
    by_cases hstart : (s.pocket p).dmc.pendingStart = true ∧ (s.pocket p).lines.doorClosed = true
    · rw [if_pos hstart, State.finishWindDown_still] at hend
      · rw [hend, State.pocket_setPocket]
        exact ⟨.setPocket p b _, rfl, rfl, rfl, rfl, rfl, rfl, fun h => absurd hstop h,
          fun _ _ _ => ⟨PocketState.accelerated_entered (z := (s.pocket p).coastStopped) hlatched ⟨rfl, rfl, rfl⟩ rfl rfl rfl, rfl⟩,
          fun _ h => absurd hstart h⟩
      · rw [State.pocket_setPocket]
        rintro ⟨-, -, h⟩
        cases h
    · rw [if_neg hstart] at hend
      obtain ⟨honly, c, sb, hpu, hce⟩ := State.finishWindDown_kept (b.setPocket p (s.pocket p).coastStopped) p
      rw [← hend, State.pocket_setPocket] at hpu
      rw [← hend] at honly
      have hstill : ¬ (s.pocket p).coastStopped.windDownOver → b.endCoast p = b.setPocket p (s.pocket p).coastStopped := fun h => by
        rw [hend, State.finishWindDown_still (by rw [State.pocket_setPocket]; exact h)]
      refine ⟨(OnlyPocketAndLatches.setPocket p b _).trans honly, by rw [hpu]; rfl, by rw [hpu]; rfl, by rw [hpu]; rfl,
        by rw [hpu]; rfl, by rw [hpu]; rfl, by rw [hpu]; rfl, fun h => absurd hstop h, fun _ h h' => absurd ⟨h, h'⟩ hstart,
        fun _ _ => ⟨by rw [hpu]; rfl, by rw [hpu]; rfl, by rw [hpu]; rfl, by rw [hpu]; rfl, fun hw => ?_, fun _ hr => ?_,
          fun hw hr hreason hone hfree => ?_⟩⟩
      · rw [hstill fun h => absurd (hw.symm.trans h.1) (by decide), State.pocket_setPocket]
        exact ⟨rfl, rfl⟩
      · rw [hstill fun h => hr h.2.1, State.pocket_setPocket]
        exact ⟨rfl, rfl⟩
      · rw [hend]
        refine State.finishWindDown_ended ⟨hw, hr, rfl⟩ ?_ ?_ ?_ ?_ ?_ ?_ ?_ <;> rw [hpb]
        · exact hreason
        · rfl
        · rfl
        · rfl
        · rfl
        · exact hone
        · exact hfree
  · have hend : b.endCoast p = b.enterDwell p := by
      rw [State.endCoast, if_neg]
      rw [hpb]
      simpa using hstop
    have hdwell : b.enterDwell p = b.setPocket p { s.pocket p with dmc := { (s.pocket p).dmc with
        state := .dwell, quietDue := none, coastDue := none,
        dwellDue := some (b.now + seconds (s.item p (PocketItem.dwell (s.pattern p)))) } } := by
      subst hb
      simp [State.enterDwell, State.onDmc, State.item, State.pattern, State.patternInForce, State.entry]
    rw [hend, hdwell, State.pocket_setPocket]
    exact ⟨.setPocket p b _, rfl, rfl, rfl, rfl, rfl, rfl, fun _ => ⟨rfl, rfl, rfl, rfl, rfl⟩, fun h => absurd h hstop, fun h => absurd h hstop⟩

theorem exec_dwellEnd {s : State} {p : Pocket} (hm : s.mode = .operating) (hst : (s.pocket p).dmc.state = .dwell) {t : Ticks}
    (h : (s.pocket p).dmc.dwellDue = some t) : exec (.dwellEnd p) s = .next ((s.reach t).endDwell p) := by
  show execDwellEnd p s = _
  unfold execDwellEnd
  rw [State.whenOperating_operating _ _ hm, DrumMotion.timerIn_of hst, h]

/-- The dwell ends with DOOR closed: ACCEL, in the direction of R30. -/
theorem dwellEndsInAccel : DwellEndsInAccel := by
  rintro p s b t hm hst ht hdoor rfl
  set b := s.reach t with hb
  have hpb : b.pocket p = s.pocket p := State.pocket_reach s t p
  have hend : b.endDwell p = b.setPocket p ((s.pocket p).accelerated (b.directionAfterDwell p) b.now (b.patternToLatch p)) := by
    rw [State.endDwell, hpb, if_pos hdoor, State.enterAccel_eq, hpb]
  refine ⟨b.endDwell p, b.directionAfterDwell p, exec_dwellEnd hm hst ht, ?_⟩
  have hlatched : PatternLatched p b (b.patternToLatch p) := b.patternToLatch_latched p
  rw [hend, State.pocket_setPocket]
  refine ⟨?_, PocketState.accelerated_entered (z := s.pocket p) hlatched ⟨rfl, rfl, rfl⟩ rfl rfl rfl, rfl, rfl, rfl,
    ⟨rfl, rfl, rfl, rfl, rfl⟩, ?_⟩
  · rw [OnlyPocket, State.pocket_setPocket]
  · have hitem : b.item p (PocketItem.reverseRun (b.pattern p)) = s.item p (PocketItem.reverseRun (s.pattern p)) := by
      simp [State.item, State.pattern, State.patternInForce, State.entry, hb]
    unfold State.directionAfterDwell
    rw [hitem, hpb]
    by_cases hrun : s.item p (PocketItem.reverseRun (s.pattern p)) = 0
    · rw [if_neg (by omega), if_pos hrun]
    · rw [if_pos (by omega), if_neg hrun]
      cases (s.pocket p).dmc.purpose with
      | none => cases (s.pocket p).dmc.direction <;> rfl
      | some u => cases u <;> cases (s.pocket p).dmc.direction <;> rfl

/-- Settles O31. -/
theorem coastAndDwellEnd : Obligations.CoastAndDwellEnd := ⟨coastEndsInDwellOrStopped, dwellEndsInAccel⟩

/-! ## The early reversal (O32) -/

theorem exec_earlyReversal {s : State} (hm : s.mode = .operating) (p : Pocket) :
    exec (.earlyReversal p) s = .next (if (s.pocket p).dmc.takesReversal
      then (s.onTm p (fun t => { t with reversalNotice := false })).reverseEarly p
      else s.onTm p (fun t => { t with reversalNotice := false })) := by
  show execEarlyReversal p s = _
  unfold execEarlyReversal
  rw [State.whenOperating_operating _ _ hm]

theorem DrumMotion.takesReversal_iff (d : DrumMotion) :
    d.takesReversal = true ↔ d.state = .run ∧ d.latched.response = true ∧ 0 < d.latched.reverseRun := by
  simp [DrumMotion.takesReversal, and_assoc]

/-- The pocket as an early reversal is taken, before the third is told. -/
def PocketState.reversed (now coast : Ticks) (x : PocketState) : PocketState :=
  { x with
      dmc := coastBegun .alternate now coast { x.dmc with reversalCount := min 255 (x.dmc.reversalCount + 1) }
      rcu := { x.rcu with window := none, pulse := none }
      tm := { x.tm with reversalNotice := false }
      hsc := x.hsc.withEnergized now 0 }

theorem State.reverseEarly_eq (b : State) (p : Pocket) :
    b.reverseEarly p = if (b.pocket p).dmc.reversalCount = 2
      then (b.setPocket p ((b.pocket p).reversed b.now (b.coastTicks p))).tanglePersists p
      else b.setPocket p ((b.pocket p).reversed b.now (b.coastTicks p)) := by
  unfold State.reverseEarly
  rw [State.toCoast_eq]
  simp [State.onDmc, PocketState.reversed, State.coastTicks, State.item]

/-- The pocket in which TANGLE_PERSIST is listed and relief is in force. -/
def PocketState.relieved (seconds : Nat) (x : PocketState) : PocketState :=
  { x with tm := { x.tm with relief := true }, fl := (x.fl.take x.ce.faultPhase seconds .tanglePersist none).1 }

theorem State.tanglePersists_eq (s : State) (p : Pocket) :
    s.tanglePersists p = (((s.setPocket p ((s.pocket p).relieved s.secondsCount)).postIf
      ((s.pocket p).fl.take (s.pocket p).ce.faultPhase s.secondsCount .tanglePersist none).2 (.fault p)).post
        (.tanglePersist p)).applyCap p := by
  have htold : (s.onTm p (fun t => { t with relief := true })).secondsCount = s.secondsCount := State.secondsCount_setPocket ..
  unfold State.tanglePersists State.report
  simp only [htold, State.pocket_onTm]
  simp [State.onTm, State.onFl, PocketState.relieved, isTrip, classOfFault]

/-- An early reversal in RUN: a change of the pocket, and at the third the warning, its event, and the relief cap handed on. -/
theorem earlyReversalIsTakenInRun : EarlyReversalIsTakenInRun := by
  intro p s b hm hb
  have hpb : b.pocket p = { s.pocket p with tm := { (s.pocket p).tm with reversalNotice := false } } := by rw [hb, State.pocket_onTm]
  have hnow : b.now = s.now := by rw [hb]; simp
  have hticks : b.coastTicks p = s.coastTicks p := by rw [hb]; simp [State.coastTicks, State.item]
  refine ⟨fun h => ?_, fun hst hresponse hreverse => ⟨b.reverseEarly p, ?_, ?_⟩⟩
  · rw [exec_earlyReversal hm, if_neg, hb]
    rw [DrumMotion.takesReversal_iff]
    rintro ⟨h1, h2, h3⟩
    rcases h with h | h | h
    · exact h h1
    · exact absurd (h.symm.trans h2) (by decide)
    · omega
  · rw [exec_earlyReversal hm, if_pos ((DrumMotion.takesReversal_iff _).mpr ⟨hst, hresponse, hreverse⟩), ← hb]
  · obtain ⟨y, hy⟩ : ∃ y, y = (b.pocket p).reversed b.now (b.coastTicks p) := ⟨_, rfl⟩
    have hzero : y.hsc.energized = 0 := by rw [hy]; exact HeatStages.withEnergized_energized ..
    have hdmc : y.dmc = coastBegun .alternate s.now (s.coastTicks p)
        { (s.pocket p).dmc with reversalCount := min 255 ((s.pocket p).dmc.reversalCount + 1) } := by
      rw [hy, hpb, hnow, hticks]; rfl
    have hown : y.tm = { (s.pocket p).tm with reversalNotice := false } ∧ y.rcu = { (s.pocket p).rcu with window := none, pulse := none }
        ∧ y.ce = (s.pocket p).ce ∧ y.me = (s.pocket p).me ∧ SameRecords (s.pocket p) y := by
      rw [hy, hpb]; exact ⟨rfl, rfl, rfl, rfl, rfl, rfl, rfl, rfl, rfl⟩
    obtain ⟨htm, hrcu, hce, hme, hlines, hsb, hfl, hmeter, hshed⟩ := hown
    rw [State.reverseEarly_eq, ← hy, show (b.pocket p).dmc.reversalCount = (s.pocket p).dmc.reversalCount by rw [hpb]]
    by_cases hthird : (s.pocket p).dmc.reversalCount = 2
    · rw [if_pos hthird, State.tanglePersists_eq, State.pocket_setPocket, State.secondsCount_setPocket, State.setPocket_setPocket]
      have hcount : b.secondsCount = s.secondsCount := by rw [hb]; exact State.secondsCount_setPocket ..
      rw [hcount]
      set z := y.relieved s.secondsCount with hz
      set v := b.setPocket p z with hv
      obtain ⟨w, hw⟩ : ∃ w, w = v.postIf (y.fl.take y.ce.faultPhase s.secondsCount .tanglePersist none).2 (.fault p) := ⟨_, rfl⟩
      rw [← hw]
      have hposted : MovesTo v w := by rw [hw]; exact .postIf _ _ _
      have hmoves : MovesTo (w.post (.tanglePersist p)) ((w.post (.tanglePersist p)).applyCap p) := .applyCap p _
      have hpw : (w.post (.tanglePersist p)).pocket p = z := by
        rw [hw, State.pocket_post, State.pocket_postIf, hv, State.pocket_setPocket]
      obtain ⟨k, hk⟩ := hmoves.pocket p
      obtain ⟨henergized, -⟩ := HeatLowered.applyCap p (w.post (.tanglePersist p)) p
      rw [hpw] at hk
      rw [hpw, hk] at henergized
      have honly : OnlyPocketAndAccount p b (w.post (.tanglePersist p)) :=
        (OnlyPocketAndAccount.setPocket p b z).trans (.of_moves (hposted.trans (.post _ _)))
      have hsa : (w.post (.tanglePersist p)).sa = b.sa := by
        rw [hw]
        unfold State.postIf
        split_ifs <;> simp [hv]
      have hother : (w.post (.tanglePersist p)).pocket (otherPocket p) = b.pocket (otherPocket p) := by
        rw [hw, State.pocket_post, State.pocket_postIf, hv, State.pocket_setPocket_other]
      have hlevel : ((w.post (.tanglePersist p)).pocket p).hsc.level = (b.pocket p).hsc.level := by
        rw [hpw, hz, hy]
        exact HeatStages.withEnergized_level ..
      rw [hk]
      refine ⟨honly.trans (.of_moves hmoves), hdmc, ?_, hrcu, hce, hme, ?_, ⟨hlines, hsb, hmeter, hshed⟩, fun _ => ⟨rfl, ?_, ?_, ?_⟩,
        fun h => absurd hthird h⟩
      · show { y.tm with relief := true } = _
        rw [htm]
        rfl
      · exact Nat.le_zero.mp (hzero ▸ henergized)
      · refine LatchesGain.keep (.post (fun q => ?_) fun q => ?_) fun q => hmoves.latches q
        · obtain ⟨l, hl⟩ := hposted.port q
          rw [hl]
          simp [hv]
        · simpa [hv] using hposted.latches q
      · exact (State.applyCap_handed _ p).of_start hsa hlevel hother
      · show ListTakes _ _ _ _ _ (y.fl.take y.ce.faultPhase s.secondsCount .tanglePersist none).1
        rw [hfl, hce]
        exact FaultList.take_takes ..
    · rw [if_neg hthird, State.pocket_setPocket]
      exact ⟨.setPocket p b y, hdmc, by rw [htm], hrcu, hce, hme, hzero, ⟨hlines, hsb, hmeter, hshed⟩, fun h => absurd h hthird,
        fun _ => ⟨by rw [htm], hfl, by rw [OnlyPocket, State.pocket_setPocket]⟩⟩

theorem exec_minimumRunReached {s : State} {p : Pocket} (hm : s.mode = .operating) (hst : (s.pocket p).dmc.state = .run) {t : Ticks}
    (h : (s.pocket p).dmc.minimumRunDue = some t) :
    exec (.minimumRunReached p) s = .next (((s.reach t).onDmc p (fun d => { d with minimumRunDue := none })).considerReversal p) := by
  show execMinimumRunReached p s = _
  unfold execMinimumRunReached
  rw [State.whenOperating_operating _ _ hm, DrumMotion.timerIn_of hst, h]

theorem minimumRunCallsTheReversal : MinimumRunCallsTheReversal := by
  intro p s b t since hm hst hdue hsince ht hb
  have hcalled : b.reversalCalled p = true ↔ (s.pocket p).tm.flag = true ∧ (s.pocket p).ce.state = .running
      ∧ (s.pocket p).dmc.latched.response = true ∧ 0 < (s.pocket p).dmc.latched.reverseRun := by
    have hitem : b.item p PocketItem.minimumRun = s.item p PocketItem.minimumRun := by rw [hb]; simp [State.item]
    have hlate : since + seconds (s.item p PocketItem.minimumRun) ≤ b.now := by
      rw [hb, ← ht, (State.onDmc_shared _ p _).2.2.1]
      exact Nat.le_max_right _ _
    rw [State.reversalCalled_iff, hitem, hb]
    rw [hb] at hlate
    simp only [State.pocket_onDmc, State.pocket_reach, hst, hsince, Option.some.injEq, exists_eq_left', hlate, and_true, true_and]
  rw [exec_minimumRunReached hm hst hdue, ← hb]
  refine ⟨fun h => ?_, fun h => ?_⟩
  · rw [State.considerReversal, if_pos (hcalled.mpr h)]
  · rw [State.considerReversal, if_neg (mt hcalled.mp h)]

/-- Settles O32. -/
theorem earlyReversalsAreCalledAndTaken : Obligations.EarlyReversalsAreCalledAndTaken :=
  ⟨earlyReversalIsTakenInRun, minimumRunCallsTheReversal⟩

end Sys2Proof.Machine


/-! PROOF. The contact filter (O34), and the taper and the dry hold counter at a record taken (O40). -/

namespace Sys2Proof.Machine

/-! ## The contact filter (R54, R55) -/

/-- The counter whose pulse has qualified where it has reached the width by now. -/
def RevolutionCounter.settled (now width : Ticks) (r : RevolutionCounter) : RevolutionCounter :=
  match r.pulse with
  | some u => if u.since + width ≤ now then r.qualify else r
  | none => r

theorem State.settlePulse_eq (s : State) (p : Pocket) :
    s.settlePulse p = s.onRcu p (·.settled s.now (s.contactWidth p)) := by
  have hself : ∀ f : RevolutionCounter → RevolutionCounter, f (s.pocket p).rcu = (s.pocket p).rcu → s = s.onRcu p f :=
    fun f h => (State.onRcu_eq_self h).symm
  unfold State.settlePulse
  cases hp : (s.pocket p).rcu.pulse with
  | none => exact hself _ (by simp [RevolutionCounter.settled, hp])
  | some u =>
    dsimp only
    split_ifs with hw
    · simp [State.onRcu, RevolutionCounter.settled, hp, hw]
    · exact hself _ (by simp [RevolutionCounter.settled, hp, hw])

theorem RevolutionCounter.settled_of_closed {r : RevolutionCounter} (h : r.window = none) (now width : Ticks) :
    r.settled now width = r := by
  unfold RevolutionCounter.settled RevolutionCounter.qualify
  cases r.pulse with
  | none => rfl
  | some u => simp [h]

/-- What the filter makes of a window's pulse at a moment: its contact count, its contact time, and the pulse followed on. -/
theorem RevolutionCounter.settled_contacts {r : RevolutionCounter} {w : Window} (h : r.window = some w) (now width : Ticks) :
    ∃ (count : Nat) (next : Option Pulse),
      r.settled now width = { r with window := some { w with contacts := count }, pulse := next }
      ∧ ContactsAtTheEdge now width w r.pulse count (contactTimeAt now { w with contacts := count } next) next := by
  have hkept : ∀ v, r.pulse = v → r = { r with window := some { w with contacts := w.contacts }, pulse := v } := by
    rintro v rfl
    cases r
    cases h
    rfl
  unfold RevolutionCounter.settled RevolutionCounter.qualify
  cases hp : r.pulse with
  | none =>
    exact ⟨w.contacts, none, hkept none hp, by simp [ContactsAtTheEdge, contactTimeAt, counterLimit]⟩
  | some u =>
    dsimp only
    by_cases hwide : u.since + width ≤ now
    · rw [if_pos hwide, h]
      by_cases hacc : u.accepted = true
      · refine ⟨w.contacts, some u, ?_, ?_⟩
        · simpa [hacc] using hkept (some u) hp
        · refine ⟨fun h => (by cases h), ?_, ?_, ?_⟩ <;> rintro v ⟨⟩ hv
          · exact ⟨rfl, by simp [contactTimeAt, counterLimit, hacc], rfl⟩
          · exact absurd (hacc.symm.trans hv) (by decide)
          · exact absurd (hacc.symm.trans hv) (by decide)
      · rw [Bool.not_eq_true] at hacc
        refine ⟨min (w.contacts + 1) counterLimit, some { u with accepted := true }, ?_, ?_⟩
        · simp [hacc]
        · refine ⟨fun h => (by cases h), ?_, ?_, ?_⟩ <;> rintro v ⟨⟩ hv
          · exact absurd (hacc.symm.trans hv) (by decide)
          · exact fun _ => ⟨rfl, by simp [contactTimeAt, counterLimit], rfl⟩
          · exact fun hlate => absurd hwide (not_le.mpr hlate)
    · rw [if_neg hwide]
      refine ⟨w.contacts, some u, hkept (some u) hp, fun h => (by cases h), ?_, ?_, ?_⟩ <;> rintro v ⟨⟩ hv
      · exact ⟨rfl, by simp [contactTimeAt, counterLimit, hv], rfl⟩
      · exact fun hwide' => absurd hwide' hwide
      · exact fun _ => ⟨rfl, by simp [contactTimeAt, counterLimit, hv], rfl⟩

theorem exec_wetFall {s : State} (hm : s.mode = .operating) {p : Pocket} (hwet : (s.pocket p).lines.wet = true) (n : Ticks) :
    exec (.wetFall p n) s = .next (((s.elapse n).onLines p (fun l => { l with wet := false })).wetFalls p) := by
  show execWetFall p n s = _
  unfold execWetFall
  dsimp only
  rw [if_pos (by simpa using hwet), State.whenOperating_operating _ _ (by simpa using hm)]

theorem exec_wetRise {s : State} (hm : s.mode = .operating) {p : Pocket} (hwet : (s.pocket p).lines.wet = false) (n : Ticks) :
    exec (.wetRise p n) s = .next (((s.elapse n).onLines p (fun l => { l with wet := true })).wetRises p) := by
  show execWetRise p n s = _
  unfold execWetRise
  dsimp only
  rw [if_neg (by simp [hwet]), State.whenOperating_operating _ _ (by simpa using hm)]

theorem State.wetFalls_eq (s : State) (p : Pocket) :
    s.wetFalls p = s.onRcu p (fun r => (r.settled s.now (s.contactWidth p)).endPulse s.now) := by
  rw [State.wetFalls, State.settlePulse_eq]
  simp [State.onRcu]

theorem fallEndsThePulse : FallEndsThePulse := by
  intro p length s b hm hwet hb
  have hrcu : (b.pocket p).rcu = (s.pocket p).rcu := by rw [hb]; simp
  have hwidth : b.contactWidth p = s.item p PocketItem.minimumContact := by rw [hb]; simp [State.contactWidth, State.item]
  rw [exec_wetFall hm hwet, ← hb, State.wetFalls_eq, hwidth]
  refine ⟨fun w hw => ?_, fun hw => ?_⟩
  · obtain ⟨count, next, hsettled, hcontacts⟩ :=
      RevolutionCounter.settled_contacts hw b.now (s.item p PocketItem.minimumContact)
    refine ⟨count, _, next, hcontacts, ?_⟩
    simp [State.onRcu, hrcu, hsettled, RevolutionCounter.endPulse]
  · simp [State.onRcu, hrcu, RevolutionCounter.settled_of_closed hw, RevolutionCounter.endPulse, hw]

theorem pulseQualifiesAtTheWidth : PulseQualifiesAtTheWidth := by
  rintro p s b w since hm hw rfl
  have hexec : ∀ u, (s.pocket p).rcu.pulse = some u → exec (.contactQualified p) s
      = .next (if u.accepted then s else (s.reach (u.since + s.contactWidth p)).onRcu p (·.qualify)) := by
    intro u hu
    show execContactQualified p s = _
    unfold execContactQualified
    rw [State.whenOperating_operating _ _ hm, hu]
  refine ⟨fun hp => ?_, fun hp => hexec _ hp⟩
  rw [hexec _ hp]
  simp [State.onRcu, RevolutionCounter.qualify, hw, hp, counterLimit, State.contactWidth]

/-- A pulse from its rise to its fall: the contact that the fall of WET ends, measured from the rise. -/
theorem pulsesOfTheWidthAreContacts : PulsesOfTheWidthAreContacts := by
  intro p before length s hm hdry
  obtain ⟨c, hc⟩ : ∃ c, c = (s.elapse before).onLines p (fun l => { l with wet := true }) := ⟨_, rfl⟩
  have hpc : c.pocket p = { s.pocket p with lines := { (s.pocket p).lines with wet := true } } := by rw [hc]; simp
  have hlines : ({ (s.pocket p).lines with wet := false } : PocketLines) = (s.pocket p).lines := by rw [← hdry]
  refine ⟨fun w hw hroom hcount hopen => ?_, fun hw hp => ?_⟩
  · obtain ⟨t, ht⟩ : ∃ t, t = c.onRcu p (fun r => { r with pulse := some { since := c.now, accepted := false } }) := ⟨_, rfl⟩
    have hrise : exec (.wetRise p before) s = .next t := by
      rw [exec_wetRise hm hdry, ← hc, State.wetRises, if_pos (by rw [hpc]; simp [hw]), ht]
    have hpt : t.pocket p = { c.pocket p with rcu := { (c.pocket p).rcu with pulse := some { since := c.now, accepted := false } } } := by
      rw [ht, State.pocket_onRcu]
    have hnow : c.now = s.now + before := by rw [hc]; simp
    have hitem : t.item p PocketItem.minimumContact = s.item p PocketItem.minimumContact := by rw [ht, hc]; simp [State.item]
    obtain ⟨d, hd⟩ : ∃ d, d = (t.elapse length).onLines p (fun l => { l with wet := false }) := ⟨_, rfl⟩
    have hdnow : d.now = s.now + before + length := by rw [hd, ht]; simp [hnow]
    have hmt : t.mode = .operating := by rw [ht, hc]; simpa using hm
    obtain ⟨count, time, next, hcontacts, hfall⟩ := (fallEndsThePulse p length t d hmt (by rw [hpt, hpc]) hd).1 w
      (by rw [hpt, hpc]; exact hw)
    have hd' : d = (s.elapse (before + length)).setPocket p { s.pocket p with
        rcu := { (s.pocket p).rcu with pulse := some { since := c.now, accepted := false } } } := by
      rw [hd, ht, hc]
      cases p <;> simp [State.onRcu, State.onLines, State.setPocket, State.pocket, State.elapse, Nat.add_assoc] <;> exact hlines
    have hend : d.onRcu p (fun r => { r with window := some { w with contacts := count, contactTicks := time }, pulse := none })
        = (s.elapse (before + length)).setPocket p { s.pocket p with
          rcu := { (s.pocket p).rcu with window := some { w with contacts := count, contactTicks := time }, pulse := none } } := by
      rw [hd']
      simp [State.onRcu]
    rw [hend] at hfall
    rw [hpt, hitem, hdnow] at hcontacts
    obtain ⟨-, -, hwide, hshort⟩ := hcontacts
    refine ⟨t, _, hrise, hfall, ?_, ?_, ?_, fun hle => ?_, fun hlt => ?_⟩
    · rw [OnlyPocket, State.pocket_setPocket]
    · rw [State.pocket_setPocket]
    · rw [State.pocket_setPocket]
    · obtain ⟨h1, h2, -⟩ := hwide _ rfl rfl (hnow ▸ Nat.add_le_add_left hle _)
      have hlength : s.now + before + length - max c.now w.openedAt = length := by
        rw [Nat.max_eq_left (by rw [hnow]; exact le_trans hopen (Nat.le_add_right _ _)), hnow]
        exact Nat.add_sub_cancel_left ..
      have hticks : time = w.contactTicks + length := h2.trans (by rw [hlength]; exact Nat.min_eq_left hroom)
      have hcounted : count = w.contacts + 1 := h1.trans (Nat.min_eq_left hcount)
      rw [State.pocket_setPocket, hcounted, hticks]
    · obtain ⟨h1, h2, -⟩ := hshort _ rfl rfl (hnow ▸ Nat.add_lt_add_left hlt _)
      have hticks : time = w.contactTicks := h2.trans (Nat.min_eq_left (le_trans (Nat.le_add_right _ _) hroom))
      rw [State.pocket_setPocket, h1, hticks]
  · have hrise : exec (.wetRise p before) s = .next c := by
      rw [exec_wetRise hm hdry, ← hc, State.wetRises, if_neg (by rw [hpc]; simp [hw])]
    have hmc : c.mode = .operating := by rw [hc]; simpa using hm
    refine ⟨c, hrise, ((fallEndsThePulse p length c _ hmc (by rw [hpc]) rfl).2 (by rw [hpc]; exact hw)).trans ?_⟩
    have hrcu : ({ (s.pocket p).rcu with pulse := none } : RevolutionCounter) = (s.pocket p).rcu := by rw [← hp]
    rw [hc]
    have hwhole : ({ s.pocket p with
        lines := { (s.pocket p).lines with wet := false }, rcu := { (s.pocket p).rcu with pulse := none } } : PocketState) = s.pocket p := by rw [hrcu, hlines]
    cases p <;> simp only [State.onRcu, State.onLines, State.setPocket, State.pocket, State.elapse, Nat.add_assoc] at hwhole ⊢ <;>
      rw [hwhole]

/-- Settles O34. -/
theorem contactFilterCountsWidePulses : Obligations.ContactFilterCountsWidePulses :=
  ⟨pulsesOfTheWidthAreContacts, pulseQualifiesAtTheWidth, fallEndsThePulse⟩

/-! ## The taper and the dry hold counter (O40) -/

/-- A record counts for the dry hold: RUNNING in a HEAT_DRY phase, the tangle flag clear (R78). -/
def State.countsHold (s : State) (p : Pocket) (e : PhaseEntry) : Bool :=
  (s.pocket p).ce.state == .running && e.kind == .heatDry && !(s.pocket p).tm.flag

/-- The estimator after a record whose index is `i`, with the hold counter, the notice and the taper it comes to. -/
theorem State.takeMoisture_eq {s : State} {p : Pocket} {e : PhaseEntry} (he : s.entry p = some e) (period contactTime : Nat)
    (te ti : Int) :
    ∃ (i hold : Nat) (m : Estimator),
      hold = (if s.countsHold p e then holdAfter (s.pocket p).me.hold i e.dryness else (s.pocket p).me.hold)
      ∧ m.index = some i ∧ m.hold = hold ∧ m.taperCap = taperBeside (s.item p PocketItem.taperMargin) e (some i)
      ∧ m.dryNotice = (if s.countsHold p e = true ∧ e.hold ≤ hold then (s.pocket p).ce.index else (s.pocket p).me.dryNotice)
      ∧ s.takeMoisture p period contactTime te ti = (s.setPocket p { s.pocket p with me := m }).applyCap p := by
  have htaken : ∀ f : Estimator → Estimator, (s.onMe p f).updateTaper p = s.setPocket p { s.pocket p with
      me := { f (s.pocket p).me with taperCap := taperBeside (s.item p PocketItem.taperMargin) e (f (s.pocket p).me).index } } := by
    intro f
    rw [State.updateTaper_eq _ p e (by simpa [State.entry] using he)]
    simp [State.onMe, State.item]
  simp only [State.takeMoisture, he]
  rw [htaken]
  refine ⟨_, _, _, rfl, rfl, rfl, rfl, ?_, rfl⟩
  exact if_congr (by rw [Bool.and_eq_true, decide_eq_true_iff]; rfl) rfl rfl

/-- Settles O40. -/
theorem dryHoldCountsInHeatDry : Obligations.DryHoldCountsInHeatDry := by
  intro p s u e period c te ti he hu
  obtain ⟨i, hold, m, hhold, hindex, hmhold, htaper, hnotice, heq⟩ := State.takeMoisture_eq he period c te ti
  have hme : (u.pocket p).me = m := by
    rw [hu, heq, (MovesTo.applyCap p _).me p, State.pocket_setPocket]
  have hcounts : s.countsHold p e = true ↔ (s.pocket p).ce.state = .running ∧ e.kind = .heatDry ∧ (s.pocket p).tm.flag = false := by
    simp [State.countsHold, and_assoc]
  rw [hme, hindex, hmhold, htaper, hnotice]
  refine ⟨rfl, ?_, fun h => ?_, fun h => ?_⟩
  · rw [hu, heq]
    exact (State.applyCap_handed _ p).of_start (by simp) (by simp) (by simp)
  · rw [if_pos (hcounts.mpr h), holdAfter] at hhold
    refine ⟨i, rfl, fun hi => ?_, fun hi => ?_, fun hr => ?_, fun hr => ?_⟩
    · rw [hhold, if_pos hi]
    · rw [hhold, if_neg (by omega)]
    · exact if_pos ⟨hcounts.mpr h, hr⟩
    · exact if_neg fun hc => by omega
  · have hnot : ¬ s.countsHold p e = true := mt hcounts.mp h
    rw [if_neg hnot] at hhold
    exact ⟨hhold, if_neg fun hc => hnot hc.1⟩

end Sys2Proof.Machine


/-! PROOF. An IDX edge in RUN: the record it completes, and whom it is handed to (O35, O36). -/

namespace Sys2Proof.Machine

/-! ## The drum and the counter have no say in the account

The evidence of a record is worked in a state in which the drum and the counter have taken the edge already. It is the same as in the
state before: the account's operations read no more of the two than the motion state, the latched pattern and the segment timer. -/

/-- A pocket with the drum and the counter of another, but for what the account and the tangle monitor read of the drum. -/
def PocketState.grafted (x y : PocketState) : PocketState :=
  { x with
      dmc := { y.dmc with state := x.dmc.state, latched := x.dmc.latched, segmentSince := x.dmc.segmentSince }
      rcu := y.rcu }

/-- The state with a pocket's drum and counter so replaced. -/
def State.grafted (p : Pocket) (y : PocketState) (s : State) : State := s.setPocket p ((s.pocket p).grafted y)

section
variable (s : State) (p r : Pocket) (y : PocketState)

theorem State.onHsc_grafted (f : HeatStages → HeatStages) : (s.grafted p y).onHsc r f = (s.onHsc r f).grafted p y := by
  cases p <;> cases r <;> rfl

theorem State.post_grafted (k : EventKind) : (s.grafted p y).post k = (s.post k).grafted p y := by cases p <;> rfl

theorem State.withLists_grafted (gs : List Grant) (rs : List StageRequest) :
    (s.grafted p y).withLists gs rs = (s.withLists gs rs).grafted p y := by cases p <;> rfl

theorem State.grafted_reads : (s.grafted p y).now = s.now ∧ (s.grafted p y).ps = s.ps ∧ (s.grafted p y).sa = s.sa
    ∧ ((s.grafted p y).pocket r).hsc = (s.pocket r).hsc ∧ ((s.grafted p y).pocket r).ce = (s.pocket r).ce
    ∧ ((s.grafted p y).pocket r).me = (s.pocket r).me ∧ ((s.grafted p y).pocket r).tm = (s.pocket r).tm := by
  cases p <;> cases r <;> exact ⟨rfl, rfl, rfl, rfl, rfl, rfl, rfl⟩

theorem State.heatTarget_grafted : (s.grafted p y).heatTarget r = s.heatTarget r := by cases p <;> cases r <;> rfl

theorem State.effectiveCap_grafted : (s.grafted p y).effectiveCap r = s.effectiveCap r := by cases p <;> cases r <;> rfl

theorem State.dropE_grafted : (s.grafted p y).dropE r = (s.dropE r).grafted p y := by
  rw [State.dropE, State.heatTarget_grafted, State.onHsc_grafted, (s.grafted_reads p r y).1]
  rfl

theorem State.keepAsked_grafted (n : Nat) : (s.grafted p y).keepAsked r n = (s.keepAsked r n).grafted p y := by
  have hran : (s.grafted p y).holdRanOut r = s.holdRanOut r := by cases p <;> cases r <;> rfl
  obtain ⟨-, -, -, hhsc, -⟩ := s.grafted_reads p r y
  rw [State.keepAsked, hran, State.onHsc_grafted, hhsc, State.keepAsked]
  split_ifs <;> rfl

theorem State.considerHold_grafted (c : Bool) : (s.grafted p y).considerHold r c = (s.considerHold r c).grafted p y := by
  have hg : (s.grafted p y).granted r = s.granted r := by cases p <;> rfl
  obtain ⟨hnow, -⟩ := s.grafted_reads p r y
  rw [State.considerHold, State.onHsc_grafted, hnow, hg]
  rfl

theorem State.tellGranted_grafted (n : Nat) : (s.grafted p y).tellGranted r n = (s.tellGranted r n).grafted p y := by
  have hg : (s.grafted p y).granted r = s.granted r := by cases p <;> rfl
  obtain ⟨hnow, -, -, hhsc, -⟩ := s.grafted_reads p r y
  simp only [State.tellGranted, hg, hnow, hhsc, State.keepAsked_grafted, State.onHsc_grafted, State.considerHold_grafted,
    State.dropE_grafted]
  split_ifs <;> rfl

theorem State.postIf_grafted (c : Bool) (k : EventKind) : (s.grafted p y).postIf c k = (s.postIf c k).grafted p y := by
  unfold State.postIf
  rw [State.post_grafted]
  split_ifs <;> rfl

theorem State.evaluate_grafted : (s.grafted p y).evaluate = s.evaluate.grafted p y := by
  have he : (s.grafted p y).evaluated = s.evaluated := by
    refine ReadAlike.evaluated ⟨?_, ?_, ?_⟩
    · cases p <;> rfl
    · cases p <;> rfl
    · cases p <;> intro r <;> cases r <;> rfl
  have hg : ∀ r, (s.grafted p y).granted r = s.granted r := fun r => by cases p <;> rfl
  simp only [State.evaluate, he, State.withLists_grafted, hg, State.tellGranted_grafted, State.postIf_grafted]

theorem State.withdraw_grafted : (s.grafted p y).withdraw r = (s.withdraw r).grafted p y := by
  have hr : (s.grafted p y).requestOf r = s.requestOf r := by cases p <;> rfl
  obtain ⟨-, -, hsa, -⟩ := s.grafted_reads p r y
  simp only [State.withdraw, hr, hsa, State.withLists_grafted, State.evaluate_grafted]
  split_ifs <;> rfl

theorem State.applyCap_grafted : (s.grafted p y).applyCap r = (s.applyCap r).grafted p y := by
  have hg : (s.grafted p y).granted r = s.granted r := by cases p <;> rfl
  obtain ⟨-, -, hsa, -⟩ := s.grafted_reads p r y
  simp only [State.applyCap, State.effectiveCap_grafted, hg, hsa, State.withLists_grafted, State.tellGranted_grafted,
    State.evaluate_grafted, State.withdraw_grafted]
  split_ifs <;> rfl

theorem State.onTm_grafted (f : TangleMonitor → TangleMonitor) : (s.grafted p y).onTm r f = (s.onTm r f).grafted p y := by
  cases p <;> cases r <;> rfl

theorem State.onMe_grafted (f : Estimator → Estimator) : (s.grafted p y).onMe r f = (s.onMe r f).grafted p y := by
  cases p <;> cases r <;> rfl

theorem State.takeTangle_grafted (period contacts contactTime : Nat) :
    (s.grafted p y).takeTangle r period contacts contactTime = (s.takeTangle r period contacts contactTime).grafted p y := by
  have hcalled : ∀ u : State, (u.grafted p y).considerReversal r = (u.considerReversal r).grafted p y := fun u => by
    have h : (u.grafted p y).reversalCalled r = u.reversalCalled r := by cases p <;> cases r <;> rfl
    simp only [State.considerReversal, h, State.onTm_grafted]
    split_ifs <;> rfl
  have htaken : (s.grafted p y).evidenceTaken r period contacts contactTime = s.evidenceTaken r period contacts contactTime := by
    cases p <;> cases r <;> rfl
  rw [State.takeTangle_eq_considerReversal, htaken, State.onTm_grafted, hcalled, ← State.takeTangle_eq_considerReversal]

theorem State.takeMoisture_grafted (period contactTime : Nat) (te ti : Int) :
    (s.grafted p y).takeMoisture r period contactTime te ti = (s.takeMoisture r period contactTime te ti).grafted p y := by
  have hentry : (s.grafted p y).entry r = s.entry r := by cases p <;> cases r <;> rfl
  have hitem : ∀ n, (s.grafted p y).item r n = s.item r n := fun n => by cases p <;> rfl
  obtain ⟨-, -, -, -, hce, hme, htm⟩ := s.grafted_reads p r y
  have htaper : ∀ u : State, (u.grafted p y).updateTaper r = (u.updateTaper r).grafted p y := fun u => by
    have he : (u.grafted p y).entry r = u.entry r := by cases p <;> cases r <;> rfl
    have hi : ∀ n, (u.grafted p y).item r n = u.item r n := fun n => by cases p <;> rfl
    simp only [State.updateTaper, he, hi, State.onMe_grafted]
  unfold State.takeMoisture
  rw [hentry]
  cases s.entry r with
  | none => rfl
  | some e => simp only [hitem, hce, hme, htm, State.onMe_grafted, htaper, State.applyCap_grafted]

end

/-! ## The evidence of a record (R61, R62) -/

/-- The state after steps 1 and 2 of R61. -/
def State.evidence (p : Pocket) (r : RevolutionRecord) (te ti : Int) (s : State) : State :=
  if r.validity = .valid then (s.takeTangle p r.period r.contacts r.contactTime).takeMoisture p r.period r.contactTime te ti else s

theorem State.evidence_grafted (s : State) (p : Pocket) (y : PocketState) (r : RevolutionRecord) (te ti : Int) :
    (s.grafted p y).evidence p r te ti = (s.evidence p r te ti).grafted p y := by
  unfold State.evidence
  rw [State.takeTangle_grafted, State.takeMoisture_grafted]
  split_ifs <;> rfl

/-- A record taken by the estimator changes the estimator, and what the account moves. -/
theorem State.takeMoisture_kept (s : State) (p : Pocket) (period contactTime : Nat) (te ti : Int) :
    ∃ m, MovesTo (s.setPocket p { s.pocket p with me := m }) (s.takeMoisture p period contactTime te ti) := by
  cases he : s.entry p with
  | none =>
    refine ⟨(s.pocket p).me, ?_⟩
    have hs : s.takeMoisture p period contactTime te ti = s := by simp only [State.takeMoisture, he]
    rw [hs]
    exact (State.setPocket_pocket s p).symm ▸ .refl s
  | some e =>
    obtain ⟨-, -, m, -, -, -, -, -, heq⟩ := State.takeMoisture_eq he period contactTime te ti
    exact ⟨m, heq ▸ .applyCap p _⟩

/-- What the evidence of a record leaves alone: all of the pocket but its monitor, its estimator and what the account moves. -/
theorem State.evidence_kept (s : State) (p : Pocket) (r : RevolutionRecord) (te ti : Int) :
    OnlyPocketAndAccount p s (s.evidence p r te ti)
      ∧ (∀ q, (s.port q).latch &&& ((s.evidence p r te ti).port q).latch = (s.port q).latch)
      ∧ ∃ t m k, (s.evidence p r te ti).pocket p = { s.pocket p with tm := t, me := m, hsc := k } := by
  unfold State.evidence
  split_ifs
  · rw [State.takeTangle_eq_onTm]
    set t := s.onTm p _ with ht
    obtain ⟨m, hm⟩ := t.takeMoisture_kept p r.period r.contactTime te ti
    obtain ⟨k, hk⟩ := hm.pocket p
    refine ⟨(OnlyPocketAndAccount.setPocket p s _).trans ((OnlyPocketAndAccount.setPocket p t _).trans (.of_moves hm)), fun q => ?_, ?_⟩
    · simpa [ht] using hm.latches q
    · rw [hk, State.pocket_setPocket, ht, State.pocket_onTm]
      exact ⟨_, _, _, rfl⟩
  · exact ⟨(OnlyPocketAndLatches.refl p s).toPocketAndAccount, fun q => BitVec.and_self, _, _, _, rfl⟩

/-- The counter with the slip of a record taken (R62, R63). -/
def RevolutionCounter.slipTaken (limit slip : Nat) (r : RevolutionCounter) : RevolutionCounter :=
  { r with lastSlip := some slip, slipRun := if limit * 10 < slip then (if 5 ≤ r.slipRun + 1 then 0 else r.slipRun + 1) else 0 }

/-! ## The hand-on (R61) -/

/-- The pocket that has taken a record `r`: the restart count, the slip, the buffers. -/
def PocketState.recordTaken (p : Pocket) (s : State) (r : RevolutionRecord) (x : PocketState) : PocketState :=
  { x with
      dmc := if x.rcu.segmentRecords = s.item p PocketItem.settleRevolutions then { x.dmc with restartCount := 0, lastRetry := none }
        else x.dmc
      rcu := if r.validity = .valid then x.rcu.slipTaken (s.item p PocketItem.slipLimit) (recordSlip p s r.tach) else x.rcu
      sb := x.sb.recorded (s.now + seconds (s.item p PocketItem.flushTime)) r }

/-- The record makes its buffer READY. -/
def SampleBuffers.fills (flushAt : Ticks) (r : RevolutionRecord) (b : SampleBuffers) : Bool := (b.append flushAt r).fillingFull.isSome

theorem State.appendSample_eq (s : State) (p : Pocket) (r : RevolutionRecord) :
    s.appendSample p r = (s.setPocket p { s.pocket p with
        sb := (s.pocket p).sb.recorded (s.now + seconds (s.item p PocketItem.flushTime)) r }).postIf
      ((s.pocket p).sb.fills (s.now + seconds (s.item p PocketItem.flushTime)) r) (.samplesReady p) := by
  unfold State.appendSample State.bufferReady SampleBuffers.recorded SampleBuffers.fills
  simp only [State.pocket_onSb]
  cases ((s.pocket p).sb.append (s.now + seconds (s.item p PocketItem.flushTime)) r).fillingFull with
  | some n => simp [State.onSb, State.postIf]
  | none => rfl

/-- The whole hand-on: the evidence, the pocket that has taken the record, and a trip where the slip's run is complete. -/
theorem State.handOn_eq (s : State) (p : Pocket) (r : RevolutionRecord) (te ti : Int) {v : State} {r' : RevolutionRecord}
    (hv : v = s.evidence p r te ti) (hr : r' = { r with tangleFlag := (v.pocket p).tm.flag, index := (v.pocket p).me.index })
    {u : State} (hu : u = (v.setPocket p ((v.pocket p).recordTaken p s r')).postIf
      ((v.pocket p).sb.fills (s.now + seconds (s.item p PocketItem.flushTime)) r') (.samplesReady p)) :
    (SlipTrips p s r' → s.handOn p r te ti = u.report p .beltSlip none) ∧ (¬ SlipTrips p s r' → s.handOn p r te ti = u) := by
  have hkept := s.evidence_kept p r te ti
  rw [← hv] at hkept
  obtain ⟨⟨⟨-, -, hnow, -, -, -, hps⟩, -⟩, -, tm, me, k, hpv⟩ := hkept
  have hitem : ∀ n, v.item p n = s.item p n := fun n => by unfold State.item; rw [hps]
  have htaken : s.takeEvidence p r te ti = v.setPocket p { v.pocket p with
      rcu := if r'.validity = .valid then (v.pocket p).rcu.slipTaken (s.item p PocketItem.slipLimit) (recordSlip p s r'.tach)
        else (v.pocket p).rcu } := by
    have hvalid : r'.validity = r.validity := by rw [hr]
    have htach : r'.tach = r.tach := by rw [hr]
    unfold State.takeEvidence
    rw [hvalid, htach]
    by_cases h : r.validity = .valid
    · have hve : v = (s.takeTangle p r.period r.contacts r.contactTime).takeMoisture p r.period r.contactTime te ti := by
        rw [hv, State.evidence, if_pos h]
      rw [if_pos (by simpa using h), if_pos h, ← hve, State.takeSlip]
      simp only [State.onRcu, RevolutionCounter.slipTaken, hitem]
      rfl
    · rw [if_neg (by simpa using h), if_neg h]
      have hve : v = s := by rw [hv, State.evidence, if_neg h]
      rw [hve]
      exact (s.setPocket_pocket p).symm
  have hslips : (r.validity == .valid && s.slipReports p r.tach) = true ↔ SlipTrips p s r' := by
    rw [hr]
    simp only [Bool.and_eq_true, beq_iff_eq, State.slipReports, decide_eq_true_eq]
    rfl
  obtain ⟨s2, hs2⟩ : ∃ s2, s2 = (s.takeEvidence p r te ti).appendSample p { r with
      tangleFlag := ((s.takeEvidence p r te ti).pocket p).tm.flag, index := ((s.takeEvidence p r te ti).pocket p).me.index } := ⟨_, rfl⟩
  have hsettled : (if (s2.pocket p).rcu.segmentRecords == s.item p PocketItem.settleRevolutions then s2.resetRestarts p else s2) = u := by
    rw [htaken, State.pocket_setPocket] at hs2
    dsimp only at hs2
    rw [← hr, State.appendSample_eq, State.pocket_setPocket, State.setPocket_setPocket] at hs2
    have hset : ∀ n, (v.setPocket p { v.pocket p with
        rcu := if r'.validity = .valid then (v.pocket p).rcu.slipTaken (s.item p PocketItem.slipLimit) (recordSlip p s r'.tach)
          else (v.pocket p).rcu }).item p n = s.item p n := fun n => Eq.trans (by simp [State.item]) (hitem n)
    rw [hset, (State.setPocket_shared v p _).2.2.1, hnow] at hs2
    rw [hs2, State.pocket_postIf, State.pocket_setPocket, hu]
    have hcount : (if r'.validity = .valid then (v.pocket p).rcu.slipTaken (s.item p PocketItem.slipLimit) (recordSlip p s r'.tach)
          else (v.pocket p).rcu).segmentRecords = (v.pocket p).rcu.segmentRecords := by split_ifs <;> rfl
    dsimp only
    rw [hcount]
    unfold PocketState.recordTaken
    by_cases h : (v.pocket p).rcu.segmentRecords = s.item p PocketItem.settleRevolutions
    · rw [if_pos (by simpa using h), if_pos h, State.setPocket_postIf, State.setPocket_postIf]
      simp [State.resetRestarts, State.onDmc]
    · rw [if_neg (by simpa using h), if_neg h]
  have hhand : s.handOn p r te ti = if (r.validity == .valid && s.slipReports p r.tach) = true then u.report p .beltSlip none else u := by
    rw [← hsettled, hs2]
    rfl
  exact ⟨fun h => by rw [hhand, if_pos (hslips.mpr h)], fun h => by rw [hhand, if_neg (mt hslips.mp h)]⟩

/-! ## The edge (R51, R59) -/

/-- The counter in which a record is complete and the next window open (R51, R57, R60). -/
def RevolutionCounter.rolled (now : Ticks) (next : Option Pulse) (r : RevolutionRecord) (c : RevolutionCounter) : RevolutionCounter :=
  { c with
      window := some { openedAt := now, tachEdges := 0, contacts := 0, contactTicks := 0 }, pulse := next,
      segmentRecords := min 255 (c.segmentRecords + 1), nextSequence := (c.nextSequence + 1) % 65536,
      lastRecord := some { sequence := r.sequence, validity := r.validity, period := r.period, tach := r.tach } }

/-- The drum at an edge in RUN, before the restart count is considered (R34, R35). -/
def DrumMotion.edged (now stall : Ticks) (d : DrumMotion) : DrumMotion :=
  { d with
      lastPeriod := (match d.lastEdge with
        | some t => some (now - t)
        | none => d.lastPeriod),
      lastEdge := some now, stallDue := some (now + stall) }

/-- The pocket at an edge that completes a record. -/
def PocketState.edged (now stall : Ticks) (next : Option Pulse) (r : RevolutionRecord) (x : PocketState) : PocketState :=
  { x with dmc := x.dmc.edged now stall, rcu := x.rcu.rolled now next r }

/-- The record of a window at the clock, with its contacts and with the flag and the index of an evidence (R59). -/
def State.recordAt (s : State) (p : Pocket) (w : Window) (count time : Nat) (flag : Bool) (index : Option Nat) : RevolutionRecord :=
  { sequence := (s.pocket p).rcu.nextSequence, direction := (s.pocket p).dmc.direction,
    validity := s.classifyRecord p (min 255 ((s.pocket p).rcu.segmentRecords + 1)) (max 1 (min (s.now - w.openedAt) counterLimit)),
    tangleFlag := flag, energized := (s.pocket p).hsc.energized, period := max 1 (min (s.now - w.openedAt) counterLimit),
    tach := min w.tachEdges 65535, contacts := min count 255, contactTime := time, exhaust := (s.pocket p).me.exhaust, index := index }

theorem State.indexEdge_eq {b : State} {p : Pocket} {w : Window} (hst : (b.pocket p).dmc.state = .run)
    (hw : (b.pocket p).rcu.window = some w) :
    ∃ (count time : Nat) (next : Option Pulse) (r : RevolutionRecord), r = b.recordAt p w count time false none
      ∧ ContactsAtTheEdge b.now (b.item p PocketItem.minimumContact) w (b.pocket p).rcu.pulse count time next
      ∧ b.indexEdge p = (b.setPocket p ((b.pocket p).edged b.now (b.item p PocketItem.stallTimeout * 1000) next r)).handOn p r
          (b.exhaustReading p) (b.inletInUse p) := by
  obtain ⟨count, next, hsettled, hcontacts⟩ :=
    RevolutionCounter.settled_contacts hw b.now (b.item p PocketItem.minimumContact)
  refine ⟨count, _, next, _, rfl, hcontacts, ?_⟩
  set d := b.onDmc p (·.edged b.now (b.item p PocketItem.stallTimeout * 1000)) with hd
  have hedge : b.indexEdge p = d.closeWindow p := by
    rw [State.indexEdge, hst]
    rfl
  obtain ⟨c, hc⟩ : ∃ c, c = d.settlePulse p := ⟨_, rfl⟩
  have hcd : c = b.setPocket p { b.pocket p with
      dmc := (b.pocket p).dmc.edged b.now (b.item p PocketItem.stallTimeout * 1000)
      rcu := { (b.pocket p).rcu with window := some { w with contacts := count }, pulse := next } } := by
    have hwidth : d.contactWidth p = b.item p PocketItem.minimumContact := by rw [hd]; simp [State.contactWidth, State.item]
    rw [hc, State.settlePulse_eq, hwidth, hd]
    simp [State.onRcu, State.onDmc, hsettled]
  have hwindow : (c.pocket p).rcu.window = some { w with contacts := count } := by rw [hcd, State.pocket_setPocket]
  rw [hedge, State.closeWindow, ← hc]
  dsimp only
  rw [hwindow]
  dsimp only
  have hrecord : c.recordOf p { w with contacts := count }
      = b.recordAt p w count (contactTimeAt b.now { w with contacts := count } next) false none := by
    rw [hcd]
    simp [State.recordOf, State.recordAt, DrumMotion.edged, State.classifyRecord, State.item]
  have hreadings : c.exhaustReading p = b.exhaustReading p ∧ c.inletInUse p = b.inletInUse p := by
    rw [hcd]
    simp [State.exhaustReading, State.inletInUse]
  rw [hrecord, hreadings.1, hreadings.2]
  congr 1
  rw [hcd]
  simp [State.rollWindow, State.onRcu, PocketState.edged, RevolutionCounter.rolled]

theorem recordSlip_grafted (s : State) (p : Pocket) (y : PocketState) (tach : Nat) :
    recordSlip p (s.grafted p y) tach = recordSlip p s tach := by cases p <;> rfl

/-- The edge whole: the evidence of the record, worked as it is without the edge; the pocket that has taken the record; and the trip. -/
theorem State.indexEdge_taken {b : State} {p : Pocket} {w : Window} (hst : (b.pocket p).dmc.state = .run)
    (hw : (b.pocket p).rcu.window = some w) :
    ∃ (count time : Nat) (next : Option Pulse) (r : RevolutionRecord) (v u : State) (y : PocketState),
      v = b.evidence p r (b.exhaustReading p) (b.inletInUse p)
      ∧ r = b.recordAt p w count time (v.pocket p).tm.flag (v.pocket p).me.index
      ∧ ContactsAtTheEdge b.now (b.item p PocketItem.minimumContact) w (b.pocket p).rcu.pulse count time next
      ∧ y = { v.pocket p with
          dmc := edgeTaken p b b.now (min 255 ((b.pocket p).rcu.segmentRecords + 1)) (b.pocket p).dmc
          rcu := if r.validity = .valid then
              ((b.pocket p).rcu.rolled b.now next r).slipTaken (b.item p PocketItem.slipLimit) (recordSlip p b r.tach)
            else (b.pocket p).rcu.rolled b.now next r
          sb := (b.pocket p).sb.recorded (b.now + seconds (b.item p PocketItem.flushTime)) r }
      ∧ u = (v.setPocket p y).postIf ((b.pocket p).sb.fills (b.now + seconds (b.item p PocketItem.flushTime)) r) (.samplesReady p)
      ∧ (SlipTrips p b r → b.indexEdge p = u.report p .beltSlip none) ∧ (¬ SlipTrips p b r → b.indexEdge p = u) := by
  obtain ⟨count, time, next, r, hr, hcontacts, hedge⟩ := State.indexEdge_eq hst hw
  set z := (b.pocket p).edged b.now (b.item p PocketItem.stallTimeout * 1000) next r with hz
  have hgraft : b.setPocket p z = b.grafted p z := rfl
  obtain ⟨v, hv⟩ : ∃ v, v = b.evidence p r (b.exhaustReading p) (b.inletInUse p) := ⟨_, rfl⟩
  obtain ⟨r', hr'⟩ : ∃ r', r' = b.recordAt p w count time (v.pocket p).tm.flag (v.pocket p).me.index := ⟨_, rfl⟩
  have hve : v.grafted p z = (b.setPocket p z).evidence p r (b.exhaustReading p) (b.inletInUse p) := by
    rw [hgraft, State.evidence_grafted, hv]
  have hrr : r' = { r with
      tangleFlag := ((v.grafted p z).pocket p).tm.flag, index := ((v.grafted p z).pocket p).me.index } := by
    obtain ⟨-, -, -, -, -, hme, htm⟩ := v.grafted_reads p p z
    rw [hr', hr, hme, htm]
    rfl
  obtain ⟨-, -, tm, me, k, hpv⟩ := b.evidence_kept p r (b.exhaustReading p) (b.inletInUse p)
  rw [← hv] at hpv
  have hpg : (v.grafted p z).pocket p = { v.pocket p with dmc := z.dmc, rcu := z.rcu } := by
    rw [State.grafted, State.pocket_setPocket, hpv]
    rfl
  have hitem : ∀ n, (b.setPocket p z).item p n = b.item p n := fun n => by simp [State.item]
  have hnow : (b.setPocket p z).now = b.now := by simp
  have hslip : ∀ tach, recordSlip p (b.setPocket p z) tach = recordSlip p b tach := recordSlip_grafted b p z
  have hlast : r'.sequence = r.sequence ∧ r'.validity = r.validity ∧ r'.period = r.period ∧ r'.tach = r.tach := by
    rw [hr', hr]
    exact ⟨rfl, rfl, rfl, rfl⟩
  have hrolled : z.rcu = (b.pocket p).rcu.rolled b.now next r' := by
    obtain ⟨h1, h2, h3, h4⟩ := hlast
    rw [hz]
    show (b.pocket p).rcu.rolled b.now next r = _
    unfold RevolutionCounter.rolled
    rw [h1, h2, h3, h4]
  have htaken : ((v.grafted p z).pocket p).recordTaken p (b.setPocket p z) r' = { v.pocket p with
      dmc := edgeTaken p b b.now (min 255 ((b.pocket p).rcu.segmentRecords + 1)) (b.pocket p).dmc
      rcu := if r'.validity = .valid then
          ((b.pocket p).rcu.rolled b.now next r').slipTaken (b.item p PocketItem.slipLimit) (recordSlip p b r'.tach)
        else (b.pocket p).rcu.rolled b.now next r'
      sb := (b.pocket p).sb.recorded (b.now + seconds (b.item p PocketItem.flushTime)) r' } := by
    unfold PocketState.recordTaken
    rw [hpg, hitem, hitem, hitem, hnow, hslip, hpv, hrolled]
    by_cases hcount : min 255 ((b.pocket p).rcu.segmentRecords + 1) = b.item p PocketItem.settleRevolutions
    · simp [RevolutionCounter.rolled, hcount, edgeTaken, hz, PocketState.edged, DrumMotion.edged] <;> rfl
    · simp [RevolutionCounter.rolled, hcount, edgeTaken, hz, PocketState.edged, DrumMotion.edged] <;> rfl
  have hsb : ((v.grafted p z).pocket p).sb = (b.pocket p).sb := by rw [hpg, hpv]
  obtain ⟨htrips, hstays⟩ := State.handOn_eq (b.setPocket p z) p r (b.exhaustReading p) (b.inletInUse p) hve hrr rfl
  have htripsIff : SlipTrips p (b.setPocket p z) r' ↔ SlipTrips p b r' := by
    unfold SlipTrips SlipAbove
    rw [hslip, hitem, State.pocket_setPocket]
    rfl
  rw [← hedge, htripsIff, htaken, hsb, hnow, hitem] at htrips hstays
  have hset : ∀ y, (v.grafted p z).setPocket p y = v.setPocket p y := fun y => State.setPocket_setPocket v p _ y
  rw [hset] at htrips hstays
  have hvr : v = b.evidence p r' (b.exhaustReading p) (b.inletInUse p) := by
    rw [hv, hrr]
    rfl
  exact ⟨count, time, next, r', v, _, _, hvr, hr', hcontacts, rfl, rfl, htrips, hstays⟩

/-! ## The buffers at a record (R185) -/

section
variable {b : SampleBuffers} {flushAt : Ticks} {r : RevolutionRecord}

theorem SampleBuffers.recorded_of_none (h : b.filling = none) :
    b.recorded flushAt r = { b with overrun := true } ∧ b.fills flushAt r = false := by
  have happend : b.append flushAt r = { b with overrun := true } := by rw [SampleBuffers.append, h]
  have hfull : (b.append flushAt r).fillingFull = none := by
    rw [happend]
    have hfill : ({ b with overrun := true } : SampleBuffers).filling = none := h
    rw [SampleBuffers.fillingFull, hfill]
  exact ⟨by rw [SampleBuffers.recorded, hfull]; exact happend, by rw [SampleBuffers.fills, hfull]; rfl⟩

theorem SampleBuffers.state_of_filling {n : BufferName} (h : b.filling = some n) : (b.buffer n).state = .filling := by
  unfold SampleBuffers.filling at h
  split_ifs at h with hx hy
  · cases h
    exact beq_iff_eq.mp hx
  · cases h
    exact beq_iff_eq.mp hy

/-- A record that joins a FILLING buffer, which it may make READY. -/
theorem SampleBuffers.recorded_of_some {n : BufferName} (h : b.filling = some n) {x : SampleBuffers}
    (hx : x = { b.setBuffer n { state := .filling, records := (b.buffer n).records ++ [r] } with flushDue := some flushAt }) :
    b.recorded flushAt r = (if 12 ≤ (b.buffer n).records.length + 1 then x.makeReady n else x)
      ∧ b.fills flushAt r = decide (12 ≤ (b.buffer n).records.length + 1) := by
  have happend : b.append flushAt r = x := by
    rw [hx, ← SampleBuffers.state_of_filling h, SampleBuffers.append, h]
  have hfull : x.fillingFull = if 12 ≤ (b.buffer n).records.length + 1 then some n else none := by
    obtain ⟨hbuffer, -, hfill⟩ := SampleBuffers.append_filling h flushAt r
    rw [happend] at hbuffer hfill
    rw [SampleBuffers.fillingFull, hfill]
    simp only [hbuffer, List.length_append, List.length_singleton]
  rw [SampleBuffers.recorded, SampleBuffers.fills, happend, hfull]
  split_ifs with hlen
  · exact ⟨rfl, by simp [hlen]⟩
  · exact ⟨rfl, by simp [hlen]⟩

end

/-- What an appended record comes to, in a state whose latches have gained what the buffer posts. -/
theorem recordBuffered_of {p : Pocket} {r : RevolutionRecord} {s b u : State} {flushAt : Ticks}
    (hat : flushAt = b.now + seconds (s.item p PocketItem.flushTime)) (hsb : (u.pocket p).sb = (s.pocket p).sb.recorded flushAt r)
    (hpost : (s.pocket p).sb.fills flushAt r = true → LatchesGain (.samplesReady p) b u) : RecordBuffered p r s b u := by
  refine ⟨fun h => ?_, fun name records x h hrecords hx => ?_⟩
  · rw [hsb, (SampleBuffers.recorded_of_none h).1]
  · subst hrecords
    rw [← hat] at hx
    obtain ⟨hrec, hfills⟩ := SampleBuffers.recorded_of_some (flushAt := flushAt) (r := r) h hx
    rw [List.length_append, List.length_singleton]
    refine ⟨fun hlen => ?_, fun hlen => ⟨?_, hpost (by rw [hfills]; simpa using hlen)⟩⟩
    · rw [hsb, hrec, if_neg (not_le.mpr hlen)]
    · rw [hsb, hrec, if_pos hlen]
      exact SampleBuffers.makeReady_made name x

/-! ## O35 and O36 -/

theorem LatchesGain.kept {k : EventKind} {s t : State} (h : LatchesGain k s t) (q : Port) :
    (s.port q).latch &&& (t.port q).latch = (s.port q).latch := EventSet.held_trans (latch_and_or _ _) (h q)

/-- A gain since a later state is a gain since an earlier one whose latches that state has kept. -/
theorem LatchesGain.of_later {k : EventKind} {s t u : State} (h : LatchesGain k t u) (hm : ∀ q, (t.port q).mask = (s.port q).mask)
    (hl : ∀ q, (s.port q).latch &&& (t.port q).latch = (s.port q).latch) : LatchesGain k s u := by
  have hgain : LatchesGain k s (t.post k) := .post hm hl
  intro q
  refine EventSet.held_trans (hgain q) ?_
  simpa using h q

/-- What a trip leaves of a pocket whose drum turns: the counter but for its window, the monitor and the estimator but for their
notices, the buffers, and every latch. -/
theorem State.report_trip_kept {u : State} {p : Pocket} {k : FaultKind} (hk : isTrip k = true) (hrun : (u.pocket p).dmc.state = .run) :
    (∃ w l, ((u.report p k none).pocket p).rcu = { (u.pocket p).rcu with window := w, pulse := l })
      ∧ (∃ n, ((u.report p k none).pocket p).tm = { (u.pocket p).tm with reversalNotice := n })
      ∧ (∃ n, ((u.report p k none).pocket p).me = { (u.pocket p).me with dryNotice := n })
      ∧ ((u.report p k none).pocket p).sb = (u.pocket p).sb ∧ OnlyPocketAndAccount p u (u.report p k none)
      ∧ LatchesGain (.fault p) u (u.report p k none) := by
  obtain ⟨⟨-, hleft, hstays, hgain⟩, ⟨-, hsb, -, -⟩, -⟩ := u.report_trip p k none hk
  cases hs : (u.pocket p).ce.state.stoppable
  · obtain ⟨-, hrcu, hme, htm, honly⟩ := hstays hs
    exact ⟨⟨_, _, hrcu⟩, ⟨_, htm⟩, ⟨_, hme⟩, hsb, honly.toPocketAndAccount, hgain⟩
  · obtain ⟨-, hhalted, -, hme, htm, honly⟩ := hleft hs
    obtain ⟨-, hrcu⟩ := hhalted.1 (.inr hrun)
    exact ⟨⟨_, _, hrcu⟩, ⟨_, htm⟩, ⟨_, hme⟩, hsb, honly, hgain⟩

theorem HeatGivenUp.of_postIf {p : Pocket} {s t : State} {c : Bool} {k : EventKind} (h : HeatGivenUp p (s.postIf c k) t) :
    HeatGivenUp p s t := by
  cases c
  · exact h
  · exact HeatGivenUp.of_post h

theorem State.classifyRecord_settling (s : State) (p : Pocket) (n period : Nat) :
    s.classifyRecord p n period = .settling ↔ n ≤ s.item p PocketItem.settleRevolutions := by
  unfold State.classifyRecord
  split_ifs with h1 h2 <;> simp [h1]

theorem State.classifyRecord_valid (s : State) (p : Pocket) (n period : Nat) :
    s.classifyRecord p n period = .valid ↔ s.item p PocketItem.settleRevolutions < n
      ∧ s.item p PocketItem.plausibleMinimum * 1000 ≤ period ∧ period ≤ s.item p PocketItem.plausibleMaximum * 1000 := by
  unfold State.classifyRecord
  split_ifs with h1 h2
  · simp [h1]
  · simp only [Bool.or_eq_true, decide_eq_true_eq] at h2
    simp only [false_iff]
    omega
  · simp only [Bool.or_eq_true, decide_eq_true_eq] at h2
    simp only [true_iff]
    omega

/-- What the edge makes of the latches and of the rest of the state before a trip. -/
theorem State.recorded_kept {b v u : State} {p : Pocket} {r : RevolutionRecord} {y : PocketState} {c : Bool} {te ti : Int}
    (hv : v = b.evidence p r te ti) (hu : u = (v.setPocket p y).postIf c (.samplesReady p)) :
    OnlyPocketAndAccount p b u ∧ (∀ q, (b.port q).latch &&& (u.port q).latch = (b.port q).latch)
      ∧ (c = true → LatchesGain (.samplesReady p) b u) := by
  obtain ⟨honly, hl, -⟩ := b.evidence_kept p r te ti
  rw [← hv] at honly hl
  have hmoves : MovesTo (v.setPocket p y) u := hu ▸ .postIf c _ _
  refine ⟨honly.trans ((OnlyPocketAndAccount.setPocket p v y).trans (.of_moves hmoves)), fun q => ?_, fun hc => ?_⟩
  · exact EventSet.held_trans (hl q) (by simpa using hmoves.latches q)
  · rw [hu, hc]
    exact .post (fun q => by simpa using honly.mask q) fun q => by simpa using hl q

/-- The hand-on of a VALID record, tripping or not. -/
theorem validHandedOn_of {b v u U : State} {p : Pocket} {r : RevolutionRecord} {y : PocketState} {c : Bool} {z : RevolutionCounter}
    (hvalid : r.validity = .valid) (hrun : y.dmc.state = .run)
    (hv : v = b.evidence p r (b.exhaustReading p) (b.inletInUse p)) (hu : u = (v.setPocket p y).postIf c (.samplesReady p))
    (hy : y = { v.pocket p with dmc := y.dmc, rcu := y.rcu, sb := y.sb })
    (hrcu : y.rcu = z.slipTaken (b.item p PocketItem.slipLimit) (recordSlip p b r.tach)) (hz : z.slipRun = (b.pocket p).rcu.slipRun)
    (htrips : SlipTrips p b r → U = u.report p .beltSlip none) (hstays : ¬ SlipTrips p b r → U = u) : ValidHandedOn p r b U := by
  obtain ⟨t, ht⟩ : ∃ t, t = b.takeTangle p r.period r.contacts r.contactTime := ⟨_, rfl⟩
  have hvt : v = t.takeMoisture p r.period r.contactTime (b.exhaustReading p) (b.inletInUse p) := by
    rw [hv, State.evidence, if_pos hvalid, ht]
  have hpu : u.pocket p = y := by rw [hu, State.pocket_postIf, State.pocket_setPocket]
  obtain ⟨honly, hlatches, -⟩ := State.recorded_kept hv hu
  have htm : (v.pocket p).tm = (t.pocket p).tm := by
    obtain ⟨m, hm⟩ := t.takeMoisture_kept p r.period r.contactTime (b.exhaustReading p) (b.inletInUse p)
    obtain ⟨k, hk⟩ := hm.pocket p
    rw [hvt, hk, State.pocket_setPocket]
  obtain ⟨-, -, tm, me, k, hpv⟩ := b.evidence_kept p r (b.exhaustReading p) (b.inletInUse p)
  rw [← hv] at hpv
  have hyb : y.ce = (b.pocket p).ce ∧ y.fl = (b.pocket p).fl ∧ y.lines = (b.pocket p).lines := by
    rw [hy, hpv]
    exact ⟨rfl, rfl, rfl⟩
  obtain ⟨hyce, hyfl, hylines⟩ := hyb
  have hyv : y.tm = (v.pocket p).tm ∧ y.me = (v.pocket p).me ∧ y.hsc = (v.pocket p).hsc := by
    rw [hy]
    exact ⟨rfl, rfl, rfl⟩
  have hrun' : y.rcu.lastSlip = some (recordSlip p b r.tach)
      ∧ y.rcu.slipRun = if b.item p PocketItem.slipLimit * 10 < recordSlip p b r.tach then (if 5 ≤ (b.pocket p).rcu.slipRun + 1 then 0 else (b.pocket p).rcu.slipRun + 1)
        else 0 := by
    rw [hrcu, ← hz]
    exact ⟨rfl, rfl⟩
  obtain ⟨hslip, hcount⟩ := hrun'
  have hrcuU : (U.pocket p).rcu.lastSlip = y.rcu.lastSlip ∧ (U.pocket p).rcu.slipRun = y.rcu.slipRun := by
    by_cases h : SlipTrips p b r
    · obtain ⟨⟨w, l, hw⟩, -⟩ := State.report_trip_kept (k := .beltSlip) rfl (hpu.symm ▸ hrun : (u.pocket p).dmc.state = .run)
      rw [htrips h, hw, hpu]
      exact ⟨rfl, rfl⟩
    · rw [hstays h, hpu]
      exact ⟨rfl, rfl⟩
  refine ⟨t, v, ht, hvt, hrcuU.1.trans hslip, fun h => ?_, fun h hno => ?_, fun h => ?_, fun h => ?_⟩
  · exact hrcuU.2.trans (hcount.trans (if_neg h))
  · have hfew : ¬ 5 ≤ (b.pocket p).rcu.slipRun + 1 := fun hf => hno ⟨hvalid, h, hf⟩
    exact hrcuU.2.trans (hcount.trans ((if_pos h).trans (if_neg hfew)))
  · obtain ⟨-, habove, hfive⟩ := id h
    obtain ⟨⟨hresponse, hleft, hother, hgain⟩, -, hlist, -⟩ := u.report_trip p .beltSlip none rfl
    obtain ⟨-, ⟨n, hn⟩, ⟨m, hm⟩, -⟩ := State.report_trip_kept (k := .beltSlip) rfl (hpu.symm ▸ hrun : (u.pocket p).dmc.state = .run)
    rw [← htrips h] at hresponse hleft hother hgain hlist hn hm
    rw [hpu] at hresponse hleft hother hlist hn hm
    have hclock : u.now = b.now ∧ u.loadedAt = b.loadedAt := ⟨honly.1.2.2.1, honly.1.2.2.2.1⟩
    have hticks : u.phaseTicks p = b.phaseTicks p := by
      unfold State.phaseTicks
      rw [hpu, hyce, hclock.1]
    have hseconds : u.secondsCount = b.secondsCount := by
      unfold State.secondsCount State.secondsSince
      rw [hclock.1, hclock.2]
    rw [hclock.1, hticks] at hresponse
    rw [hseconds, hyce, hyfl] at hlist
    refine ⟨?_, hlist, ?_, hgain.of_later (fun q => honly.mask q) hlatches, ?_, ?_, fun hs => ?_, fun hs => ?_⟩
    · exact hrcuU.2.trans (hcount.trans ((if_pos habove).trans (if_pos hfive)))
    · unfold TripResponse WindDownBegun at hresponse ⊢
      rwa [hyce, hylines] at hresponse
    · rw [hn, hyv.1, htm]
    · rw [hm, hyv.2.1]
    · obtain ⟨hheat, hhalted, -, -, htmU, -⟩ := hleft (hyce ▸ hs)
      rw [hpu] at hhalted htmU
      obtain ⟨-, hclosed⟩ := hhalted.1 (.inr hrun)
      rw [hclosed, htmU, if_pos (.inr hrun)]
      have hmeter : y.meter = (v.pocket p).meter := by rw [hy]
      exact ⟨(hu ▸ hheat).of_postIf.of_setPocket hmeter, rfl, rfl⟩
    · obtain ⟨-, -, -, -, hl⟩ := hother (hyce ▸ hs)
      exact ((OnlyPocketAndLatches.setPocket p v y).trans (hu ▸ .postIf p _ c _)).trans hl
  · have hsa : u.sa = v.sa ∧ u.pocket (otherPocket p) = v.pocket (otherPocket p) := by
      rw [hu]
      refine ⟨?_, by rw [State.pocket_postIf, State.pocket_setPocket_other]⟩
      unfold State.postIf
      split_ifs <;> simp
    rw [hstays h, hpu]
    exact ⟨hyv.1.trans htm, hyv.2.1, hyv.2.2, hsa.1, hsa.2, hyfl, hyce⟩

/-- Settles O35: the record, the evidence and the buffers of `State.indexEdge_taken`, and the report where the slip trips. -/
theorem recordsAreCompletedAndHandedOn : Obligations.RecordsAreCompletedAndHandedOn := by
  intro p n s b w hm hst hw hb
  have hpb : b.pocket p = s.pocket p := by rw [hb, State.pocket_elapse]
  have hitem : ∀ k, b.item p k = s.item p k := fun k => by rw [hb]; rfl
  obtain ⟨count, time, next, r, v, u, y, hv, hr, hcontacts, hy, hu, htrips, hstays⟩ :=
    State.indexEdge_taken (b := b) (p := p) (by rw [hpb]; exact hst) (by rw [hpb]; exact hw)
  obtain ⟨honly, hlatches, hready⟩ := State.recorded_kept hv hu
  have hpu : u.pocket p = y := by rw [hu, State.pocket_postIf, State.pocket_setPocket]
  have hydmc : y.dmc = edgeTaken p s b.now (min 255 ((s.pocket p).rcu.segmentRecords + 1)) (s.pocket p).dmc := by
    rw [hy, hpb]
    show edgeTaken p b _ _ _ = _
    simp only [edgeTaken, hitem]
  have hrun : y.dmc.state = .run := by
    rw [hydmc]
    exact hst
  have hysb : y.sb = (s.pocket p).sb.recorded (b.now + seconds (s.item p PocketItem.flushTime)) r := by
    rw [hy]
    show (b.pocket p).sb.recorded (b.now + seconds (b.item p PocketItem.flushTime)) r = _
    rw [hpb, hitem]
  have hyv : y = { v.pocket p with dmc := y.dmc, rcu := y.rcu, sb := y.sb } := by rw [hy]
  obtain ⟨z, hz⟩ : ∃ z, z = (b.pocket p).rcu.rolled b.now next r := ⟨_, rfl⟩
  have hyrcu : y.rcu = if r.validity = .valid then z.slipTaken (b.item p PocketItem.slipLimit) (recordSlip p b r.tach) else z := by
    rw [hy, hz]
  have hrolled : y.rcu = { z with lastSlip := y.rcu.lastSlip, slipRun := y.rcu.slipRun } := by
    rw [hyrcu]
    split_ifs <;> rfl
  obtain ⟨U, hU⟩ : ∃ U, U = b.indexEdge p := ⟨_, rfl⟩
  rw [← hU] at htrips hstays
  have hUkept : (∃ x l, (U.pocket p).rcu = { y.rcu with window := x, pulse := l })
      ∧ (∃ k, (U.pocket p).tm = { y.tm with reversalNotice := k }) ∧ (∃ k, (U.pocket p).me = { y.me with dryNotice := k })
      ∧ (U.pocket p).sb = y.sb ∧ OnlyPocketAndAccount p u U ∧ ∀ q, (u.port q).latch &&& (U.port q).latch = (u.port q).latch := by
    by_cases h : SlipTrips p b r
    · obtain ⟨hrcu, htm, hme, hsb, hmoved, hgain⟩ :=
        State.report_trip_kept (k := .beltSlip) rfl (hpu.symm ▸ hrun : (u.pocket p).dmc.state = .run)
      rw [← htrips h, hpu] at hrcu htm hme hsb
      rw [← htrips h] at hmoved hgain
      exact ⟨hrcu, htm, hme, hsb, hmoved, hgain.kept⟩
    · rw [hstays h, hpu]
      exact ⟨⟨_, _, rfl⟩, ⟨_, rfl⟩, ⟨_, rfl⟩, rfl, (OnlyPocketAndLatches.refl p u).toPocketAndAccount, fun q => BitVec.and_self⟩
  obtain ⟨⟨x, l, hrcuU⟩, ⟨nt, htmU⟩, ⟨nm, hmeU⟩, hsbU, honlyU, hlatchesU⟩ := hUkept
  have hsegment : (U.pocket p).rcu.segmentRecords = min 255 ((s.pocket p).rcu.segmentRecords + 1) := by
    rw [hrcuU, hrolled, hz, hpb]
    rfl
  have hclassify : ∀ k m, b.classifyRecord p k m = s.classifyRecord p k m := fun k m => by simp only [State.classifyRecord, hitem]
  have hyflag : y.tm = (v.pocket p).tm ∧ y.me = (v.pocket p).me := by
    rw [hy]
    exact ⟨rfl, rfl⟩
  refine ⟨U, r, count, next, ?_, honly.trans honlyU, ?_, hsegment, ?_, ?_⟩
  · rw [exec_idxEdge hm, ← hb, hU]
  · rw [hrcuU, hrolled, hz, hpb]
    rfl
  · rw [hrcuU, hrolled, hz]
    rfl
  · refine ⟨?_, ?_, ?_, ?_, ?_, ?_, ?_, ?_, ?_, ?_, ?_, ?_, fun hvalid => ?_, ?_, fun h => ?_, fun h hs => ?_⟩
    · rw [hr, ← hpb]; rfl
    · rw [hr, ← hpb]; rfl
    · rw [hr]; rfl
    · rw [hr]; rfl
    · rw [hr, ← hitem, ← hpb]; exact hcontacts
    · rw [hr]; rfl
    · rw [hr, ← hpb]; rfl
    · rw [hr, ← hpb]; rfl
    · rw [hr, htmU, hyflag.1]; rfl
    · rw [hr, hmeU, hyflag.2]; rfl
    · rw [hsegment, ← State.classifyRecord_settling s p _ (max 1 (min (b.now - w.openedAt) counterLimit)), hr, ← hclassify, ← hpb]
      rfl
    · rw [hsegment, show r.period = max 1 (min (b.now - w.openedAt) counterLimit) by rw [hr]; rfl, ← State.classifyRecord_valid,
        hr, ← hclassify, ← hpb]
      rfl
    · refine validHandedOn_of hvalid hrun hv hu hyv (hyrcu.trans (if_pos hvalid)) ?_ htrips hstays
      rw [hz]
      rfl
    · refine recordBuffered_of rfl (hsbU.trans hysb) fun hfills => ?_
      refine (hready ?_).keep hlatchesU
      rw [hpb, hitem]
      exact hfills
    · rw [hstays h, hpu, hydmc, hrolled, hz, hpb]
      exact ⟨rfl, rfl, rfl⟩
    · obtain ⟨⟨-, hleft, -⟩, -⟩ := u.report_trip p .beltSlip none rfl
      have hce : (u.pocket p).ce = (s.pocket p).ce := by
        obtain ⟨-, -, tm, me, k, hpv⟩ := b.evidence_kept p r (b.exhaustReading p) (b.inletInUse p)
        rw [← hv] at hpv
        rw [hpu, hy, hpv, ← hpb]
      obtain ⟨-, hhalted, hpending, -⟩ := hleft (by rw [hce]; exact hs)
      have hticks : u.coastTicks p = s.coastTicks p := by
        unfold State.coastTicks State.item
        rw [honly.1.2.2.2.2.2.2, hb]
        rfl
      rw [← htrips h, hpu] at hhalted
      rw [← htrips h] at hpending
      rw [honly.1.2.2.1, hticks] at hhalted
      obtain ⟨hdmc, -⟩ := hhalted.1 (.inr hrun)
      rw [hsegment, hdmc, hpending, hydmc]

/-- Settles O36: without evidence the edge changes the drum, the counter and the buffers of the pocket. -/
theorem recordsThatAreNoEvidence : Obligations.RecordsThatAreNoEvidence := by
  intro p n s b w hm hst hw hb hclass
  have hpb : b.pocket p = s.pocket p := by rw [hb, State.pocket_elapse]
  have hitem : ∀ k, b.item p k = s.item p k := fun k => by rw [hb]; rfl
  obtain ⟨count, time, next, r, v, u, y, hv, hr, -, hy, hu, -, hstays⟩ :=
    State.indexEdge_taken (b := b) (p := p) (by rw [hpb]; exact hst) (by rw [hpb]; exact hw)
  have hinvalid : r.validity ≠ .valid := by
    have hnow : b.now = s.now + n := by rw [hb]; rfl
    rw [hr]
    show b.classifyRecord p _ _ ≠ _
    rw [Ne, State.classifyRecord_valid, hpb, hitem, hitem, hitem, hnow]
    rintro ⟨hsettled, hleast, hmost⟩
    obtain h | h | h := hclass
    · exact absurd hsettled (Nat.not_lt.mpr h)
    · exact absurd hleast (Nat.not_le.mpr h)
    · exact absurd hmost (Nat.not_le.mpr h)
  have hvb : v = b := by rw [hv, State.evidence, if_neg hinvalid]
  rw [hvb] at hr hy hu
  have hyrcu : y.rcu = (s.pocket p).rcu.rolled b.now next r := by rw [hy, if_neg hinvalid, hpb]
  have hysb : y.sb = (s.pocket p).sb.recorded (b.now + seconds (s.item p PocketItem.flushTime)) r := by
    rw [hy]
    show (b.pocket p).sb.recorded (b.now + seconds (b.item p PocketItem.flushTime)) r = _
    rw [hpb, hitem]
  have hydmc : y.dmc = edgeTaken p b b.now (min 255 ((s.pocket p).rcu.segmentRecords + 1)) (s.pocket p).dmc := by rw [hy, hpb]
  have hpu : u.pocket p = y := by rw [hu, State.pocket_postIf, State.pocket_setPocket]
  have hport : ∀ q, u.port q = if (s.pocket p).sb.fills (b.now + seconds (s.item p PocketItem.flushTime)) r = true
      then (s.port q).post (.samplesReady p) else s.port q := by
    intro q
    have hpq : ∀ q, b.port q = s.port q := fun q => by rw [hb, State.port_elapse]
    rw [hu, hpb, hitem, State.postIf]
    split_ifs <;> simp [hpq]
  have hexec : exec (.idxEdge p n) s = .next u := by
    rw [exec_idxEdge hm, ← hb, hstays fun h => hinvalid h.1]
  refine ⟨u, hexec, ?_, ?_⟩
  · rw [hu]
    exact (OnlyPocketAndLatches.setPocket p b y).trans (.postIf p _ _ _)
  · have hown : y.me = (s.pocket p).me ∧ y.tm = (s.pocket p).tm ∧ y.ce = (s.pocket p).ce ∧ y.hsc = (s.pocket p).hsc
        ∧ y.fl = (s.pocket p).fl ∧ y.meter = (s.pocket p).meter ∧ y.lines = (s.pocket p).lines ∧ y.shedDue = (s.pocket p).shedDue := by
      rw [hy, hpb]
      exact ⟨rfl, rfl, rfl, rfl, rfl, rfl, rfl, rfl⟩
    obtain ⟨h1, h2, h3, h4, h5, h6, h7, h8⟩ := hown
    rw [hpu]
    refine ⟨h1, h2, h3, h4, h5, h6, h7, h8, by rw [hyrcu]; rfl, by rw [hyrcu]; rfl, by rw [hyrcu]; rfl, by rw [hydmc]; exact hst,
      ?_, by rw [hydmc]; rfl, ⟨r, ?_, ?_⟩, fun name hname q => ?_, fun hnone q => ?_⟩
    · rw [hydmc, ← hitem]
      rfl
    · refine recordBuffered_of rfl (by rw [hpu]; exact hysb) fun hfills => ?_
      rw [hu, hpb, hitem, hfills]
      exact .post (by simp) (by simp)
    · rw [hr, ← hpb]
      exact ⟨rfl, rfl, rfl, rfl, rfl, rfl⟩
    · obtain ⟨-, hfills⟩ := SampleBuffers.recorded_of_some (r := r) (flushAt := b.now + seconds (s.item p PocketItem.flushTime)) hname rfl
      rw [hport, hfills]
      simp
    · obtain ⟨-, hfills⟩ := SampleBuffers.recorded_of_none (r := r) (flushAt := b.now + seconds (s.item p PocketItem.flushTime)) hnone
      rw [hport, hfills]
      rfl

end Sys2Proof.Machine

/-! PROOF. Fault reports (O53), CLEAR_FAULT (O54) and the fetch of samples (O55). -/

namespace Sys2Proof.Machine

/-! ## Fault reports (O53) -/

theorem exec_faultReport {s : State} (hm : s.mode = .operating) (p : Pocket) (k : FaultKind) (detail : Option Nat) :
    exec (.faultReport p k detail) s = .next (s.report p k detail) := by
  show execFaultReport p k detail s = _
  unfold execFaultReport
  rw [State.whenOperating_operating _ _ hm]

/-- A report of a WARNING changes the list and, where it makes a new record, posts FAULT. -/
theorem State.report_warning (s : State) (p : Pocket) {k : FaultKind} (detail : Option Nat) (hk : isTrip k = false) {f : FaultList}
    (hf : f = ((s.pocket p).fl.take (s.pocket p).ce.faultPhase s.secondsCount k detail).1) :
    s.report p k detail =
      (s.setPocket p { s.pocket p with fl := f }).postIf (!(s.pocket p).fl.holds k && f.holds k) (.fault p) := by
  have hwarning : k ≠ .heaterStuckOn := by
    rintro rfl
    cases hk
  rw [State.report_eq, hk, if_neg Bool.false_ne_true, FaultList.take_new, ← hf, State.reported, State.reportedHeat,
    if_neg hwarning, ← hf]

/-- Settles O53: a TRIP by `State.report_trip`, a WARNING by the one record it changes. -/
theorem reportsAreListedAndTrip : Obligations.ReportsAreListedAndTrip := by
  intro p k detail s hm
  refine ⟨s.report p k detail, exec_faultReport hm p k detail, ?_⟩
  cases hk : isTrip k
  case true =>
    obtain ⟨htripped, hrecords, htakes, -, hstuck⟩ := s.report_trip p k detail hk
    exact ⟨htakes, hrecords, fun _ => htripped, hstuck, nofun⟩
  case false =>
    obtain ⟨f, hf⟩ : ∃ f, f = ((s.pocket p).fl.take (s.pocket p).ce.faultPhase s.secondsCount k detail).1 := ⟨_, rfl⟩
    have hu := s.report_warning p detail hk hf
    have hpocket : (s.report p k detail).pocket p = { s.pocket p with fl := f } := by
      rw [hu, State.pocket_postIf, State.pocket_setPocket]
    have hnew : (!(s.pocket p).fl.holds k && f.holds k) = true ↔ (s.pocket p).fl.holds k = false ∧ f.holds k = true := by
      rw [Bool.and_eq_true, Bool.not_eq_true']
    rw [hpocket]
    refine ⟨hf ▸ FaultList.take_takes _ _ _ _ _, ⟨rfl, rfl, rfl, rfl⟩, nofun, ?_, fun _ => ⟨?_, rfl, rfl, rfl, rfl, rfl, rfl, ?_, ?_⟩⟩
    · rintro rfl
      cases hk
    · rw [hu]
      exact (OnlyPocketAndLatches.setPocket p s _).trans (.postIf p _ _ _)
    · intro h
      rw [hu, hnew.mpr h, State.postIf, if_pos rfl]
      exact .post (fun q => by simp) fun q => by simp
    · intro h q
      rw [hu, State.postIf, if_neg fun hn => h (hnew.mp hn), State.port_setPocket]

/-! ## CLEAR_FAULT (O54) -/

/-- The link hands a request that names a pocket, from the pocket's own port or port S, to that pocket's blocks. -/
theorem State.respond_clearFault (s : State) (p : Pocket) {q : Port} (hq : q = ownPort p ∨ q = .S) :
    s.respond .clearFault q (be1 (pocketCode p)) = s.actClearFault p := by
  obtain rfl | rfl := hq <;> cases p <;> rfl

theorem FaultList.holds_clearedList (s : State) (p : Pocket) (k : FaultKind) :
    (s.clearedList p).holds k = ((s.pocket p).fl.holds k && s.conditionPresent p k) := by
  have h : (s.clearedList p).holds k = true ↔ (s.pocket p).fl.holds k = true ∧ s.conditionPresent p k = true := by
    simp only [FaultList.holds, State.clearedList, State.remainingFaults, List.any_eq_true, List.mem_filter, beq_iff_eq]
    constructor
    · rintro ⟨r, ⟨hr, hc⟩, rfl⟩
      exact ⟨⟨r, hr, rfl⟩, hc⟩
    · rintro ⟨⟨r, hr, rfl⟩, hc⟩
      exact ⟨r, ⟨hr, hc⟩, rfl⟩
  rw [Bool.eq_iff_iff, h, Bool.and_eq_true]

theorem State.stuckGone_iff (s : State) (p : Pocket) :
    s.stuckGone p = true ↔ (s.pocket p).fl.holds .heaterStuckOn = true ∧ s.conditionPresent p .heaterStuckOn = false := by
  rw [State.stuckGone, FaultList.holds_clearedList]
  cases (s.pocket p).fl.holds .heaterStuckOn <;> cases s.conditionPresent p .heaterStuckOn <;> simp

theorem State.clearedEngine_eq (s : State) (p : Pocket) :
    s.clearedEngine p = { (s.pocket p).ce with state :=
      if (s.pocket p).ce.state = .faulted ∧ (∀ r ∈ s.remainingFaults p, isTrip r.kind = false) then .idle else (s.pocket p).ce.state } := by
  have hnone : ((s.clearedList p).trips == 0) = true ↔ ∀ r ∈ s.remainingFaults p, isTrip r.kind = false := by
    rw [beq_iff_eq, FaultList.trips, List.length_eq_zero_iff, List.filter_eq_nil_iff]
    simp only [Bool.not_eq_true]
    rfl
  rw [State.clearedEngine]
  by_cases h : (s.pocket p).ce.state = .faulted ∧ ∀ r ∈ s.remainingFaults p, isTrip r.kind = false
  · rw [if_pos h, if_pos (Bool.and_eq_true_iff.mpr ⟨beq_iff_eq.mpr h.1, hnone.mpr h.2⟩)]
  · rw [if_neg h, if_neg]
    intro hc
    obtain ⟨hf, hn⟩ := Bool.and_eq_true_iff.mp hc
    exact h ⟨beq_iff_eq.mp hf, hnone.mp hn⟩

theorem clearFaultActs : ClearFaultActs := by
  intro p q tag s hh hq
  have hwd : (s.pocket p).ce.faultWindDown = true ↔ (s.pocket p).ce.state = .faulted ∧ (s.pocket p).ce.windingDown = true := by
    rw [CycleEngine.faultWindDown, Bool.and_eq_true, beq_iff_eq]
  refine ⟨fun hf hw => ?_, fun hno => ?_⟩
  · have hact : s.actClearFault p = s.refuse .busy := by rw [State.actClearFault, if_pos (hwd.mpr ⟨hf, hw⟩)]
    exact exec_command_answered hh .clearFault tag ((s.respond_clearFault p hq).trans hact)
  · obtain ⟨k, hclear, -, hgone, hstays⟩ := s.clearFaults_eq p
    obtain ⟨u, hu⟩ : ∃ u, u = s.clearFaults p := ⟨_, rfl⟩
    have hpocket : u.pocket p = { s.pocket p with fl := s.clearedList p, ce := s.clearedEngine p, hsc := k } := by
      rw [hu, hclear, State.pocket_setPocket]
    have hact : s.actClearFault p = u.ok (be1 ((s.pocket p).fl.records.length - (s.clearedList p).records.length)
        ++ be1 (s.clearedList p).records.length ++ be1 (s.clearedList p).trips ++ flagByte (s.pocket p).fl.full) := by
      have hfl : ((s.clearFaults p).pocket p).fl = s.clearedList p := by rw [← hu, hpocket]
      rw [State.actClearFault, if_neg fun h => hno (hwd.mp h)]
      dsimp only
      rw [hfl, hu]
    refine ⟨u, s.remainingFaults p, exec_command_answered hh .clearFault tag ((s.respond_clearFault p hq).trans hact), rfl, ?_⟩
    rw [OnlyPocket, hpocket]
    refine ⟨rfl, hu.trans hclear, fun h => (hgone ((s.stuckGone_iff p).mpr h)).1, fun h => hstays ?_, s.clearedEngine_eq p,
      rfl, rfl, rfl, rfl, rfl, rfl, rfl, rfl⟩
    exact Bool.eq_false_iff.mpr fun hg => h ((s.stuckGone_iff p).mp hg)

theorem sampleOut_iff (sample : Option Int) : sampleOut sample = true ↔ ∃ t, sample = some t ∧ (t < -200 ∨ 1500 < t) := by
  cases sample with
  | none => simp [sampleOut]
  | some t =>
    simp only [sampleOut, inSenseRange, Option.some.injEq, exists_eq_left', Bool.not_eq_true', Bool.and_eq_false_iff,
      decide_eq_false_iff_not]
    omega

theorem conditionsAreThoseOfTheTable : ConditionsAreThoseOfTheTable := by
  intro s p
  refine ⟨?_, ?_, ?_, Iff.rfl, Iff.rfl, sampleOut_iff _, sampleOut_iff _, Iff.rfl⟩
  · rintro k (rfl | rfl | rfl | rfl) <;> rfl
  · exact Bool.not_eq_true' _ ▸ Iff.rfl
  · show (match (s.pocket p).meter.reading with
      | some r => decide (s.item p PocketItem.offCurrentLimit < r.current)
      | none => false) = true ↔ _
    cases (s.pocket p).meter.reading <;> simp

/-- Settles O54. -/
theorem clearFaultRemovesWhatHasGone : Obligations.ClearFaultRemovesWhatHasGone := ⟨clearFaultActs, conditionsAreThoseOfTheTable⟩

/-! ## Sample buffers (O55) -/

theorem State.respond_fetchSamples (s : State) (p : Pocket) {q : Port} (hq : q = ownPort p ∨ q = .S) :
    s.respond .fetchSamples q (be1 (pocketCode p)) = s.actFetchSamples p := by
  obtain rfl | rfl := hq <;> cases p <;> rfl

theorem encodeRecord_length (r : RevolutionRecord) : (encodeRecord r).length = 16 := by
  unfold encodeRecord sampleBytes
  cases r.exhaust <;> rfl

theorem encodeRecords_length (rs : List RevolutionRecord) : (rs.flatMap encodeRecord).length = 16 * rs.length := by
  rw [List.length_flatMap]
  simp [encodeRecord_length, Nat.mul_comm]

section
variable {b : SampleBuffers}

theorem SampleBuffers.older_of_none (hx : b.x.state ≠ .ready) (hy : b.y.state ≠ .ready) : b.older = none := by
  simp [SampleBuffers.older, hx, hy]

/-- The older READY buffer: a buffer that is READY while the other is not, or that became READY first. -/
theorem SampleBuffers.older_of_ready {name : BufferName} (h : (b.buffer name).state = .ready)
    (hother : (b.buffer name.other).state ≠ .ready ∨ b.olderReady = name) : b.older = some name := by
  cases name
  case x =>
    have hx : b.x.state = .ready := h
    obtain hy | holder := hother
    · have hy' : b.y.state ≠ .ready := hy
      simp [SampleBuffers.older, hx, hy']
    · simp [SampleBuffers.older, hx, holder]
  case y =>
    have hy : b.y.state = .ready := h
    obtain hx | holder := hother
    · have hx' : b.x.state ≠ .ready := hx
      simp [SampleBuffers.older, hx', hy]
    · simp only [SampleBuffers.older, hy, holder]
      cases b.x.state <;> rfl

/-- What a fetch leaves of the buffers. -/
theorem SampleBuffers.fetched_of_ready {name : BufferName} (h : (b.buffer name).state = .ready) :
    ((b.fetched name).buffer name).records = [] ∧ (b.fetched name).overrun = false
      ∧ (b.fetched name).buffer name.other = b.buffer name.other ∧ (b.fetched name).flushDue = b.flushDue
      ∧ ((b.buffer name.other).state = .filling → ((b.fetched name).buffer name).state = .free)
      ∧ ((b.buffer name.other).state ≠ .filling → ((b.fetched name).buffer name).state = .filling) := by
  cases name
  case x =>
    have hx : b.x.state = .ready := h
    refine ⟨rfl, rfl, rfl, rfl, fun hother => ?_, fun hother => ?_⟩
    · have hy : b.y.state = .filling := hother
      simp [SampleBuffers.fetched, SampleBuffers.filling, SampleBuffers.buffer, SampleBuffers.setBuffer, hx, hy]
    · have hy : b.y.state ≠ .filling := hother
      simp [SampleBuffers.fetched, SampleBuffers.filling, SampleBuffers.buffer, SampleBuffers.setBuffer, hx, hy]
  case y =>
    have hy : b.y.state = .ready := h
    refine ⟨rfl, rfl, rfl, rfl, fun hother => ?_, fun hother => ?_⟩
    · have hx : b.x.state = .filling := hother
      simp [SampleBuffers.fetched, SampleBuffers.filling, SampleBuffers.buffer, SampleBuffers.setBuffer, hx]
    · have hx : b.x.state ≠ .filling := hother
      simp [SampleBuffers.fetched, SampleBuffers.filling, SampleBuffers.buffer, SampleBuffers.setBuffer, hx, hy]

end

theorem exec_flushTimerExpired {s : State} {p : Pocket} (hm : s.mode = .operating) {t : Ticks} (h : (s.pocket p).sb.flushDue = some t) :
    exec (.flushTimerExpired p) s = .next (((s.reach t).onSb p (fun b => { b with flushDue := none })).flushSamples p) := by
  show execFlushTimerExpired p s = _
  unfold execFlushTimerExpired
  rw [State.whenOperating_operating _ _ hm, h]

/-- Settles O55: the fetch by which buffer is READY, the flush by the buffer that is made READY. -/
theorem samplesAreFetchedOnce : Obligations.SamplesAreFetchedOnce := by
  intro p q tag s
  refine ⟨fun hh hq => ⟨fun hx hy => ?_, fun name hready hother => ?_⟩, ?_⟩
  · have hact : s.actFetchSamples p = s.refuse .empty := by rw [State.actFetchSamples, SampleBuffers.older_of_none hx hy]
    exact exec_command_answered hh .fetchSamples tag ((s.respond_fetchSamples p hq).trans hact)
  · have hact : s.actFetchSamples p = (s.onSb p (·.fetched name)).ok (samplesReply name (s.pocket p).sb) := by
      rw [State.actFetchSamples, SampleBuffers.older_of_ready hready hother]
    have hpocket : (s.onSb p (·.fetched name)).pocket p = { s.pocket p with sb := (s.pocket p).sb.fetched name } :=
      State.pocket_setPocket _ _ _
    refine ⟨s.onSb p (·.fetched name), ((s.pocket p).sb.buffer name).records.flatMap encodeRecord,
      exec_command_answered hh .fetchSamples tag ((s.respond_fetchSamples p hq).trans hact), encodeRecords_length _, rfl, ?_⟩
    rw [OnlyPocket, hpocket]
    exact ⟨rfl, rfl, SampleBuffers.fetched_of_ready hready⟩
  · rintro t name b hm ht hname rfl
    have hheld : ({ (s.pocket p).sb with flushDue := none } : SampleBuffers).fillingHeld = some name := hname
    have hflush : ((s.reach t).onSb p (fun b => { b with flushDue := none })).flushSamples p
        = ((s.reach t).setPocket p { s.pocket p with sb := { (s.pocket p).sb with flushDue := none }.makeReady name }).post
            (.samplesReady p) := by
      rw [State.flushSamples]
      simp only [State.onSb, State.pocket_setPocket, State.pocket_reach, hheld, State.bufferReady, State.setPocket_setPocket]
    refine ⟨_, by rw [exec_flushTimerExpired hm ht, hflush], ?_, ?_, ?_⟩
    · exact (OnlyPocketAndLatches.setPocket p _ _).trans (.post p _ _)
    · exact .post (fun q => by simp) fun q => by simp
    · rw [State.pocket_post, State.pocket_setPocket]
      exact ⟨rfl, SampleBuffers.makeReady_made name _⟩

end Sys2Proof.Machine

/-! PROOF. The voltage sample (O49), HLIM (O42), and the first two timers of the heat stage controller (O43). -/

namespace Sys2Proof.Machine

/-! ## E follows its target in both pockets -/

/-- Both pockets' E follow their targets, each by itself. -/
theorem State.followE_both {s u : State} (hu : u = (s.followE .A).followE .B) :
    (∃ hA hB : HeatStages, u = (s.onHsc .A (fun _ => hA)).onHsc .B (fun _ => hB))
      ∧ ∀ p, FollowsTarget s.now (s.stageTicks p) (u.heatTarget p) (s.pocket p).hsc (u.pocket p).hsc := by
  obtain ⟨hA, hxA, hfA⟩ := s.followE_followed .A
  obtain ⟨x, hx⟩ : ∃ x, x = s.followE .A := ⟨_, rfl⟩
  obtain ⟨hB, hxB, hfB⟩ := x.followE_followed .B
  rw [← hx] at hu hxA hfA
  rw [← hu] at hxB hfB
  refine ⟨⟨hA, hB, by rw [hxB, hxA]⟩, fun p => ?_⟩
  cases p
  case A =>
    have htarget : u.heatTarget .A = x.heatTarget .A := by
      rw [hxB]
      exact State.heatTarget_setPocket_other x .B _
    rw [htarget, hxB, hxA]
    rw [hxA] at hfA
    exact hfA
  case B =>
    rw [hxA] at hfB hxB
    rw [hxB] at hfB ⊢
    exact hfB

/-- E stands at 0 after it has followed a target of 0. -/
theorem FollowsTarget.zero {now interval : Ticks} {x y : HeatStages} (h : FollowsTarget now interval 0 x y) : y.energized = 0 := by
  obtain ⟨hfall, hstay, -, -⟩ := h
  obtain he | he := Nat.eq_zero_or_pos x.energized
  · rw [hstay he, he]
  · rw [hfall he]

/-! ## The voltage sample (O49) -/

theorem isSenseFault_iff (v : Nat) : isSenseFault v = true ↔ v = 0 ∨ v = 6000 := by
  rw [isSenseFault, Bool.or_eq_true, beq_iff_eq, beq_iff_eq]

theorem isSenseFault_eq (v : Nat) : isSenseFault v = decide (v = 0 ∨ v = 6000) := by
  rw [Bool.eq_iff_iff, isSenseFault_iff, decide_eq_true_iff]

section
variable (s : State) (v : Nat)

/-- A low-side sample, the sense-fault readings among them (R146, R147). -/
abbrev State.belowSupply : Prop := v = 0 ∨ v = 6000 ∨ v < s.shared SharedItem.lowThreshold

theorem State.classifyVoltage_low : s.classifyVoltage v = .lowSide ↔ s.belowSupply v := by
  unfold State.classifyVoltage State.belowSupply isSenseFault
  simp only [Bool.or_eq_true, decide_eq_true_eq, beq_iff_eq]
  split_ifs with h1 h2 h3 <;> simp only [false_iff, true_iff] <;> omega

theorem State.classifyVoltage_high :
    s.classifyVoltage v = .highSide ↔ ¬ s.belowSupply v ∧ s.shared SharedItem.highThreshold < v := by
  unfold State.classifyVoltage State.belowSupply isSenseFault
  simp only [Bool.or_eq_true, Bool.and_eq_true, decide_eq_true_eq, beq_iff_eq]
  split_ifs with h1 h2 h3 <;> simp only [false_iff, true_iff] <;> omega

theorem State.classifyVoltage_band :
    s.classifyVoltage v = .band ↔ ¬ s.belowSupply v
      ∧ s.shared SharedItem.lowThreshold + s.shared SharedItem.voltageHysteresis ≤ v
      ∧ v + s.shared SharedItem.voltageHysteresis ≤ s.shared SharedItem.highThreshold ∧ v ≤ s.shared SharedItem.highThreshold := by
  unfold State.classifyVoltage State.belowSupply isSenseFault
  simp only [Bool.or_eq_true, Bool.and_eq_true, decide_eq_true_eq, beq_iff_eq]
  split_ifs with h1 h2 h3 <;> simp only [false_iff, true_iff] <;> omega

end

/-- A run rises at a sample of its class, told by what the class means. -/
theorem nextRun_of_iff {cls wanted : SampleClass} {P : Prop} [Decidable P] (h : cls = wanted ↔ P) (run : Nat) :
    nextRun (cls == wanted) run = if P then min 255 (run + 1) else 0 :=
  if_congr (beq_iff_eq.trans h) rfl rfl

theorem exec_voltageSample {s : State} (hm : s.mode = .operating) (v : Nat) :
    exec (.voltageSample v) s = .next
      ({ s.reach s.sm.nextSample with sm := { s.sm with nextSample := s.sm.nextSample + millis 50 } }.takeSample (voltageReading v)) := by
  show execVoltageSample v s = _
  unfold execVoltageSample
  rw [State.whenOperating_operating _ _ hm]
  rfl

/-- A sample moves the meter, posts SUPPLY_CONDITION where the condition or VSENSE_FAULT changes, and has both E follow. -/
theorem State.takeSample_taken {b u : State} {m : SupplyMeter} {v : Nat} (hmeter : m = b.sm.take v (b.classifyVoltage v))
    (hu : u = b.takeSample v) :
    (∃ hA hB : HeatStages, u = (((({ b with sm := m } : State).postIf (m.senseFault != b.sm.senseFault || m.condition != b.sm.condition)
        .supplyCondition).onHsc .A (fun _ => hA)).onHsc .B (fun _ => hB)))
      ∧ ∀ p, FollowsTarget b.now (b.stageTicks p) (u.heatTarget p) (b.pocket p).hsc (u.pocket p).hsc := by
  obtain ⟨c, hc⟩ : ∃ c, c = (m.senseFault != b.sm.senseFault || m.condition != b.sm.condition) := ⟨_, rfl⟩
  have hboth : u = ((({ b with sm := m } : State).postIf c .supplyCondition).followE .A).followE .B := by
    rw [hu, State.takeSample, ← hmeter, ← hc]
  obtain ⟨hpockets, hfollows⟩ := State.followE_both hboth
  refine ⟨hc ▸ hpockets, fun p => ?_⟩
  have h := hfollows p
  rw [State.pocket_postIf] at h
  cases c <;> exact h

/-- Settles O49. -/
theorem voltageSampleMovesTheCondition : Obligations.VoltageSampleMovesTheCondition := by
  intro v s hm hv
  obtain ⟨b, hb⟩ : ∃ b : State, b = { s.reach s.sm.nextSample with sm := { s.sm with nextSample := s.sm.nextSample + millis 50 } } := ⟨_, rfl⟩
  obtain ⟨m, hmeter⟩ : ∃ m, m = b.sm.take v (b.classifyVoltage v) := ⟨_, rfl⟩
  obtain ⟨u, hu⟩ : ∃ u, u = b.takeSample v := ⟨_, rfl⟩
  have hexec : exec (.voltageSample v) s = .next u := by
    rw [exec_voltageSample hm, voltageReading, Nat.min_eq_left hv, ← hb, hu]
  obtain ⟨⟨hA, hB, hmade⟩, hfollows⟩ := State.takeSample_taken hmeter hu
  obtain ⟨c, hc⟩ : ∃ c, c = (m.senseFault != b.sm.senseFault || m.condition != b.sm.condition) := ⟨_, rfl⟩
  rw [← hc] at hmade
  have hchanged : c = true ↔ m.condition ≠ s.sm.condition ∨ m.senseFault ≠ s.sm.senseFault := by
    have hsm : b.sm.condition = s.sm.condition ∧ b.sm.senseFault = s.sm.senseFault := by
      rw [hb]
      exact ⟨rfl, rfl⟩
    rw [hc, Bool.or_eq_true, bne_iff_ne, bne_iff_ne, hsm.1, hsm.2, or_comm]
  have hbs : b.now = max s.now s.sm.nextSample ∧ b.pending = s.pending ∧ b.mode = s.mode ∧ b.loadedAt = s.loadedAt
      ∧ b.levelLines = s.levelLines ∧ b.sa = s.sa ∧ b.ps = s.ps ∧ (∀ p, b.pocket p = s.pocket p) ∧ (∀ q, b.port q = s.port q) := by
    rw [hb]
    exact ⟨rfl, rfl, rfl, rfl, rfl, rfl, rfl, fun p => by cases p <;> rfl, fun q => by cases q <;> rfl⟩
  obtain ⟨hnow, hpending, hmode, hloaded, hlines, hsa, hps, hpockets, hports⟩ := hbs
  have hub : u.now = b.now ∧ u.sm = m ∧ u.pending = b.pending ∧ u.mode = b.mode ∧ u.loadedAt = b.loadedAt
      ∧ u.levelLines = b.levelLines ∧ u.sa = b.sa ∧ u.ps = b.ps ∧ (∀ p, SameButHeat (b.pocket p) (u.pocket p))
      ∧ ∀ q, u.port q = if c = true then (b.port q).post .supplyCondition else b.port q := by
    rw [hmade]
    cases c <;>
      exact ⟨rfl, rfl, rfl, rfl, rfl, rfl, rfl, rfl, fun p => by cases p <;> rfl, fun q => by cases q <;> rfl⟩
  obtain ⟨unow, usm, upending, umode, uloaded, ulines, usa, ups, upockets, uports⟩ := hub
  have hclass : b.classifyVoltage v = s.classifyVoltage v := by
    rw [hb]
    rfl
  rw [hclass] at hmeter
  refine ⟨u, m.lowRun, m.highRun, m.bandRun, hexec, unow.trans hnow, ?_, ?_, ?_, ?_, fun hne p => ?_, fun h q => ?_, fun h q => ?_,
    upending.trans hpending, umode.trans hmode, uloaded.trans hloaded, ulines.trans hlines, usa.trans hsa, ups.trans hps,
    fun p => hpockets p ▸ upockets p, fun p => ?_⟩
  · rw [usm, ← isSenseFault_eq, hmeter, hb]
    simp only [SupplyMeter.take, nextCondition, isSenseFault_iff]
    rfl
  · rw [hmeter, hb]
    exact nextRun_of_iff (s.classifyVoltage_low v) s.sm.lowRun
  · rw [hmeter, hb]
    exact nextRun_of_iff (s.classifyVoltage_high v) s.sm.highRun
  · rw [hmeter, hb]
    exact nextRun_of_iff (s.classifyVoltage_band v) s.sm.bandRun
  · have hzero : u.heatTarget p = 0 := State.heatTarget_eq_zero u p (by simp [hne])
    exact FollowsTarget.zero (hzero ▸ hfollows p)
  · rw [usm, ← hchanged] at h
    rw [uports, if_pos h, hports]
  · rw [usm, ← hchanged] at h
    rw [uports, if_neg h, hports]
  · have hticks : b.stageTicks p = s.stageTicks p := by
      rw [hb]
      rfl
    have h := hfollows p
    rwa [hticks, hpockets, ← unow] at h

/-! ## HLIM (O42) -/

theorem exec_hlimOpen {s : State} {p : Pocket} (hm : s.mode = .operating) (h : (s.pocket p).lines.hlimClosed = true) :
    exec (.hlimOpen p) s = .next (((s.onLines p (fun l => { l with hlimClosed := false })).dropE p).report p .highLimit none) := by
  show execHlimOpen p s = _
  unfold execHlimOpen
  rw [if_pos h, State.whenOperating_operating _ _ (by simpa using hm)]

theorem exec_hlimClose {s : State} {p : Pocket} (hm : s.mode = .operating) (h : (s.pocket p).lines.hlimClosed = false) :
    exec (.hlimClose p) s = .next ((s.onLines p (fun l => { l with hlimClosed := true })).followE p) := by
  show execHlimClose p s = _
  unfold execHlimClose
  rw [if_neg (by rw [h]; exact Bool.false_ne_true), State.whenOperating_operating _ _ (by simpa using hm)]

/-- E falls to 0 where its target is 0. -/
theorem State.dropE_of_blocked {s : State} {p : Pocket} (h : s.heatTarget p = 0) :
    s.dropE p = s.setPocket p { s.pocket p with hsc := (s.pocket p).hsc.withEnergized s.now 0 } := by
  rw [State.dropE, h]
  simp only [Nat.min_zero]
  rfl

/-- A trip of a pocket whose E has just been dropped is a trip of the pocket before. -/
theorem Tripped.of_hsc {p : Pocket} {s t : State} {k : HeatStages} (h : Tripped p (s.setPocket p { s.pocket p with hsc := k }) t) :
    Tripped p s t := by
  obtain ⟨hresponse, hleft, hother, hgain⟩ := h
  have hclock : (s.setPocket p { s.pocket p with hsc := k }).now = s.now ∧
      (s.setPocket p { s.pocket p with hsc := k }).phaseTicks p = s.phaseTicks p := by cases p <;> exact ⟨rfl, rfl⟩
  rw [State.pocket_setPocket] at hresponse hleft hother
  rw [hclock.1, hclock.2] at hresponse
  refine ⟨hresponse, fun hs => ?_, fun hs => ?_, fun q => ?_⟩
  · obtain ⟨hheat, hhalted, hpending, hme, htm, honly⟩ := hleft hs
    rw [State.pocket_setPocket] at hhalted hme htm
    have hticks : (s.setPocket p { s.pocket p with hsc := k }).coastTicks p = s.coastTicks p := by cases p <;> rfl
    rw [hclock.1, hticks] at hhalted
    exact ⟨.of_setPocket (by rfl) hheat, hhalted, hpending, hme, htm, (OnlyPocketAndAccount.setPocket p s _).trans honly⟩
  · obtain ⟨hdmc, hrcu, hme, htm, honly⟩ := hother hs
    exact ⟨hdmc, hrcu, hme, htm, (OnlyPocketAndLatches.setPocket p s _).trans honly⟩
  · simpa using hgain q

theorem State.secondsCount_onLines (s : State) (p : Pocket) (f : PocketLines → PocketLines) :
    (s.onLines p f).secondsCount = s.secondsCount := s.secondsCount_setPocket p _

/-- Settles O42: an opening cuts E and trips, a closing lets E follow. -/
theorem highLimitCutsHeatAndTrips : Obligations.HighLimitCutsHeatAndTrips := by
  intro p s hm
  refine ⟨?_, fun h => ?_, fun h => ?_, ?_⟩
  · rintro h b hb
    have hblocked : b.heatTarget p = 0 := by
      refine b.heatTarget_eq_zero p ?_
      rw [hb]
      simp
    obtain ⟨k, hk⟩ : ∃ k, k = (b.pocket p).hsc.withEnergized b.now 0 := ⟨_, rfl⟩
    have hdrop : b.dropE p = b.setPocket p { b.pocket p with hsc := k } := hk ▸ State.dropE_of_blocked hblocked
    obtain ⟨htripped, hrecords, hlist, hcount, -⟩ := (b.dropE p).report_trip p .highLimit none rfl
    have hzero := State.dropE_zero hblocked
    refine ⟨(b.dropE p).report p .highLimit none, by rw [exec_hlimOpen hm h, hb], Nat.le_zero.mp (hzero ▸ hcount), ?_, ?_, ?_⟩
    · rw [hdrop] at htripped ⊢
      exact htripped.of_hsc
    · rw [hdrop, State.pocket_setPocket] at hrecords
      rw [hdrop]
      exact hrecords
    · rw [hdrop, State.pocket_setPocket, State.secondsCount_setPocket, hb, State.secondsCount_onLines] at hlist
      rw [hdrop, hb]
      simpa using hlist
  · show execHlimOpen p s = _
    unfold execHlimOpen
    rw [if_neg (by rw [h]; exact Bool.false_ne_true)]
  · show execHlimClose p s = _
    unfold execHlimClose
    rw [if_pos h]
  · rintro h b hb
    obtain ⟨k, hmade, hfollows⟩ := b.followE_followed p
    refine ⟨b.followE p, k, by rw [exec_hlimClose hm h, hb], hmade, ?_⟩
    have hbs : b.now = s.now ∧ b.stageTicks p = s.stageTicks p ∧ (b.pocket p).hsc = (s.pocket p).hsc := by
      rw [hb]
      cases p <;> exact ⟨rfl, rfl, rfl⟩
    rwa [hbs.1, hbs.2.1, hbs.2.2] at hfollows

end Sys2Proof.Machine

/-! PROOF. What a heat stage controller is told of its granted count (R105, R106, R140): each of its parts once, as a change of the
record of the controller. -/

namespace Sys2Proof.Machine

/-! ## The parts -/

section
variable (now : Ticks) (g : Nat) (h : HeatStages)

/-- The release hold considered afresh beside a granted count (R106). -/
def HeatStages.holdConsidered (changed : Bool) : HeatStages :=
  if g ≤ h.level then { h with holdSince := none, askedStage := none }
  else if changed || h.holdSince.isNone then { h with holdSince := some now, askedStage := none }
  else h

theorem State.considerHold_eq (s : State) (p : Pocket) (changed : Bool) :
    s.considerHold p changed = s.onHsc p (·.holdConsidered s.now (s.granted p) changed) := rfl

/-- A hold that runs on keeps its time and what it asked for. -/
theorem HeatStages.holdConsidered_unchanged :
    h.holdConsidered now g false = { h with
      holdSince := if g ≤ h.level then none else if h.holdSince = none then some now else h.holdSince,
      askedStage := if g ≤ h.level ∨ h.holdSince = none then none else h.askedStage } := by
  unfold HeatStages.holdConsidered
  by_cases hg : g ≤ h.level
  · rw [if_pos hg, if_pos hg, if_pos (.inl hg)]
  · rw [if_neg hg, if_neg hg, Bool.false_or]
    by_cases hs : h.holdSince = none
    · rw [if_pos (by rw [hs]; rfl), if_pos hs, if_pos (.inr hs)]
    · rw [if_neg (by rwa [Option.isNone_iff_eq_none]), if_neg hs, if_neg (by tauto)]

/-- A hold that restarts has asked for nothing. -/
theorem HeatStages.holdConsidered_changed :
    h.holdConsidered now g true = { h with holdSince := if g ≤ h.level then none else some now, askedStage := none } := by
  unfold HeatStages.holdConsidered
  by_cases hg : g ≤ h.level
  · rw [if_pos hg, if_pos hg]
  · rw [if_neg hg, if_neg hg, Bool.true_or, if_pos rfl]

/-- Whether the level changed is of no account where the hold goes idle. -/
theorem HeatStages.holdConsidered_idle (hg : g ≤ h.level) (changed : Bool) :
    h.holdConsidered now g changed = h.holdConsidered now g false := by
  unfold HeatStages.holdConsidered
  rw [if_pos hg, if_pos hg]

/-- L lowered to the granted count. -/
theorem HeatStages.withLevel_min :
    h.withLevel now (min h.level g) = { h with
      level := min h.level g, lastLevelChange := if g < h.level then some now else h.lastLevelChange } := by
  unfold HeatStages.withLevel
  by_cases hg : g < h.level
  · rw [if_neg (by omega), if_pos hg]
  · have hmin : min h.level g = h.level := by omega
    rw [if_pos hmin, if_neg hg, hmin]

/-- E lowered to its target. -/
theorem HeatStages.withEnergized_min :
    h.withEnergized now (min h.energized g) = { h with
      energized := min h.energized g, lastChange := if g < h.energized then now else h.lastChange } := by
  unfold HeatStages.withEnergized
  by_cases hg : g < h.energized
  · rw [if_neg (by omega), if_pos hg]
  · have hmin : min h.energized g = h.energized := by omega
    rw [if_pos hmin, if_neg hg, hmin]

end

section
variable {s : State} {p : Pocket}

theorem State.holdRanOut_iff : s.holdRanOut p = true ↔ HoldRanOut s.now (s.holdTicks p) (s.pocket p).hsc := by
  unfold State.holdRanOut State.holdDue HoldRanOut State.holdTicks
  cases (s.pocket p).hsc.holdSince <;> simp

/-- A loss leaves the stage that a hold has asked for, or the stage on top where the hold has run out and asked for nothing. -/
theorem State.keepAsked_eq (s : State) (p : Pocket) (top : Nat) :
    ∃ a, s.keepAsked p top = s.onHsc p (fun h => { h with askedStage := a })
      ∧ (HoldRanOut s.now (s.holdTicks p) (s.pocket p).hsc → (s.pocket p).hsc.askedStage = none → a = some top)
      ∧ (¬ (HoldRanOut s.now (s.holdTicks p) (s.pocket p).hsc ∧ (s.pocket p).hsc.askedStage = none) →
          a = (s.pocket p).hsc.askedStage) := by
  have hcond : (s.holdRanOut p && (s.pocket p).hsc.askedStage.isNone) = true
      ↔ HoldRanOut s.now (s.holdTicks p) (s.pocket p).hsc ∧ (s.pocket p).hsc.askedStage = none := by
    rw [Bool.and_eq_true, State.holdRanOut_iff, Option.isNone_iff_eq_none]
  by_cases h : HoldRanOut s.now (s.holdTicks p) (s.pocket p).hsc ∧ (s.pocket p).hsc.askedStage = none
  · exact ⟨some top, by rw [State.keepAsked, if_pos (hcond.mpr h)], fun _ _ => rfl, fun hno => absurd h hno⟩
  · refine ⟨(s.pocket p).hsc.askedStage, ?_, fun h1 h2 => absurd ⟨h1, h2⟩ h, fun _ => rfl⟩
    rw [State.keepAsked, if_neg fun hc => h (hcond.mp hc)]
    exact (s.setPocket_pocket p).symm

theorem State.onHsc_pocket (s : State) (p : Pocket) (f : HeatStages → HeatStages) : ((s.onHsc p f).pocket p).hsc = f (s.pocket p).hsc := by
  simp [State.onHsc]

theorem State.onHsc_const (s : State) (p : Pocket) (f : HeatStages → HeatStages) :
    s.onHsc p f = s.onHsc p (fun _ => f (s.pocket p).hsc) := rfl

theorem State.now_onHsc (s : State) (p : Pocket) (f : HeatStages → HeatStages) : (s.onHsc p f).now = s.now := by
  simp [State.onHsc]

theorem State.dropE_eq (s : State) (p : Pocket) :
    s.dropE p = s.onHsc p (fun h => h.withEnergized s.now (min h.energized ((s.dropE p).heatTarget p))) := by
  rw [State.heatTarget_dropE]
  rfl

end

/-! ## A controller told -/

/-- A controller after a loss to `g`, with `target` the target of E and `asked` what its hold has asked for. -/
def HeatStages.lowered (now : Ticks) (target g : Nat) (asked : Option Nat) (x : HeatStages) : HeatStages :=
  { x with
    level := min x.level g, lastLevelChange := if g < x.level then some now else x.lastLevelChange,
    holdSince := if g ≤ x.level then none else if x.holdSince = none then some now else x.holdSince,
    energized := min x.energized target, lastChange := if target < x.energized then now else x.lastChange,
    askedStage := if g ≤ x.level ∨ x.holdSince = none then none else asked }

/-- The controller's parts one after another: L, the hold, E. -/
theorem HeatStages.lowered_eq (now : Ticks) (target g : Nat) (asked : Option Nat) (x : HeatStages) :
    (({ x with askedStage := asked }.withLevel now (min x.level g)).holdConsidered now g (decide (g < x.level))).withEnergized now
      (min x.energized target) = x.lowered now target g asked := by
  obtain ⟨y, hy⟩ : ∃ y, y = { x with askedStage := asked }.withLevel now (min x.level g) := ⟨_, rfl⟩
  have hlevel := hy.trans (({ x with askedStage := asked } : HeatStages).withLevel_min now g)
  have hchanged : y.holdConsidered now g (decide (g < x.level)) = y.holdConsidered now g false := by
    by_cases hg : g < x.level
    · refine y.holdConsidered_idle now g ?_ _
      rw [hlevel]
      exact le_min hg.le le_rfl
    · rw [decide_eq_false hg]
  have hmin : g ≤ min x.level g ↔ g ≤ x.level := by omega
  obtain ⟨z, hz⟩ : ∃ z, z = y.holdConsidered now g (decide (g < x.level)) := ⟨_, rfl⟩
  have hhold := hz.trans (hchanged.trans (y.holdConsidered_unchanged now g))
  have hE : x.energized = z.energized := by rw [hhold, hlevel]
  rw [← hy, ← hz, hE, z.withEnergized_min now target, hhold, hlevel]
  simp only [hmin]
  rfl

theorem State.tellGranted_loss {s u : State} {p : Pocket} {before : Nat} (hlt : s.granted p < before) (hu : u = s.tellGranted p before) :
    ∃ a, u = s.onHsc p (·.lowered s.now (u.heatTarget p) (s.granted p) a)
      ∧ (HoldRanOut s.now (s.holdTicks p) (s.pocket p).hsc → (s.pocket p).hsc.askedStage = none → a = some before)
      ∧ (¬ (HoldRanOut s.now (s.holdTicks p) (s.pocket p).hsc ∧ (s.pocket p).hsc.askedStage = none) →
          a = (s.pocket p).hsc.askedStage) := by
  obtain ⟨a, hkept, hasked⟩ := s.keepAsked_eq p before
  refine ⟨a, ?_, hasked⟩
  obtain ⟨x, hx⟩ : ∃ x, x = ((s.keepAsked p before).onHsc p (fun h => h.withLevel s.now (min h.level (s.granted p)))).considerHold p
      (decide (s.granted p < (s.pocket p).hsc.level)) := ⟨_, rfl⟩
  have hdrop : u = x.dropE p := by rw [hu, State.tellGranted, if_pos hlt, hx]
  have htarget := hdrop.trans (x.dropE_eq p)
  rw [← hdrop] at htarget
  have hmade : x = s.onHsc p (fun h => ({ h with askedStage := a }.withLevel s.now (min h.level (s.granted p))).holdConsidered s.now
      (s.granted p) (decide (s.granted p < (s.pocket p).hsc.level))) := by
    rw [hx, hkept, State.considerHold_eq]
    simp only [State.onHsc_onHsc, State.granted_onHsc, State.now_onHsc]
  refine htarget.trans ?_
  rw [hmade, State.onHsc_onHsc, State.now_onHsc, State.onHsc_const s p (·.lowered s.now (u.heatTarget p) (s.granted p) a),
    State.onHsc_const]
  have hcounts : ∀ c : Bool, (({ (s.pocket p).hsc with askedStage := a }.withLevel s.now
      (min (s.pocket p).hsc.level (s.granted p))).holdConsidered s.now (s.granted p) c).energized = (s.pocket p).hsc.energized := by
    intro c
    unfold HeatStages.holdConsidered HeatStages.withLevel
    split_ifs <;> rfl
  rw [hcounts, HeatStages.lowered_eq]

theorem State.tellGranted_gain {s u : State} {p : Pocket} {before : Nat} (hlt : before < s.granted p) (hu : u = s.tellGranted p before) :
    u = s.onHsc p (fun x => { x with
      freshGrant := true
      holdSince := if s.granted p ≤ x.level then none else if x.holdSince = none then some s.now else x.holdSince
      askedStage := if s.granted p ≤ x.level ∨ x.holdSince = none then none else x.askedStage }) := by
  rw [hu, State.tellGranted, if_neg (by omega), if_pos hlt, State.considerHold_eq, State.granted_onHsc, State.now_onHsc,
    State.onHsc_onHsc]
  simp only [HeatStages.holdConsidered_unchanged]

theorem State.tellGranted_same {s : State} {p : Pocket} {before : Nat} (h : s.granted p = before) : s.tellGranted p before = s := by
  rw [State.tellGranted, if_neg (by omega), if_neg (by omega)]

/-- A controller told of its granted count (R105, R106, R140). -/
theorem State.tellGranted_told {s u : State} {p : Pocket} {before : Nat} (hu : u = s.tellGranted p before) :
    ToldOfGrants s.now (s.holdTicks p) (u.heatTarget p) before (s.granted p) (s.pocket p).hsc (u.pocket p).hsc := by
  refine ⟨fun h => ?_, fun h => ?_, fun h => ?_⟩
  · rw [hu, State.tellGranted_same h]
  · rw [State.tellGranted_gain h hu, State.onHsc_pocket]
  · obtain ⟨a, hmade, hran, hkept⟩ := State.tellGranted_loss h hu
    obtain ⟨t, ht⟩ : ∃ t, t = u.heatTarget p := ⟨_, rfl⟩
    rw [← ht] at hmade ⊢
    rw [hmade, State.onHsc_pocket]
    refine ⟨rfl, fun hidle => if_pos hidle, fun hl hr hn => ?_, fun hl hsome hno => ?_⟩
    · obtain ⟨⟨t, hs, -⟩, -⟩ := id hr
      refine (if_neg ?_).trans (hran hr hn)
      rw [hs]
      simpa using hl
    · exact (if_neg (not_or.mpr ⟨not_le.mpr hl, hsome⟩)).trans (hkept hno)

end Sys2Proof.Machine

/-! PROOF. The timers of the heat stage controller (O43), and the supply level (O47). -/

namespace Sys2Proof.Machine

/-! ## ENERGIZE_STEP and the end of a recovery -/

theorem State.heatTarget_reach (s : State) (t : Ticks) (p : Pocket) : (s.reach t).heatTarget p = s.heatTarget p := by cases p <;> rfl

theorem State.reach_now (s : State) : s.reach s.now = s := by
  unfold State.reach
  rw [Nat.max_self]

theorem exec_energizeStep {s : State} (hm : s.mode = .operating) (p : Pocket) :
    exec (.energizeStep p) s = .next
      (if (s.pocket p).hsc.energized < s.heatTarget p then (s.reach (s.riseTime p)).riseE p else s) := by
  show execEnergizeStep p s = _
  unfold execEnergizeStep
  rw [State.whenOperating_operating _ _ hm]

/-- At the end of the stage interval a rise is due. -/
theorem State.riseDue_reach (s : State) (p : Pocket) : (s.reach (s.riseTime p)).riseDue p = true := by
  rw [State.riseDue_iff]
  rintro ⟨t, ht, hlt⟩
  rw [State.pocket_reach] at ht
  have hsame : (s.reach (s.riseTime p)).stageTicks p = s.stageTicks p := rfl
  have htime : s.riseTime p = t + s.stageTicks p := by
    rw [State.riseTime, ht]
    rfl
  rw [hsame, htime] at hlt
  exact absurd hlt (Nat.not_lt.mpr (Nat.le_max_right _ _))

theorem energizeStepRaisesByOne : EnergizeStepRaisesByOne := by
  intro p s hm
  refine ⟨fun h => ?_, fun b h hb => ?_⟩
  · rw [exec_energizeStep hm, if_neg (Nat.not_lt.mpr h)]
  · have hreach : b = s.reach (s.riseTime p) := by
      rw [hb, State.riseTime]
      cases (s.pocket p).hsc.lastRise with
      | some t => rfl
      | none => exact s.reach_now.symm
    have hrises : ((b.pocket p).hsc.energized < b.heatTarget p && b.riseDue p) = true := by
      rw [hreach, Bool.and_eq_true, decide_eq_true_iff, State.pocket_reach, State.heatTarget_reach]
      exact ⟨h, s.riseDue_reach p⟩
    rw [exec_energizeStep hm, if_pos h, ← hreach, State.riseE, if_pos hrises]

theorem exec_recoveryEnd {s : State} {p : Pocket} (hm : s.mode = .operating) {t : Ticks} (h : (s.pocket p).hsc.recoveryDue = some t) :
    exec (.recoveryEnd p) s = .next (((s.reach t).onHsc p (fun h => { h with recoveryDue := none })).followE p) := by
  show execRecoveryEnd p s = _
  unfold execRecoveryEnd
  rw [State.whenOperating_operating _ _ hm, h]

theorem recoveryEndLetsEFollow : RecoveryEndLetsEFollow := by
  intro p s b t hm ht hb
  obtain ⟨x, hx⟩ : ∃ x, x = b.onHsc p (fun h => { h with recoveryDue := none }) := ⟨_, rfl⟩
  obtain ⟨k, hmade, hfollows⟩ := x.followE_followed p
  have hbs : x.now = b.now ∧ x.stageTicks p = s.stageTicks p ∧ (x.pocket p).hsc = { (s.pocket p).hsc with recoveryDue := none } := by
    rw [hx, hb]
    cases p <;> exact ⟨rfl, rfl, rfl⟩
  rw [hbs.1, hbs.2.1, hbs.2.2] at hfollows
  refine ⟨x.followE p, k, by rw [exec_recoveryEnd hm ht, ← hb, hx], ?_, hfollows⟩
  rw [hmade, hx, State.onHsc_onHsc]

/-! ## The release hold -/

theorem exec_releaseHoldExpired {s : State} {p : Pocket} (hm : s.mode = .operating) {t : Ticks}
    (h : (s.pocket p).hsc.holdSince = some t) :
    exec (.releaseHoldExpired p) s = .next
      (if (s.pocket p).hsc.freshGrant then s else (s.reach (t + seconds (s.item p PocketItem.releaseHold))).askRelease p) := by
  show execReleaseHoldExpired p s = _
  unfold execReleaseHoldExpired
  rw [State.whenOperating_operating _ _ hm, State.holdDue, h]
  rfl

/-- The newest entry of a pocket that has one is lost with its request. -/
theorem entryLost_withoutNewest {gs : List Grant} {p : Pocket} (h : ∃ g ∈ gs, g.pocket = p) (rs : List StageRequest) :
    EntryLost p (gs, rs) (withoutNewest gs p, withoutRequest rs p) := by
  obtain ⟨newer, older, g, hsplit, hg, hnewer, herased⟩ := eraseP_split (fun g : Grant => g.pocket == p) gs.reverse (by simpa using h)
  refine ⟨older.reverse, newer.reverse, g, ?_, beq_iff_eq.mp hg, fun x hx => ?_, ?_, withoutRequest_eq rs p⟩
  · simpa using congrArg List.reverse hsplit
  · exact beq_eq_false_iff_ne.mp (hnewer x (List.mem_reverse.mp hx))
  · show (gs.reverse.eraseP (fun g => g.pocket == p)).reverse = _
    rw [herased, List.reverse_append]

theorem State.granted_pos_iff (s : State) (p : Pocket) : 0 < s.granted p ↔ ∃ g ∈ s.sa.grants, g.pocket = p := by
  rw [State.granted, List.length_pos_iff_exists_mem, grantsOf]
  simp

/-- The release of the top stage of a pocket that has one. -/
theorem State.releaseTop_released {b : State} {p : Pocket} (h : 0 < b.granted p) : TopStageReleased p b (b.releaseTop p) := by
  obtain ⟨w, hw⟩ : ∃ w, w = b.withLists (withoutNewest b.sa.grants p) (withoutRequest b.sa.requests p) := ⟨_, rfl⟩
  obtain ⟨t, ht⟩ : ∃ t, t = w.tellGranted p (b.granted p) := ⟨_, rfl⟩
  obtain ⟨x, hx⟩ : ∃ x, x = t.considerHold p true := ⟨_, rfl⟩
  have hrelease : b.releaseTop p = x.evaluate := by rw [State.releaseTop, if_neg (by omega), ← hw, ← ht, hx]
  have hleft : w.granted p = b.granted p - 1 := by
    rw [hw, State.withLists_granted, grantsOf_withoutNewest, List.length_dropLast]
    rfl
  obtain ⟨a, hlowered, -⟩ := State.tellGranted_loss (by omega) ht
  have htg : t.granted p = w.granted p := by rw [hlowered, State.granted_onHsc]
  have htarget : x.heatTarget p = t.heatTarget p := by
    rw [hx, State.considerHold_eq]
    refine State.heatTarget_onHsc ?_ ?_ ?_ <;> rw [HeatStages.holdConsidered_changed]
  obtain ⟨target, hT⟩ : ∃ n, n = t.heatTarget p := ⟨_, rfl⟩
  rw [← hT] at hlowered htarget
  obtain ⟨k, hk⟩ : ∃ k, k = ((b.pocket p).hsc.lowered b.now target (w.granted p) a).holdConsidered b.now (w.granted p) true :=
    ⟨_, rfl⟩
  have hmade : x = (b.onHsc p (fun _ => k)).relisted (withoutNewest b.sa.grants p) (withoutRequest b.sa.requests p) := by
    have hwb : w.now = b.now ∧ (w.pocket p).hsc = (b.pocket p).hsc := by
      rw [hw]
      cases p <;> exact ⟨rfl, rfl⟩
    rw [hx, State.considerHold_eq, htg, hlowered, State.now_onHsc, State.onHsc_onHsc, State.onHsc_const, hwb.1, hwb.2,
      ← hk, hw]
    cases p <;> rfl
  have hxg : x.granted p = b.granted p - 1 := by rw [hx, State.considerHold_eq, State.granted_onHsc, htg, hleft]
  have hrequest : x.requestOf p = none := by
    rw [State.requestOf_eq_none, hmade]
    simp [State.relisted, withoutRequest]
  obtain ⟨hgain, hnone⟩ := x.evaluate_gainless p hrequest
  rw [hrelease]
  refine ⟨x, _, b.granted p - 1, k, rfl, entryLost_withoutNewest ((b.granted_pos_iff p).mp h) b.sa.requests, hmade, rfl, hxg, ?_, ?_,
    lt_of_le_of_lt (hgain.trans hxg.le) (by omega), hnone, x.evaluate_committed⟩
  · have hidle : (b.granted p - 1 ≤ min (b.pocket p).hsc.level (b.granted p - 1)) ↔ b.granted p - 1 ≤ (b.pocket p).hsc.level := by omega
    rw [htarget, hk, HeatStages.holdConsidered_changed, hleft]
    simp only [HeatStages.lowered, hidle]
  · rw [← hrelease]
    exact .of_moves (.releaseTop p b)

theorem releaseHoldGivesTheTopStageBack : ReleaseHoldGivesTheTopStageBack := by
  intro p s b since hm hsince hb
  have hbs : (b.pocket p).hsc = (s.pocket p).hsc ∧ b.granted p = s.granted p := by
    rw [hb]
    cases p <;> exact ⟨rfl, rfl⟩
  refine ⟨fun hfresh => ?_, fun stage hfresh hasked hne => ?_, fun hfresh hasked hzero => ?_, fun hfresh hasked hpos => ?_⟩
  · rw [exec_releaseHoldExpired hm hsince, if_pos hfresh]
  all_goals
    have hexec : exec (.releaseHoldExpired p) s = .next (b.askRelease p) := by
      rw [exec_releaseHoldExpired hm hsince, hfresh, if_neg Bool.false_ne_true, hb]
  · have hask : b.askRelease p = b.considerHold p true := by
      rw [State.askRelease, hbs.1, hasked]
      exact if_neg (hbs.2 ▸ hne)
    rw [hexec, hask, State.considerHold_eq, hbs.2]
    simp only [HeatStages.holdConsidered_changed]
  · rw [hexec, State.askRelease, hbs.1, hasked]
    exact congrArg _ (if_pos (hbs.2.trans hzero))
  · have hask : b.askRelease p = b.releaseTop p := by
      rw [State.askRelease, hbs.1]
      cases hstage : (s.pocket p).hsc.askedStage with
      | none => rfl
      | some stage => exact if_pos (hbs.2 ▸ hasked stage hstage)
    exact ⟨_, hexec, hask ▸ State.releaseTop_released (hbs.2 ▸ hpos)⟩

/-- Settles O43. -/
theorem heatStageTimersAct : Obligations.HeatStageTimersAct :=
  ⟨energizeStepRaisesByOne, recoveryEndLetsEFollow, releaseHoldGivesTheTopStageBack⟩

end Sys2Proof.Machine

/-! PROOF. The supply level (O47), and SHED, RESTORE and the expiry of a shed hold (O46). -/

namespace Sys2Proof.Machine

/-! ## What an evaluation posts -/

theorem State.postIf_latch (s : State) (c : Bool) (k : EventKind) (q : Port) :
    (s.postIf c k).port q = { s.port q with
      latch := (s.port q).latch ||| (if c = true then k.set &&& admitted (s.port q).mask else 0#24) } := by
  cases c
  · have hzero : (s.port q).latch ||| 0#24 = (s.port q).latch := BitVec.or_zero
    simp [State.postIf, hzero]
  · simp [State.postIf, PortState.post]

theorem State.evaluate_port (s : State) (q : Port) :
    s.evaluate.port q = { s.port q with latch := (s.port q).latch
      ||| (if s.evaluated.lostA = true then (EventKind.heatCurtailed .A).set &&& admitted (s.port q).mask else 0#24)
      ||| (if s.evaluated.lostB = true then (EventKind.heatCurtailed .B).set &&& admitted (s.port q).mask else 0#24) } := by
  rw [State.evaluate]
  dsimp only
  rw [State.postIf_latch, State.postIf_latch, State.port_tellGranted, State.port_tellGranted, State.port_withLists]

/-- A latch joined by events of other kinds holds a kind where it held it. -/
theorem EventSet.joined_apart {x e m k : EventSet} (c : Prop) [Decidable c] (h : e &&& k = 0#24) :
    (x ||| (if c then e &&& m else 0#24)) &&& k = x &&& k := by
  have hnone : e &&& m &&& k = 0#24 := by rw [BitVec.and_assoc, BitVec.and_comm m k, ← BitVec.and_assoc, h, BitVec.zero_and]
  split_ifs
  · rw [BitVec.and_comm, BitVec.and_or_distrib_left, BitVec.and_comm k (e &&& m), hnone, BitVec.or_zero, BitVec.and_comm]
  · rw [BitVec.or_zero]

/-- An evaluation posts HEAT_CURTAILED alone. -/
theorem State.evaluate_notPosted (s : State) {k : EventKind} (h : ∀ p, (EventKind.heatCurtailed p).set &&& k.set = 0#24) :
    NotPosted k s s.evaluate := by
  intro q
  rw [State.evaluate_port]
  exact (EventSet.joined_apart _ (h .B)).trans (EventSet.joined_apart _ (h .A))

/-! ## The supply level (O47) -/

theorem levelOfLines_eq (l2 l1 l0 : Bool) :
    levelOfLines l2 l1 l0 = 4 * (if l2 then 1 else 0) + 2 * (if l1 then 1 else 0) + (if l0 then 1 else 0) := by
  cases l2 <;> cases l1 <;> cases l0 <;> rfl

theorem exec_levelDebounceExpired {s : State} (hm : s.mode = .operating) {t : Ticks} (h : s.sa.stabilityDue = some t) :
    exec .levelDebounceExpired s = .next ((s.reach t).debounce) := by
  show execLevelDebounceExpired s = _
  unfold execLevelDebounceExpired
  rw [State.whenOperating_operating _ _ hm, h]

theorem exec_levelDebounceExpired_idle {s : State} (hm : s.mode = .operating) (h : s.sa.stabilityDue = none) :
    exec .levelDebounceExpired s = .next s := by
  show execLevelDebounceExpired s = _
  unfold execLevelDebounceExpired
  rw [State.whenOperating_operating _ _ hm, h]

/-- A kind posted before an evaluation is in the latches after it. -/
theorem LatchesGain.post_evaluate {s b : State} (k : EventKind) (h : ∀ q, b.port q = s.port q) :
    LatchesGain k s (b.post k).evaluate := by
  have hgain : LatchesGain k s (b.post k) := .post (fun q => by rw [h]) fun q => by rw [h]; exact BitVec.and_self
  exact hgain.keep (MovesTo.evaluate _).latches

/-- The level source set (R122). -/
theorem State.setSource_set (s : State) (forced : Option Nat) {b u : State}
    (hb : b = { s with sa := { s.sa with forced := forced } }) (hu : u = s.setSource forced) :
    OnlyAccountMoved b u ∧ u.levelInForce = b.levelInForce ∧ u.sa.forced = forced ∧ u.committed ≤ u.ceiling
      ∧ (s.levelInForce ≠ b.levelInForce → LatchesGain .levelChange s u ∧ u = (b.post .levelChange).evaluate)
      ∧ (s.levelInForce = b.levelInForce → NotPosted .levelChange s u ∧ u = b.evaluate) := by
  obtain ⟨x, hx⟩ : ∃ x, x = b.postIf (b.levelInForce != s.levelInForce) .levelChange := ⟨_, rfl⟩
  have hmade : u = x.evaluate := by rw [hu, State.setSource, hx, hb]
  have hports : ∀ q, b.port q = s.port q := fun q => by rw [hb]; cases q <;> rfl
  have hmoves : MovesTo b u := hmade ▸ (hx ▸ MovesTo.postIf _ _ _ : MovesTo b x).trans (.evaluate x)
  refine ⟨.of_moves hmoves, hmoves.levelInForce, ?_, hmade ▸ x.evaluate_committed, fun hne => ?_, fun heq => ?_⟩
  · obtain ⟨m, hm, -⟩ := hmoves
    rw [hm]
    show b.sa.forced = forced
    rw [hb]
  · have hpost : x = b.post .levelChange := by rw [hx, State.postIf, if_pos (bne_iff_ne.mpr hne.symm)]
    rw [hmade, hpost]
    exact ⟨.post_evaluate _ hports, rfl⟩
  · have hstays : x = b := by rw [hx, State.postIf, if_neg (by rw [bne_iff_ne, heq]; exact fun h => h rfl)]
    rw [hmade, hstays]
    refine ⟨fun q => ?_, rfl⟩
    rw [← hports q]
    exact b.evaluate_notPosted (fun p => by cases p <;> decide) q

theorem State.actSetLevel_forced (s : State) {level : Nat} (h : level ≤ 7) :
    s.actSetLevel level = (s.setSource (some level)).ok
      (be1 (s.setSource (some level)).levelSource ++ be1 ((s.setSource (some level)).levelInForce.getD 255)) := by
  rw [State.actSetLevel, if_neg (by omega), if_neg (by omega)]

theorem State.actSetLevel_follow (s : State) :
    s.actSetLevel 255 = (s.setSource none).ok
      (be1 (s.setSource none).levelSource ++ be1 ((s.setSource none).levelInForce.getD 255)) := by
  rw [State.actSetLevel, if_pos rfl]

theorem State.actSetLevel_range (s : State) {level : Nat} (h : 7 < level) (hne : level ≠ 255) : s.actSetLevel level = s.refuse .range := by
  rw [State.actSetLevel, if_neg hne, if_pos h]

theorem exec_setLevel {s : State} (hh : s.hears .S) (tag v : Byte) {reaction : Reaction} (hr : s.actSetLevel v.toNat = reaction) :
    exec (.setLevel .S tag [v]) s = .next (reaction.state.answered .S 0x60#8 tag reaction.status reaction.payload) :=
  exec_command_answered hh .setLevel tag hr

/-- Settles O47: the lines, the stability timer, and SET_LEVEL by `State.setSource_set`. -/
theorem supplyLevelFollowsLinesOrForce : Obligations.SupplyLevelFollowsLinesOrForce := by
  intro s tag v l2 l1 l0
  refine ⟨fun _ h => ?_, fun hm h => ?_, fun hm h => exec_levelDebounceExpired_idle hm h, fun t b hm ht hb => ?_, fun hh hv hne => ?_,
    fun hh hv => ?_, fun hh => ?_⟩
  · show execLevelLinesChange l2 l1 l0 s = _
    unfold execLevelLinesChange
    rw [if_pos h]
  · show execLevelLinesChange l2 l1 l0 s = _
    unfold execLevelLinesChange
    rw [if_neg h, State.whenOperating_operating _ _ (show ({ s with levelLines := levelOfLines l2 l1 l0 } : State).mode = _ from hm),
      ← levelOfLines_eq]
    rfl
  · refine ⟨(s.reach t).debounce, exec_levelDebounceExpired hm ht, fun hstays => ?_, fun hdiffers hfollow => ?_⟩
    · by_cases hsame : s.sa.debounced = some s.levelLines
      · have hdebounced : (s.reach t).debounce = { s.reach t with sa := { s.sa with stabilityDue := none } } := if_pos hsame
        rw [hdebounced, hb, ← hsame]
      · have hforced : s.sa.forced ≠ none := hstays.resolve_left hsame
        have hnone : (s.reach t).sa.forced.isNone = false := by
          rw [Option.isNone_eq_false_iff]
          exact Option.isSome_iff_ne_none.mpr hforced
        have hdiffers : ¬ (s.reach t).sa.debounced = some (s.reach t).levelLines := hsame
        rw [State.debounce, if_neg hdiffers, hnone, if_neg Bool.false_ne_true, hb]
        rfl
    · have hnone : (s.reach t).sa.forced.isNone = true := Option.isNone_iff_eq_none.mpr hfollow
      have hdiffers' : ¬ (s.reach t).sa.debounced = some (s.reach t).levelLines := hdiffers
      have hmade : (s.reach t).debounce = (b.post .levelChange).evaluate := by
        rw [State.debounce, if_neg hdiffers', hnone, if_pos rfl, hb]
        rfl
      have hports : ∀ q, b.port q = s.port q := fun q => by rw [hb]; cases q <;> rfl
      have hmoves : MovesTo b (b.post .levelChange).evaluate := (MovesTo.post _ _).trans (.evaluate _)
      rw [hmade]
      refine ⟨rfl, .of_moves hmoves, .post_evaluate _ hports, ?_, (b.post .levelChange).evaluate_committed⟩
      rw [hmoves.levelInForce, hb]
      show (match s.sa.forced with
        | some l => some l
        | none => some s.levelLines) = _
      rw [hfollow]
  · exact exec_setLevel hh tag v (s.actSetLevel_range hv fun h => hne (BitVec.eq_of_toNat_eq h))
  · obtain ⟨u, hu⟩ : ∃ u, u = s.setSource (some v.toNat) := ⟨_, rfl⟩
    obtain ⟨hmoved, hlevel, hforced, hfits, hchanged, hsame⟩ := s.setSource_set (some v.toNat) rfl hu
    have hact := s.actSetLevel_forced hv
    rw [← hu, hlevel, State.levelSource, hforced] at hact
    have hbytes : be1 v.toNat = [v] := by simp [be1]
    have hreply : s.actSetLevel v.toNat = u.ok [1#8, v] := by
      refine hact.trans (congrArg u.ok ?_)
      show be1 1 ++ be1 v.toNat = _
      rw [hbytes]
      rfl
    exact ⟨u, exec_setLevel hh tag v hreply, hmoved, hlevel, hfits, hchanged, hsame⟩
  · obtain ⟨u, hu⟩ : ∃ u, u = s.setSource none := ⟨_, rfl⟩
    obtain ⟨hmoved, hlevel, hforced, hfits, hchanged, hsame⟩ := s.setSource_set none rfl hu
    have hact := s.actSetLevel_follow
    rw [← hu, hlevel, State.levelSource, hforced] at hact
    exact ⟨u, exec_setLevel hh tag 255#8 hact, hmoved, hlevel, hfits, hchanged, hsame⟩

/-! ## SHED, RESTORE and the expiry of a hold (O46) -/

theorem State.respond_shed (s : State) (p : Pocket) (m : Byte) :
    s.respond .shed .S (be1 (pocketCode p) ++ [m]) = s.actShed p m.toNat := by cases p <;> rfl

theorem State.respond_restore (s : State) (p : Pocket) : s.respond .restore .S (be1 (pocketCode p)) = s.actRestore p := by
  cases p <;> rfl

/-- The entries and the request of a pocket leave the lists; its controller is told. -/
theorem State.removeAll_told {s u : State} {p : Pocket} (hu : u = s.removeAll p) :
    ToldOfGrants s.now (s.holdTicks p) (u.heatTarget p) (s.granted p) 0 (s.pocket p).hsc (u.pocket p).hsc := by
  obtain ⟨w, hw⟩ : ∃ w, w = s.withLists (s.sa.grants.filter (fun g => g.pocket != p)) (withoutRequest s.sa.requests p) := ⟨_, rfl⟩
  have htold := State.tellGranted_told (s := w) (p := p) (before := s.granted p) (u := u) (by rw [hu, State.removeAll, hw])
  have hwg : w.granted p = 0 := by rw [hw, State.withLists_granted, grantsOf_filter_ne_self, List.length_nil]
  have hws : w.now = s.now ∧ w.holdTicks p = s.holdTicks p ∧ (w.pocket p).hsc = (s.pocket p).hsc := by
    rw [hw]
    cases p <;> exact ⟨rfl, rfl, rfl⟩
  rwa [hwg, hws.1, hws.2.1, hws.2.2] at htold

/-- A SHED before its evaluation: the removal, the hold and the post. -/
theorem State.shed_taken {s x : State} {p : Pocket} {secs : Nat}
    (hx : x = ((s.removeAll p).setShed p (some (s.now + seconds secs))).postIf (0 < s.granted p || (s.requestOf p).isSome)
      (.heatCurtailed p)) : ShedTaken p secs s x ∧ MovesTo (s.setShed p (some (s.now + seconds secs))) x := by
  obtain ⟨due, hdue⟩ : ∃ d, d = some (s.now + seconds secs) := ⟨_, rfl⟩
  obtain ⟨w, hw⟩ : ∃ w, w = s.withLists (s.sa.grants.filter (fun g => g.pocket != p)) (withoutRequest s.sa.requests p) := ⟨_, rfl⟩
  obtain ⟨k, hk⟩ := w.tellGranted_own p (s.granted p)
  have hremoved : s.removeAll p = w.onHsc p (fun _ => k) := by rw [State.removeAll, ← hw, hk]
  have htold := State.removeAll_told (s := s) (p := p) rfl
  obtain ⟨c, hc⟩ : ∃ c, c = (0 < s.granted p || (s.requestOf p).isSome : Bool) := ⟨_, rfl⟩
  have htaken : c = true ↔ 0 < s.granted p ∨ s.requestOf p ≠ none := by
    rw [hc, Bool.or_eq_true, decide_eq_true_iff, Option.isSome_iff_ne_none]
  rw [← hc, ← hdue] at hx
  have hheld : (s.removeAll p).setShed p due = ((s.setShed p due).withLists (s.sa.grants.filter (fun g => g.pocket != p))
      (withoutRequest s.sa.requests p)).onHsc p (fun _ => k) := by
    rw [hremoved, hw]
    cases p <;> rfl
  have hxp : x.pocket p = { (s.removeAll p).pocket p with shedDue := due } ∧ x.pocket (otherPocket p) = s.pocket (otherPocket p)
      ∧ x.heatTarget p = (s.removeAll p).heatTarget p ∧ ∀ q, (s.removeAll p).port q = s.port q := by
    rw [hx, hremoved, hw]
    cases c <;> cases p <;> exact ⟨rfl, rfl, rfl, fun q => by cases q <;> rfl⟩
  obtain ⟨hown, hother, htarget, hports⟩ := hxp
  have hmoves : MovesTo (s.setShed p due) x := by
    rw [hx, hheld]
    exact (MovesTo.withLists _ _ _).trans ((MovesTo.onHsc _ _ _).trans (.postIf _ _ _))
  refine ⟨⟨hdue ▸ .of_moves hmoves, hother, ?_, ?_, fun q => ?_⟩, hdue ▸ hmoves⟩
  · have hlists : x.sa = (s.removeAll p).sa := by
      rw [hx]
      cases c <;> cases p <;> rfl
    have hgrants : s.sa.grants.filter (fun g => g.pocket != p) = s.sa.grants.filter (fun g => g.pocket ≠ p) :=
      List.filter_congr fun g _ => by rw [Bool.eq_iff_iff, bne_iff_ne, decide_eq_true_iff]
    rw [hlists, State.removeAll_sa, withoutRequest_eq, hgrants]
  · rw [htarget, hown]
    exact htold
  · have hport : x.port q = if c = true then (s.port q).post (.heatCurtailed p) else s.port q := by
      rw [hx, State.postIf]
      split_ifs <;> simp [State.setShed, hports]
    rw [hport]
    exact if_congr htaken rfl rfl

theorem State.actShed_range {s : State} {p : Pocket} {m : Nat} (h : m = 0 ∨ 240 < m) : s.actShed p m = s.refuse .range := by
  rw [State.actShed, if_pos (by simpa using h)]

theorem State.actShed_taken {s : State} {p : Pocket} {m : Nat} (hpos : 1 ≤ m) (hmax : m ≤ 240) :
    s.actShed p m = (s.shed p (m * 60)).ok (be2 (m * 60)) := by
  rw [State.actShed, if_neg]
  simp only [Bool.or_eq_true, decide_eq_true_eq]
  omega

theorem exec_shedHoldExpired {s : State} {p : Pocket} (hm : s.mode = .operating) {t : Ticks} (h : (s.pocket p).shedDue = some t) :
    exec (.shedHoldExpired p) s = .next ((s.reach t).endHold p) := by
  show execShedHoldExpired p s = _
  unfold execShedHoldExpired
  rw [State.whenOperating_operating _ _ hm, h]

/-- Settles O46: a SHED by `State.shed_taken`, and the two ends of a hold, each by the evaluation that follows. -/
theorem shedHoldsAndRestores : Obligations.ShedHoldsAndRestores := by
  intro p tag m s
  refine ⟨fun hh h => ?_, fun hh hpos hmax => ?_, fun hh h => ?_, fun t hh h => ?_, fun t hm h => ?_⟩
  · have hrange : m.toNat = 0 ∨ 240 < m.toNat := h.imp (fun h => by rw [h]; rfl) id
    exact exec_command_answered hh .shed tag ((s.respond_shed p m).trans (State.actShed_range hrange))
  · obtain ⟨x, hx⟩ : ∃ x, x = ((s.removeAll p).setShed p (some (s.now + seconds (m.toNat * 60)))).postIf
        (0 < s.granted p || (s.requestOf p).isSome) (.heatCurtailed p) := ⟨_, rfl⟩
    have hmade : s.shed p (m.toNat * 60) = x.evaluate := by rw [State.shed, hx]
    obtain ⟨htaken, hmoves⟩ := State.shed_taken hx
    obtain ⟨-, -, hsa, -, hports⟩ := id htaken
    have hempty : x.granted p = 0 ∧ x.requestOf p = none := by
      rw [State.requestOf_eq_none, State.granted, hsa]
      simp [grantsOf]
    obtain ⟨hgain, hnone⟩ := x.evaluate_gainless p hempty.2
    refine ⟨x.evaluate, ?_, ⟨x, htaken, rfl⟩, ?_, Nat.le_zero.mp (hempty.1 ▸ hgain), hnone, x.evaluate_committed, fun hsome q => ?_⟩
    · rw [← hmade]
      exact exec_command_answered hh .shed tag ((s.respond_shed p m).trans (State.actShed_taken hpos hmax))
    · exact .of_moves (hmoves.trans (.evaluate x))
    · have hpost := hports q
      rw [if_pos hsome] at hpost
      rw [← hpost]
      exact (MovesTo.evaluate x).latches q
  · have hact : s.actRestore p = s.ok (be2 0) := by rw [State.actRestore, h]
    exact exec_command_answered hh .restore tag ((s.respond_restore p).trans hact)
  · have hact : s.actRestore p = (s.endHold p).ok (be2 (s.secondsUntil t)) := by rw [State.actRestore, h]
    exact ⟨s.endHold p, exec_command_answered hh .restore tag ((s.respond_restore p).trans hact), rfl,
      .of_moves (.evaluate _), State.evaluate_committed _⟩
  · exact ⟨_, exec_shedHoldExpired hm h, rfl, .of_moves (.evaluate _), State.evaluate_committed _⟩

end Sys2Proof.Machine

/-! PROOF. The supply account and an evaluation, move by move (O45). -/

namespace Sys2Proof.Machine

/-! ## Committed power (R128, R129) -/

theorem grantsOf_eq_filter (gs : List Grant) (p : Pocket) : grantsOf gs p = gs.filter (fun g => g.pocket = p) :=
  List.filter_congr fun g _ => by rw [Bool.eq_iff_iff, beq_iff_eq, decide_eq_true_iff]

theorem State.metered_iff (s : State) : s.metered = true ↔ s.shared SharedItem.basis = 1 := beq_iff_eq

/-- A pocket's entries of which a condition holds are the entries of which the two conditions hold. -/
theorem grantsOf_filter (gs : List Grant) (p : Pocket) (c : Grant → Prop) [DecidablePred c] :
    (grantsOf gs p).filter (fun g => c g) = gs.filter (fun g => g.pocket = p ∧ c g) := by
  rw [grantsOf_eq_filter, List.filter_filter]
  exact List.filter_congr fun g _ => by rw [Bool.eq_iff_iff, Bool.and_eq_true]; simp only [decide_eq_true_iff]; exact and_comm

theorem committedPowerIsReckoned : CommittedPowerIsReckoned := by
  intro s gs sum hsum
  refine ⟨fun h => ?_, fun h power count hread => ?_⟩
  · rw [State.committedOf, if_neg fun hm => h (s.metered_iff.mp hm), hsum, List.filter_true]
    rfl
  · have hsnapshot : ∀ p, s.snapshot p = (power p, count p) := by
      intro p
      obtain ⟨hsome, hnone⟩ := hread p
      rw [State.snapshot]
      cases hr : (s.pocket p).meter.reading with
      | none =>
        obtain ⟨hp, hc⟩ := hnone hr
        rw [hp, hc]
      | some m =>
        obtain ⟨hp, hc⟩ := hsome m hr
        rw [hp, hc]
    have hpart : ∀ p, s.meteredPart gs p = min (power p) (sum (fun g => g.pocket = p ∧ g.stage ≤ count p))
        + sum (fun g => g.pocket = p ∧ count p < g.stage) := by
      intro p
      rw [State.meteredPart, hsnapshot, hsum, hsum]
      dsimp only
      rw [grantsOf_filter, grantsOf_filter]
      rfl
    rw [State.committedOf, if_pos (s.metered_iff.mpr h), hpart, hpart]

/-! ## Classes, fit and reclaim -/

theorem PriorityClass.lowerThan_iff (c d : PriorityClass) : c.lowerThan d = true ↔ higherClass d c := by
  unfold higherClass
  cases c <;> cases d <;> decide

theorem classRank_inj {c d : PriorityClass} (h : classRank c = classRank d) : c = d := by
  cases c <;> cases d <;> simp only [classRank, reduceCtorEq] at h ⊢ <;> cases h

theorem higherClass_critical (c : PriorityClass) : higherClass .critical c ↔ c ≠ .critical := by
  unfold higherClass
  cases c <;> decide

section
variable {s : State}

theorem State.fits_iff {gs : List Grant} {w : Nat} : s.fits gs w = true ↔ FitsBeside s gs w := by
  rw [State.fits, Bool.and_eq_true, decide_eq_true_iff, decide_eq_true_iff, FitsBeside]
  omega

theorem State.mayReclaim_iff {r : StageRequest} {a : Account} :
    s.mayReclaim r a = true ↔ s.classOf r.pocket = .critical ∧ s.classOf (otherPocket r.pocket) ≠ .critical
      ∧ FitsBeside s (a.grants.filter (fun g => g.pocket = r.pocket)) (s.rating r.pocket r.stage) := by
  rw [State.mayReclaim, Bool.and_eq_true, Bool.and_eq_true, beq_iff_eq, PriorityClass.lowerThan_iff, higherClass_critical,
    State.fits_iff, grantsOf_eq_filter, and_assoc]

/-! ## Who is shed, and who is served (R133, R135) -/

theorem State.shedVictim_sheds {gs : List Grant} {p : Pocket} (h : s.shedVictim gs = some p) : ShedsFrom s gs p := by
  refine ⟨(hasGrants_iff gs p).mp (s.shedVictim_hasGrants h), ?_⟩
  have alone : ∀ q, hasGrants gs (otherPocket q) = false → ∀ g ∈ gs, g.pocket = q := by
    intro q hq g hg
    obtain heq | hother := pocket_eq_or q g.pocket
    · exact heq
    · exact absurd ((hasGrants_iff gs _).mpr ⟨g, hg, hother⟩) (by rw [hq]; exact Bool.false_ne_true)
  unfold State.shedVictim at h
  split_ifs at h with hboth hA hB hA' hB'
  · cases h
    exact .inr (.inl ((PriorityClass.lowerThan_iff _ _).mp hA))
  · cases h
    exact .inr (.inl ((PriorityClass.lowerThan_iff _ _).mp hB))
  · obtain ⟨g, hg, rfl⟩ := Option.map_eq_some_iff.mp h
    refine .inr (.inr ⟨?_, g, hg, rfl⟩)
    rw [PriorityClass.lowerThan_iff, higherClass] at hA hB
    have hsame : s.classOf .A = s.classOf .B := classRank_inj (by omega)
    cases g.pocket
    · exact hsame
    · exact hsame.symm
  · cases h
    refine .inl (alone .A ?_)
    rw [Bool.and_eq_true, not_and] at hboth
    exact Bool.eq_false_iff.mpr (hboth hA')
  · cases h
    exact .inl (alone .B (Bool.eq_false_iff.mpr hA'))

theorem State.nextServed_eq_none {rs : List StageRequest} (h : s.nextServed rs = none) : rs = [] := by
  cases rs with
  | nil => rfl
  | cons x xs =>
    rw [State.nextServed] at h
    split at h
    · split_ifs at h
    · cases h

/-- Of those that are served after the first one, none is of a higher class. -/
theorem ServedFirst.none_higher {rs : List StageRequest} {r q : StageRequest} (h : ServedFirst s rs r) (hq : q ∈ rs) :
    ¬ higherClass (s.classOf q.pocket) (s.classOf r.pocket) := by
  obtain ⟨before, after, rfl, hbefore, hafter⟩ := h
  rw [List.mem_append, List.mem_cons] at hq
  obtain hq | rfl | hq := hq
  · exact Nat.not_lt.mpr (Nat.le_of_lt (hbefore q hq))
  · exact Nat.lt_irrefl _
  · exact hafter q hq

theorem ServedFirst.mem {rs : List StageRequest} {r : StageRequest} (h : ServedFirst s rs r) : r ∈ rs := by
  obtain ⟨before, after, rfl, -, -⟩ := h
  exact List.mem_append_right _ List.mem_cons_self

theorem State.nextServed_iff {rs : List StageRequest} {r : StageRequest} : s.nextServed rs = some r ↔ ServedFirst s rs r := by
  induction rs generalizing r with
  | nil =>
    refine ⟨nofun, fun h => ?_⟩
    cases h.mem
  | cons x xs ih =>
    rw [State.nextServed]
    constructor
    · intro h
      cases hq : s.nextServed xs with
      | none =>
        rw [hq] at h
        cases h
        rw [State.nextServed_eq_none hq]
        exact ⟨[], [], rfl, nofun, nofun⟩
      | some q =>
        rw [hq] at h
        have hfirst := ih.mp hq
        by_cases hlower : (s.classOf x.pocket).lowerThan (s.classOf q.pocket) = true
        · have hqr : q = r := by simpa [hlower] using h
          obtain ⟨before, after, hsplit, hbefore, hafter⟩ := hqr ▸ hfirst
          refine ⟨x :: before, after, by rw [hsplit]; rfl, fun y hy => ?_, hafter⟩
          obtain rfl | hy := List.mem_cons.mp hy
          · exact (PriorityClass.lowerThan_iff _ _).mp (hqr ▸ hlower)
          · exact hbefore y hy
        · have hxr : x = r := by simpa [hlower] using h
          refine ⟨[], xs, by rw [hxr]; rfl, nofun, fun y hy hhigher => ?_⟩
          have hyq := hfirst.none_higher hy
          rw [PriorityClass.lowerThan_iff] at hlower
          unfold higherClass at hyq hlower hhigher
          rw [← hxr] at hhigher
          omega
    · rintro ⟨before, after, hsplit, hbefore, hafter⟩
      cases before with
      | nil =>
        obtain ⟨rfl, rfl⟩ := List.cons.inj hsplit
        cases hq : s.nextServed xs with
        | none => rfl
        | some q =>
          have hlower : ¬ (s.classOf x.pocket).lowerThan (s.classOf q.pocket) = true := by
            rw [PriorityClass.lowerThan_iff]
            exact hafter q (s.nextServed_mem _ _ hq)
          exact if_neg hlower
      | cons y before =>
        obtain ⟨rfl, hxs⟩ := List.cons.inj hsplit
        have hq : s.nextServed xs = some r := ih.mpr ⟨before, after, hxs, fun z hz => hbefore z (List.mem_cons_of_mem _ hz), hafter⟩
        rw [hq]
        exact if_pos ((PriorityClass.lowerThan_iff _ _).mpr (hbefore x List.mem_cons_self))

/-- A request that is served first is so when requests of the other pocket are withdrawn. -/
theorem ServedFirst.withdrawn {rs : List StageRequest} {r : StageRequest} (h : ServedFirst s rs r) {p : Pocket}
    (hp : r.pocket ≠ p) : ServedFirst s (withoutRequest rs p) r := by
  obtain ⟨before, after, rfl, hbefore, hafter⟩ := h
  refine ⟨withoutRequest before p, withoutRequest after p, ?_, fun q hq => hbefore q (List.mem_of_mem_filter hq),
    fun q hq => hafter q (List.mem_of_mem_filter hq)⟩
  rw [withoutRequest, List.filter_append, List.filter_cons_of_pos (by simpa using hp)]
  rfl

end

end Sys2Proof.Machine

/-! PROOF. An evaluation as a chain of moves of the account (O45): the loops are chains, a chain ends where no move is left, and what
it has taken from a pocket is told by the pocket's count. -/

namespace Sys2Proof.Machine

/-- The lists of an account. -/
def Account.lists (a : Account) : Lists := (a.grants, a.requests)

/-- The pocket has lost entries. -/
def Account.lost (a : Account) : Pocket → Bool
  | .A => a.lostA
  | .B => a.lostB

/-- One move of an evaluation, of the account (R133 to R135). -/
inductive LedgerMove (s : State) (a : Account) : Account → Prop
  | shed {p : Pocket} : s.ceiling < s.committedOf a.grants → ShedsFrom s a.grants p → LedgerMove s a (a.lose p)
  | grant {r : StageRequest} : s.committedOf a.grants ≤ s.ceiling → ServedFirst s a.requests r →
      FitsBeside s a.grants (s.rating r.pocket r.stage) → LedgerMove s a (s.grant r a)
  | reclaim {r : StageRequest} : s.committedOf a.grants ≤ s.ceiling → ServedFirst s a.requests r →
      ¬ FitsBeside s a.grants (s.rating r.pocket r.stage) → s.classOf r.pocket = .critical →
      s.classOf (otherPocket r.pocket) ≠ .critical →
      FitsBeside s (a.grants.filter (fun g => g.pocket = r.pocket)) (s.rating r.pocket r.stage) →
      LedgerMove s a (a.lose (otherPocket r.pocket))

/-- A chain of moves. -/
abbrev LedgerMoves (s : State) : Account → Account → Prop := Relation.ReflTransGen (LedgerMove s)

section
variable {s : State} {a b : Account}

/-! ## A move of the account is a move of the lists -/

/-- Where a stage fits beside its own pocket's entries alone, the other pocket has an entry. -/
theorem exists_other_of_reclaim {gs : List Grant} {p : Pocket} {w : Nat} (hno : ¬ FitsBeside s gs w)
    (hown : FitsBeside s (gs.filter (fun g => g.pocket = p)) w) : ∃ g ∈ gs, g.pocket = otherPocket p := by
  by_contra hnone
  refine hno ?_
  have hall : gs.filter (fun g => g.pocket = p) = gs := by
    rw [List.filter_eq_self]
    intro g hg
    exact decide_eq_true ((pocket_eq_or p g.pocket).resolve_right fun h => hnone ⟨g, hg, h⟩)
  rwa [hall] at hown

theorem Account.lose_lists {p : Pocket} (h : ∃ g ∈ a.grants, g.pocket = p) : EntryLost p a.lists (a.lose p).lists :=
  entryLost_withoutNewest h a.requests

theorem LedgerMove.evaluationMove (h : LedgerMove s a b) : EvaluationMove s a.lists b.lists := by
  cases h with
  | shed hover hsheds => exact .inl ⟨hover, _, hsheds, Account.lose_lists hsheds.1⟩
  | grant hwithin hfirst hfits =>
    refine .inr ⟨hwithin, _, hfirst, .inl ⟨hfits, ?_⟩⟩
    rw [Account.lists, State.grant, withoutRequest_eq]
    rfl
  | reclaim hwithin hfirst hno hcritical hother hown =>
    exact .inr ⟨hwithin, _, hfirst, .inr ⟨hno, hcritical, hother, hown, Account.lose_lists (exists_other_of_reclaim hno hown)⟩⟩

theorem LedgerMoves.evaluationMoves (h : LedgerMoves s a b) : ∃ n, EvaluationMoves s n a.lists b.lists := by
  induction h using Relation.ReflTransGen.head_induction_on with
  | refl => exact ⟨0, rfl⟩
  | head hmove _ ih =>
    obtain ⟨n, hn⟩ := ih
    exact ⟨n + 1, _, hmove.evaluationMove, hn⟩

/-! ## The loops are chains -/

theorem State.shedLoop_moves (n : Nat) (a : Account) : LedgerMoves s a (s.shedLoop n a) := by
  induction n generalizing a with
  | zero => exact .refl
  | succ n ih =>
    rw [State.shedLoop]
    split_ifs with hover
    · cases hv : s.shedVictim a.grants with
      | none => exact .refl
      | some p => exact .head (.shed hover (State.shedVictim_sheds hv)) (ih _)
    · exact .refl

theorem committedOf_lose_le (p : Pocket) (h : s.committedOf a.grants ≤ s.ceiling) : s.committedOf (a.lose p).grants ≤ s.ceiling :=
  (s.committedOf_sublist (withoutNewest_sublist a.grants p)).trans h

/-- A loss of the other pocket leaves a pocket's own entries. -/
theorem own_of_lose_other (p : Pocket) (a : Account) :
    (a.lose (otherPocket p)).grants.filter (fun g => g.pocket = p) = a.grants.filter (fun g => g.pocket = p) := by
  rw [← grantsOf_eq_filter, ← grantsOf_eq_filter]
  exact grantsOf_withoutNewest_of_ne _ (otherPocket_ne p)

theorem State.reclaimLoop_moves {r : StageRequest} (hcritical : s.classOf r.pocket = .critical)
    (hother : s.classOf (otherPocket r.pocket) ≠ .critical) (n : Nat) (a : Account) (hwithin : s.committedOf a.grants ≤ s.ceiling)
    (hfirst : ServedFirst s a.requests r)
    (hown : FitsBeside s (a.grants.filter (fun g => g.pocket = r.pocket)) (s.rating r.pocket r.stage)) :
    LedgerMoves s a (s.reclaimLoop r n a) ∧ ServedFirst s (s.reclaimLoop r n a).requests r
      ∧ s.committedOf (s.reclaimLoop r n a).grants ≤ s.ceiling := by
  induction n generalizing a with
  | zero => exact ⟨.refl, hfirst, hwithin⟩
  | succ n ih =>
    rw [State.reclaimLoop]
    split_ifs with hfits
    · exact ⟨.refl, hfirst, hwithin⟩
    · have hmove := LedgerMove.reclaim hwithin hfirst (fun h => hfits (State.fits_iff.mpr h)) hcritical hother hown
      obtain ⟨hmoves, hrest⟩ := ih (a.lose (otherPocket r.pocket)) (committedOf_lose_le _ hwithin)
        (hfirst.withdrawn (ne_otherPocket r.pocket)) (by rwa [own_of_lose_other])
      exact ⟨.head hmove hmoves, hrest⟩

/-- A reclaim makes room for the request it is for. -/
theorem State.reclaimLoop_makesRoom {r : StageRequest} (a : Account)
    (hown : FitsBeside s (a.grants.filter (fun g => g.pocket = r.pocket)) (s.rating r.pocket r.stage)) :
    FitsBeside s (s.reclaimLoop r (grantsOf a.grants (otherPocket r.pocket)).length a).grants (s.rating r.pocket r.stage) := by
  rw [← grantsOf_eq_filter, ← State.fits_iff] at hown
  exact State.fits_iff.mp (s.reclaimLoop_fits r _ a hown le_rfl)

theorem State.committedOf_grant_le {r : StageRequest} (h : FitsBeside s a.grants (s.rating r.pocket r.stage)) :
    s.committedOf (s.grant r a).grants ≤ s.ceiling :=
  s.committedOf_grant (State.fits_iff.mpr h)

theorem State.serveLoop_moves (n : Nat) (a : Account) (hwithin : s.committedOf a.grants ≤ s.ceiling) :
    LedgerMoves s a (s.serveLoop n a) := by
  induction n generalizing a with
  | zero => exact .refl
  | succ n ih =>
    rw [State.serveLoop]
    cases hr : s.nextServed a.requests with
    | none => exact .refl
    | some r =>
      have hfirst := State.nextServed_iff.mp hr
      dsimp only
      split_ifs with hfits hmay
      · have hfits' := State.fits_iff.mp hfits
        exact .head (.grant hwithin hfirst hfits') (ih _ (State.committedOf_grant_le hfits'))
      · obtain ⟨hcritical, hother, hown⟩ := State.mayReclaim_iff.mp hmay
        obtain ⟨hmoves, hstill, hwithin'⟩ := State.reclaimLoop_moves hcritical hother
          (grantsOf a.grants (otherPocket r.pocket)).length a hwithin hfirst hown
        have hroom := State.reclaimLoop_makesRoom a hown
        exact hmoves.trans (.head (.grant hwithin' hstill hroom) (ih _ (State.committedOf_grant_le hroom)))
      · exact .refl

theorem State.evaluated_moves (s : State) : LedgerMoves s s.account s.evaluated :=
  (State.shedLoop_moves _ _).trans (State.serveLoop_moves _ _ (s.shedLoop_committed _ _ le_rfl))

/-! ## No move is left -/

/-- A grant takes its request from the list. -/
theorem withoutRequest_length_lt {rs : List StageRequest} {r : StageRequest} (h : r ∈ rs) :
    (withoutRequest rs r.pocket).length < rs.length :=
  List.length_filter_lt_length_iff_exists.mpr ⟨r, h, by simp⟩

theorem State.reclaimLoop_requests_le (r : StageRequest) (n : Nat) (a : Account) :
    (s.reclaimLoop r n a).requests.length ≤ a.requests.length := by
  induction n generalizing a with
  | zero => exact le_rfl
  | succ n ih =>
    rw [State.reclaimLoop]
    split_ifs
    · exact le_rfl
    · exact (ih _).trans (List.length_filter_le _ _)

/-- The request served next, after serving with enough fuel, neither fits nor may reclaim. -/
theorem State.serveLoop_done (n : Nat) (a : Account) (hn : a.requests.length ≤ n) {r : StageRequest}
    (hr : s.nextServed (s.serveLoop n a).requests = some r) :
    s.fits (s.serveLoop n a).grants (s.rating r.pocket r.stage) = false ∧ s.mayReclaim r (s.serveLoop n a) = false := by
  induction n generalizing a with
  | zero =>
    have hnone : a.requests = [] := List.length_eq_zero_iff.mp (Nat.le_zero.mp hn)
    rw [State.serveLoop, hnone] at hr
    cases hr
  | succ n ih =>
    rw [State.serveLoop] at hr ⊢
    cases hq : s.nextServed a.requests with
    | none =>
      rw [hq] at hr
      rw [State.nextServed_eq_none hq] at hr
      cases hr
    | some q =>
      rw [hq] at hr
      dsimp only at hr ⊢
      have hmem := s.nextServed_mem _ _ hq
      split_ifs at hr ⊢ with hfits hmay
      · refine ih _ ?_ hr
        have hlt := withoutRequest_length_lt hmem
        exact Nat.le_of_lt_succ (lt_of_lt_of_le hlt hn)
      · refine ih _ ?_ hr
        have hlt := withoutRequest_length_lt (s.mem_reclaimLoop_requests (grantsOf a.grants (otherPocket q.pocket)).length hmem)
        exact Nat.le_of_lt_succ (lt_of_lt_of_le (lt_of_lt_of_le hlt (State.reclaimLoop_requests_le q _ a)) hn)
      · cases hq.symm.trans hr
        exact ⟨Bool.eq_false_iff.mpr hfits, Bool.eq_false_iff.mpr hmay⟩

/-- An evaluation ends where no move is left. -/
theorem State.evaluated_done (s : State) : ¬ ∃ next, EvaluationMove s s.evaluated.lists next := by
  rintro ⟨next, ⟨hover, -⟩ | ⟨-, r, hfirst, hmove⟩⟩
  · exact absurd hover (Nat.not_lt.mpr s.evaluated_committed)
  · obtain ⟨hno, hkeeps⟩ := State.serveLoop_done _ _ le_rfl (State.nextServed_iff.mpr hfirst)
    obtain ⟨hfits, -⟩ | ⟨-, hcritical, hother, hown, -⟩ := hmove
    · exact Bool.eq_false_iff.mp hno (State.fits_iff.mpr hfits)
    · exact Bool.eq_false_iff.mp hkeeps (State.mayReclaim_iff.mpr ⟨hcritical, hother, hown⟩)

/-! ## What a chain has taken -/

/-- The count of a pocket tells whether it has lost entries: a pocket that has lost some has no request left, and one that has gained
is of no lower class than any that still waits. -/
structure Account.Tracks (s : State) (p : Pocket) (a : Account) : Prop where
  lost : a.lost p = true → (grantsOf a.grants p).length < s.granted p ∧ ∀ r ∈ a.requests, r.pocket ≠ p
  kept : a.lost p = false → s.granted p ≤ (grantsOf a.grants p).length
  gained : s.granted p < (grantsOf a.grants p).length → s.committedOf a.grants ≤ s.ceiling
    ∧ ∀ r ∈ a.requests, ¬ higherClass (s.classOf r.pocket) (s.classOf p)

theorem Account.lost_lose (a : Account) (p q : Pocket) : (a.lose p).lost q = (a.lost q || p == q) := by
  cases p <;> cases q <;> rfl

/-- A loss of a pocket that has gained nothing. -/
theorem Account.Tracks.lose {p q : Pocket} (h : a.Tracks s p) (hq : ∃ g ∈ a.grants, g.pocket = q)
    (hnone : q = p → (grantsOf a.grants p).length ≤ s.granted p) : (a.lose q).Tracks s p := by
  obtain rfl | hne := eq_or_ne q p
  · have hpos : 0 < (grantsOf a.grants q).length := by
      obtain ⟨g, hg, heq⟩ := hq
      exact List.length_pos_of_mem (List.mem_filter.mpr ⟨hg, beq_iff_eq.mpr heq⟩)
    have hcount : (grantsOf (a.lose q).grants q).length = (grantsOf a.grants q).length - 1 := by
      rw [Account.lose, grantsOf_withoutNewest, List.length_dropLast]
    have hle := hnone rfl
    refine ⟨fun _ => ⟨by omega, fun r hr => ?_⟩, fun hl => ?_, fun hgained => by omega⟩
    · simpa using List.of_mem_filter hr
    · rw [Account.lost_lose, beq_self_eq_true, Bool.or_true] at hl
      cases hl
  · have hown : grantsOf (a.lose q).grants p = grantsOf a.grants p := grantsOf_withoutNewest_of_ne _ hne
    have hlost : (a.lose q).lost p = a.lost p := by rw [Account.lost_lose, beq_false_of_ne hne, Bool.or_false]
    have hsub : ∀ r ∈ (a.lose q).requests, r ∈ a.requests := fun r hr => List.mem_of_mem_filter hr
    refine ⟨fun hl => ?_, fun hl => ?_, fun hgained => ?_⟩
    · rw [hown]
      obtain ⟨hlt, hrs⟩ := h.lost (hlost ▸ hl)
      exact ⟨hlt, fun r hr => hrs r (hsub r hr)⟩
    · rw [hown]
      exact h.kept (hlost ▸ hl)
    · obtain ⟨hwithin, hrs⟩ := h.gained (hown ▸ hgained)
      exact ⟨committedOf_lose_le q hwithin, fun r hr => hrs r (hsub r hr)⟩

theorem Account.Tracks.grant {p : Pocket} {r : StageRequest} (h : a.Tracks s p) (hfirst : ServedFirst s a.requests r)
    (hfits : FitsBeside s a.grants (s.rating r.pocket r.stage)) : (s.grant r a).Tracks s p := by
  have hwithin := State.committedOf_grant_le hfits
  have hsub : ∀ q ∈ (s.grant r a).requests, q ∈ a.requests := fun q hq => List.mem_of_mem_filter hq
  have hlost : (s.grant r a).lost p = a.lost p := by cases p <;> rfl
  have hcount : grantsOf (s.grant r a).grants p
      = grantsOf a.grants p ++ grantsOf [{ pocket := r.pocket, stage := r.stage, rating := s.rating r.pocket r.stage }] p :=
    grantsOf_append _ _ _
  by_cases hp : r.pocket = p
  · have hone : (grantsOf (s.grant r a).grants p).length = (grantsOf a.grants p).length + 1 := by
      rw [hcount, List.length_append]
      simp [grantsOf, hp]
    refine ⟨fun hl => absurd hp ((h.lost (hlost ▸ hl)).2 r hfirst.mem), fun hl => ?_, fun _ => ⟨hwithin, fun q hq => ?_⟩⟩
    · have hle := h.kept (hlost ▸ hl)
      omega
    · exact hp ▸ hfirst.none_higher (hsub q hq)
  · have hsame : grantsOf (s.grant r a).grants p = grantsOf a.grants p := by
      rw [hcount]
      simp [grantsOf, hp]
    refine ⟨fun hl => ?_, fun hl => ?_, fun hgained => ?_⟩
    · rw [hsame]
      obtain ⟨hlt, hrs⟩ := h.lost (hlost ▸ hl)
      exact ⟨hlt, fun q hq => hrs q (hsub q hq)⟩
    · rw [hsame]
      exact h.kept (hlost ▸ hl)
    · exact ⟨hwithin, fun q hq => (h.gained (hsame ▸ hgained)).2 q (hsub q hq)⟩

theorem Account.Tracks.move {p : Pocket} (h : a.Tracks s p) (hmove : LedgerMove s a b) : b.Tracks s p := by
  cases hmove with
  | shed hover hsheds =>
    refine h.lose hsheds.1 fun _ => ?_
    by_contra hgained
    exact absurd hover (Nat.not_lt.mpr (h.gained (Nat.not_le.mp hgained)).1)
  | grant _ hfirst hfits => exact h.grant hfirst hfits
  | reclaim _ hfirst hno hcritical hother hown =>
    refine h.lose (exists_other_of_reclaim hno hown) fun hp => ?_
    by_contra hgained
    refine (h.gained (Nat.not_le.mp hgained)).2 _ hfirst.mem ?_
    rw [hcritical, ← hp]
    exact (higherClass_critical _).mpr hother

theorem Account.Tracks.of_account (s : State) (p : Pocket) : s.account.Tracks s p :=
  ⟨fun h => (by cases p <;> cases h), fun _ => le_rfl, fun h => absurd h (lt_irrefl _)⟩

theorem LedgerMoves.tracks (h : LedgerMoves s s.account b) (p : Pocket) : b.Tracks s p := by
  induction h with
  | refl => exact .of_account s p
  | tail _ hmove ih => exact ih.move hmove

theorem State.evaluated_lost_iff (s : State) (p : Pocket) : s.evaluated.lost p = true ↔ s.evaluate.granted p < s.granted p := by
  have hcount : s.evaluate.granted p = (grantsOf s.evaluated.grants p).length := by rw [State.granted, State.evaluate_sa]
  have htracks := s.evaluated_moves.tracks p
  rw [hcount]
  refine ⟨fun h => (htracks.lost h).1, fun hlt => ?_⟩
  by_contra hno
  exact absurd hlt (Nat.not_lt.mpr (htracks.kept (Bool.eq_false_iff.mpr hno)))

end

/-! ## What each controller is told -/

theorem State.evaluate_told (s : State) (p : Pocket) :
    ToldOfGrants s.now (s.holdTicks p) (s.evaluate.heatTarget p) (s.granted p) (s.evaluate.granted p) (s.pocket p).hsc
      (s.evaluate.pocket p).hsc := by
  obtain ⟨w, hw⟩ : ∃ w, w = s.withLists s.evaluated.grants s.evaluated.requests := ⟨_, rfl⟩
  obtain ⟨x, hx⟩ : ∃ x, x = w.tellGranted .A (s.granted .A) := ⟨_, rfl⟩
  obtain ⟨y, hy⟩ : ∃ y, y = x.tellGranted .B (s.granted .B) := ⟨_, rfl⟩
  obtain ⟨hA, hxA⟩ := w.tellGranted_own .A (s.granted .A)
  obtain ⟨hB, hyB⟩ := x.tellGranted_own .B (s.granted .B)
  rw [← hx] at hxA
  rw [← hy] at hyB
  have hmade : s.evaluate = (y.postIf s.evaluated.lostA (.heatCurtailed .A)).postIf s.evaluated.lostB (.heatCurtailed .B) := by
    rw [State.evaluate, hy, hx, hw]
  have hend : s.evaluate.heatTarget p = y.heatTarget p ∧ s.evaluate.pocket p = y.pocket p ∧ s.evaluate.granted p = y.granted p := by
    rw [hmade]
    cases s.evaluated.lostA <;> cases s.evaluated.lostB <;> cases p <;> exact ⟨rfl, rfl, rfl⟩
  have hws : ∀ r, w.now = s.now ∧ w.holdTicks r = s.holdTicks r ∧ w.pocket r = s.pocket r := by
    intro r
    rw [hw]
    cases r <;> exact ⟨rfl, rfl, rfl⟩
  obtain ⟨htarget, hpocket, hgranted⟩ := hend
  rw [htarget, hpocket, hgranted]
  cases p
  case A =>
    have htold := State.tellGranted_told hx
    obtain ⟨hnow, hhold, hown⟩ := hws .A
    have hyx : y.heatTarget .A = x.heatTarget .A ∧ y.pocket .A = x.pocket .A ∧ y.granted .A = w.granted .A := by
      rw [hyB, hxA]
      exact ⟨rfl, rfl, rfl⟩
    rw [hyx.1, hyx.2.1, hyx.2.2]
    rwa [hnow, hhold, hown] at htold
  case B =>
    have htold := State.tellGranted_told hy
    obtain ⟨hnow, hhold, hown⟩ := hws .B
    have hxw : x.now = w.now ∧ x.holdTicks .B = w.holdTicks .B ∧ x.pocket .B = w.pocket .B := by
      rw [hxA]
      exact ⟨rfl, rfl, rfl⟩
    have hyg : y.granted .B = x.granted .B := by rw [hyB]; rfl
    rw [hyg]
    rwa [hxw.1, hxw.2.1, hxw.2.2, hnow, hhold, hown] at htold

theorem evaluationMovesUntilNoneIsLeft : EvaluationMovesUntilNoneIsLeft := by
  rintro s u rfl
  have hlists : (s.evaluate.sa.grants, s.evaluate.sa.requests) = s.evaluated.lists := by
    rw [State.evaluate_sa]
    rfl
  refine ⟨?_, ?_, s.evaluate_committed, (MovesTo.evaluate s).ceiling, .of_moves (.evaluate s), s.evaluate_told, fun q => ?_⟩
  · rw [hlists]
    exact s.evaluated_moves.evaluationMoves
  · rw [hlists]
    exact s.evaluated_done
  · have hA : s.evaluated.lostA = true ↔ _ := s.evaluated_lost_iff .A
    have hB : s.evaluated.lostB = true ↔ _ := s.evaluated_lost_iff .B
    rw [State.evaluate_port, if_congr hA rfl rfl, if_congr hB rfl rfl]

/-- Settles O45. -/
theorem evaluationShedsAndServes : Obligations.EvaluationShedsAndServes := ⟨committedPowerIsReckoned, evaluationMovesUntilNoneIsLeft⟩

end Sys2Proof.Machine

/-! PROOF. The writes of the working profile and the tables of items (O48). -/

namespace Sys2Proof.Machine

/-! ## What the link hands on -/

theorem beValue_be4 {n : Nat} (h : n < 4294967296) : beValue (be4 n) = n := by
  simp only [beValue, be4, List.foldl_cons, List.foldl_nil, BitVec.toNat_ofNat]
  omega

theorem beValue_be2 {n : Nat} (h : n < 65536) : beValue (be2 n) = n := by
  simp only [beValue, be2, List.foldl_cons, List.foldl_nil, BitVec.toNat_ofNat]
  omega

theorem State.respond_writeCeiling (s : State) {level watts : Nat} (hl : level < 256) (hw : watts < 4294967296) :
    s.respond .writeCeiling .S (be1 level ++ be4 watts) = s.actWriteCeiling level watts := by
  show s.actWriteCeiling (BitVec.ofNat 8 level).toNat (beValue (be4 watts)) = _
  rw [beValue_be4 hw, BitVec.toNat_ofNat, Nat.mod_eq_of_lt hl]

theorem State.respond_setClass (s : State) (p : Pocket) {cls : Nat} (h : cls < 256) :
    s.respond .setClass .S (be1 (pocketCode p) ++ be1 cls) = s.actSetClass p cls := by
  have hact : s.respond .setClass .S (be1 (pocketCode p) ++ be1 cls) = s.actSetClass p (BitVec.ofNat 8 cls).toNat := by
    cases p <;> rfl
  rw [hact, BitVec.toNat_ofNat, Nat.mod_eq_of_lt h]

theorem State.respond_writeProfile (s : State) {number value : Nat} (hn : number < 65536) (hv : value < 4294967296) :
    s.respond .writeProfile .S (be2 number ++ be4 value) = s.actWriteProfile number value := by
  show s.actWriteProfile (beValue (be2 number)) (beValue (be4 value)) = _
  rw [beValue_be2 hn, beValue_be4 hv]

/-! ## The actions (R123, R124, R194) -/

section
variable {s : State}

theorem State.actWriteCeiling_busy (h : s.ps.saving = true) (level watts : Nat) : s.actWriteCeiling level watts = s.refuse .busy := by
  rw [State.actWriteCeiling, if_pos h]

theorem State.actWriteCeiling_range (h : s.ps.saving = false) {level watts : Nat} (hr : 7 < level ∨ watts % 10 ≠ 0) :
    s.actWriteCeiling level watts = s.refuse .range := by
  rw [State.actWriteCeiling, h, if_neg Bool.false_ne_true, if_pos (by simpa using hr)]

theorem State.actWriteCeiling_taken (h : s.ps.saving = false) {level watts : Nat} (hl : level ≤ 7) (hw : watts % 10 = 0) :
    s.actWriteCeiling level watts =
      (if s.levelInForce = some level then (s.writeItem (SharedItem.ceiling level) (min watts 300000)).evaluate
        else s.writeItem (SharedItem.ceiling level) (min watts 300000)).ok (be4 (min watts 300000)) := by
  rw [State.actWriteCeiling, h, if_neg Bool.false_ne_true, if_neg (by simp only [Bool.or_eq_true, decide_eq_true_eq]; omega)]
  dsimp only
  rw [if_congr beq_iff_eq rfl rfl]

theorem State.actSetClass_taken (h : s.ps.saving = false) (p : Pocket) {cls : Nat} (hc : cls ≤ 2) :
    s.actSetClass p cls = (s.writeItem (itemNumber p PocketItem.priorityClass) cls).evaluate.ok (be1 cls) := by
  rw [State.actSetClass, h, if_neg Bool.false_ne_true, if_neg (by omega)]

theorem State.statesAllowWrite_iff (number : Nat) :
    s.statesAllowWrite number = true ↔ ∀ p ∈ itemPockets number, (s.pocket p).ce.writable = true := List.all_eq_true

theorem ItemRow.admits_iff (r : ItemRow) (v : Nat) : r.admits v = true ↔ r.least ≤ v ∧ v ≤ r.greatest ∧ v % r.step = 0 := by
  rw [ItemRow.admits, Bool.and_eq_true, Bool.and_eq_true, decide_eq_true_iff, decide_eq_true_iff, beq_iff_eq, and_assoc]

section
variable {number value : Nat} {row : ItemRow} (hrow : itemRow? number = some row)
include hrow

theorem State.actWriteProfile_denied (h : notByWriteProfile number = true) : s.actWriteProfile number value = s.refuse .denied := by
  rw [State.actWriteProfile, hrow]
  exact if_pos h

theorem State.actWriteProfile_busy (h : notByWriteProfile number = false)
    (hbusy : s.ps.saving = true ∨ ∃ p ∈ itemPockets number, (s.pocket p).ce.writable = false) :
    s.actWriteProfile number value = s.refuse .busy := by
  rw [State.actWriteProfile, hrow]
  dsimp only
  rw [h, if_neg Bool.false_ne_true]
  cases hs : s.ps.saving
  case true => rw [if_pos rfl]
  case false =>
    obtain ⟨p, hp, hw⟩ := hbusy.resolve_left (by rw [hs]; exact Bool.false_ne_true)
    have hstates : s.statesAllowWrite number = false := by
      rw [Bool.eq_false_iff, Ne, State.statesAllowWrite_iff]
      exact fun hall => by rw [hall p hp] at hw; cases hw
    rw [if_neg Bool.false_ne_true, hstates, Bool.not_false, if_pos rfl]

/-- A write that passes the checks before the value's. -/
theorem State.actWriteProfile_open (h : notByWriteProfile number = false) (hs : s.ps.saving = false)
    (hw : ∀ p ∈ itemPockets number, (s.pocket p).ce.writable = true) :
    s.actWriteProfile number value =
      if row.least ≤ value ∧ value ≤ row.greatest ∧ value % row.step = 0 ∧ (s.ps.profile.write number value).jointlyValid = true
      then (s.writeItem number value).ok (be2 number ++ be4 value) else s.refuse .range := by
  rw [State.actWriteProfile, hrow]
  dsimp only
  rw [h, hs, (State.statesAllowWrite_iff number).mpr hw, if_neg Bool.false_ne_true, if_neg Bool.false_ne_true, Bool.not_true,
    if_neg Bool.false_ne_true]
  have hadmits := row.admits_iff value
  cases ha : row.admits value
  case false =>
    rw [Bool.not_false, if_pos rfl, if_neg]
    rintro ⟨hleast, hgreatest, hstep, -⟩
    rw [hadmits.mpr ⟨hleast, hgreatest, hstep⟩] at ha
    cases ha
  case true =>
    obtain ⟨hleast, hgreatest, hstep⟩ := hadmits.mp ha
    rw [Bool.not_true, if_neg Bool.false_ne_true]
    cases hj : (s.ps.profile.write number value).jointlyValid
    case false =>
      rw [Bool.not_false, if_pos rfl, if_neg]
      rintro ⟨-, -, -, hjoint⟩
      cases hjoint
    case true => rw [Bool.not_true, if_neg Bool.false_ne_true, if_pos ⟨hleast, hgreatest, hstep, rfl⟩]

end

/-! ## The item written -/

theorem Profile.value_write_self {f : Profile} {n : Nat} (h : n ∈ f.map (·.1)) (v : Nat) : (f.write n v).value n = v := by
  unfold Profile.value Profile.write
  induction f with
  | nil => cases h
  | cons e f ih =>
    obtain ⟨k, w⟩ := e
    rw [List.map_cons]
    by_cases hk : k = n
    · rw [if_pos (by simpa using hk), List.lookup_cons, beq_self_eq_true]
      rfl
    · have hne : (n == k) = false := beq_false_of_ne (Ne.symm hk)
      rw [if_neg (by simpa using hk), List.lookup_cons, hne]
      exact ih ((List.mem_cons.mp h).resolve_left (Ne.symm hk))

end

theorem profileWriteChecks : ProfileWriteChecks := by
  intro tag s hh
  refine ⟨fun level watts hl hw => ⟨fun hs => ?_, fun hs hr => ?_, fun hs hlevel hstep => ?_⟩,
    fun p cls hc => ⟨fun hs => ?_, fun hs hr => ?_, fun hs hr => ?_⟩,
    fun number value hn hv => ⟨fun hnone => ?_, fun row hrow => ⟨fun hd => ?_, fun hd hb => ?_, fun hd hs hw hr => ?_,
      fun hd hs hw hleast hgreatest hstep hjoint => ?_⟩⟩,
    fun number value other hmem => ⟨rfl, Profile.value_write_self hmem value, Profile.value_write_of_ne _⟩⟩
  · exact exec_command_answered hh .writeCeiling tag ((s.respond_writeCeiling hl hw).trans (State.actWriteCeiling_busy hs _ _))
  · exact exec_command_answered hh .writeCeiling tag ((s.respond_writeCeiling hl hw).trans (State.actWriteCeiling_range hs hr))
  · refine ⟨_, exec_command_answered hh .writeCeiling tag
      ((s.respond_writeCeiling hl hw).trans (State.actWriteCeiling_taken hs hlevel hstep)), fun hne => if_neg hne, fun heq => ?_⟩
    rw [State.ok, if_pos heq]
    exact ⟨State.evaluate_committed _, rfl, .of_moves (.evaluate _)⟩
  · have hact : s.actSetClass p cls = s.refuse .busy := by rw [State.actSetClass, if_pos hs]
    exact exec_command_answered hh .setClass tag ((s.respond_setClass p hc).trans hact)
  · have hact : s.actSetClass p cls = s.refuse .range := by
      rw [State.actSetClass, hs, if_neg Bool.false_ne_true, if_pos hr]
    exact exec_command_answered hh .setClass tag ((s.respond_setClass p hc).trans hact)
  · exact ⟨_, exec_command_answered hh .setClass tag ((s.respond_setClass p hc).trans (State.actSetClass_taken hs p hr)), rfl,
      .of_moves (.evaluate _), State.evaluate_committed _⟩
  · have hact : s.actWriteProfile number value = s.refuse .range := by rw [State.actWriteProfile, hnone]
    exact exec_command_answered hh .writeProfile tag ((s.respond_writeProfile hn hv).trans hact)
  · exact exec_command_answered hh .writeProfile tag ((s.respond_writeProfile hn hv).trans (State.actWriteProfile_denied hrow hd))
  · exact exec_command_answered hh .writeProfile tag ((s.respond_writeProfile hn hv).trans (State.actWriteProfile_busy hrow hd hb))
  · have hact : s.actWriteProfile number value = s.refuse .range := by
      rw [State.actWriteProfile_open hrow hd hs hw, if_neg]
      rintro ⟨hleast, hgreatest, hstep, hjoint⟩
      obtain h | h | h | h := hr
      · exact absurd hleast (Nat.not_le.mpr h)
      · exact absurd hgreatest (Nat.not_le.mpr h)
      · exact h hstep
      · rw [hjoint] at h
        cases h
    exact exec_command_answered hh .writeProfile tag ((s.respond_writeProfile hn hv).trans hact)
  · have hact := (State.actWriteProfile_open (value := value) hrow hd hs hw).trans (if_pos ⟨hleast, hgreatest, hstep, hjoint⟩)
    exact exec_command_answered hh .writeProfile tag ((s.respond_writeProfile hn hv).trans hact)

/-! ## The tables of items (R192 to R194) -/

/-- A row as the tables write it. -/
def ItemRow.columns (r : ItemRow) : Nat × Nat × Nat × Nat × Nat := (r.number, r.least, r.greatest, r.step, r.default)

theorem ItemRow.columns_inj {r q : ItemRow} (h : r.columns = q.columns) : r = q := by
  cases r
  cases q
  simpa only [ItemRow.columns, Prod.mk.injEq, ItemRow.mk.injEq] using h

theorem mem_iff_columns {rs : List ItemRow} {r : ItemRow} : r ∈ rs ↔ r.columns ∈ rs.map ItemRow.columns := by
  refine ⟨fun h => List.mem_map_of_mem h, fun h => ?_⟩
  obtain ⟨q, hq, heq⟩ := List.mem_map.mp h
  exact ItemRow.columns_inj heq ▸ hq

theorem sharedRows_columns : sharedRows.map ItemRow.columns = sharedItems := rfl

theorem pocketRows_columns : pocketRows.map ItemRow.columns = pocketItems := rfl

theorem itemRow?_of_mem : ∀ r ∈ itemRows, itemRow? r.number = some r := by decide +kernel

theorem itemRow?_iff (row : ItemRow) : itemRow? row.number = some row ↔ row ∈ itemRows :=
  ⟨fun h => List.mem_of_find?_eq_some h, itemRow?_of_mem row⟩

theorem mem_forPocket_iff (p : Pocket) (row : ItemRow) :
    row ∈ pocketRows.map (ItemRow.forPocket p)
      ↔ ∃ index, (index, row.least, row.greatest, row.step, row.default) ∈ pocketItems ∧ row.number = itemNumber p index := by
  rw [List.mem_map]
  constructor
  · rintro ⟨r, hr, rfl⟩
    refine ⟨r.number, ?_, rfl⟩
    rw [← pocketRows_columns]
    exact mem_iff_columns.mp hr
  · rintro ⟨index, hmem, hnumber⟩
    refine ⟨{ row with number := index }, ?_, ?_⟩
    · rw [mem_iff_columns, pocketRows_columns]
      exact hmem
    · rw [ItemRow.forPocket, ← hnumber]

theorem notByWriteProfile_iff (n : Nat) : notByWriteProfile n = true ↔ (0x08 ≤ n ∧ n ≤ 0x0F) ∨ n = 0x15F ∨ n = 0x25F := by
  simp only [notByWriteProfile, Bool.or_eq_true, Bool.and_eq_true, decide_eq_true_eq, beq_iff_eq, or_assoc]
  rfl

theorem mem_itemPockets_iff (n : Nat) (p : Pocket) :
    p ∈ itemPockets n ↔ (p = .A ∧ ¬ (0x200 ≤ n ∧ n < 0x300)) ∨ (p = .B ∧ ¬ (0x100 ≤ n ∧ n < 0x200)) := by
  unfold itemPockets
  cases p <;> split_ifs <;> simp <;> omega

theorem CycleEngine.writable_iff (c : CycleEngine) :
    c.writable = true ↔ c.state = .idle ∨ (c.state = .faulted ∧ c.windingDown = false) := by
  unfold CycleEngine.writable
  cases c.state <;> simp

theorem Profile.jointlyValid_iff (f : Profile) :
    f.jointlyValid = true ↔ f.value 0x03 + f.value 0x05 + f.value 0x05 ≤ f.value 0x04
      ∧ (f.value 0x139 ≠ 0 ∨ f.value 0x13A ≠ 0) ∧ (f.value 0x239 ≠ 0 ∨ f.value 0x23A ≠ 0) := by
  have hband : f.bandHolds = true ↔ f.value 0x03 + f.value 0x05 + f.value 0x05 ≤ f.value 0x04 := by
    rw [Profile.bandHolds, decide_eq_true_iff]
    show f.value 0x03 + 2 * f.value 0x05 ≤ f.value 0x04 ↔ _
    omega
  have hweights : ∀ p, f.weightsHold p = true
      ↔ f.value (itemNumber p PocketItem.moistureWeight) ≠ 0 ∨ f.value (itemNumber p PocketItem.temperatureWeight) ≠ 0 := by
    intro p
    rw [Profile.weightsHold, decide_eq_true_iff]
    omega
  rw [Profile.jointlyValid, Bool.and_eq_true, Bool.and_eq_true, hband, hweights, hweights, and_assoc]
  rfl

theorem itemsAreThoseOfTheTables : ItemsAreThoseOfTheTables := by
  refine ⟨fun row => ?_, notByWriteProfile_iff, mem_itemPockets_iff, CycleEngine.writable_iff, Profile.jointlyValid_iff⟩
  rw [itemRow?_iff, itemRows, List.mem_append, List.mem_append, mem_forPocket_iff, mem_forPocket_iff, mem_iff_columns,
    sharedRows_columns, or_assoc, ← exists_or]
  refine or_congr Iff.rfl (exists_congr fun index => ?_)
  rw [← and_or_left]
  rfl

/-- Settles O48. -/
theorem profileWritesAreChecked : Obligations.ProfileWritesAreChecked := ⟨profileWriteChecks, itemsAreThoseOfTheTables⟩

end Sys2Proof.Machine

/-! PROOF. The end of the profile load (O5). -/

namespace Sys2Proof.Machine

/-! ## The parts of the end of the load -/

/-- E stands where it is 0 and its target is 0. -/
theorem State.followE_of_zero {s : State} {p : Pocket} (hE : (s.pocket p).hsc.energized = 0) (hT : s.heatTarget p = 0) : s.followE p = s := by
  have hstands : (s.pocket p).hsc.withEnergized s.now 0 = (s.pocket p).hsc := if_pos hE.symm
  rw [State.followE, State.dropE_of_blocked hT, hstands]
  have hsame : s.setPocket p { s.pocket p with hsc := (s.pocket p).hsc } = s := s.setPocket_pocket p
  rw [hsame, State.riseE, if_neg]
  rw [hE, hT]
  exact Bool.false_ne_true

/-- A sample taken while the condition stays off NORMAL and no stage is energized moves the meter alone. -/
theorem State.takeSample_of_zero {s : State} {v : Nat} {m : SupplyMeter} (hmeter : m = s.sm.take v (s.classifyVoltage v))
    (hcond : m.condition ≠ .normal) (hE : ∀ p, (s.pocket p).hsc.energized = 0) :
    s.takeSample v = ({ s with sm := m } : State).postIf (m.senseFault != s.sm.senseFault || m.condition != s.sm.condition)
      .supplyCondition := by
  obtain ⟨x, hx⟩ : ∃ x, x = ({ s with sm := m } : State).postIf (m.senseFault != s.sm.senseFault || m.condition != s.sm.condition)
      .supplyCondition := ⟨_, rfl⟩
  have hown : ∀ p, (x.pocket p).hsc.energized = 0 := by
    intro p
    rw [hx, State.pocket_postIf]
    cases p
    · exact hE .A
    · exact hE .B
  have hsm : x.sm = m := by
    rw [hx, State.postIf]
    split_ifs <;> rfl
  have hblocked : ∀ p, x.heatTarget p = 0 := fun p => x.heatTarget_eq_zero p (by simp [hsm, hcond])
  rw [State.takeSample, ← hmeter, ← hx, State.followE_of_zero (hown .A) (hblocked .A), State.followE_of_zero (hown .B) (hblocked .B)]

theorem nextRun_zero_le (hit : Bool) : nextRun hit 0 ≤ 1 := by cases hit <;> decide

/-- One sample after the start-up leaves the condition LOW. -/
theorem SupplyMeter.take_startUp {m : SupplyMeter} (v : Nat) (cls : SampleClass) (hl : m.lowRun = 0) (hh : m.highRun = 0)
    (hb : m.bandRun = 0) (hc : m.condition = .low) : (m.take v cls).condition = .low := by
  have h1 := nextRun_zero_le (cls == .highSide)
  have h2 := nextRun_zero_le (cls == .band)
  show nextCondition _ _ _ _ = _
  rw [hl, hh, hb, hc, nextCondition]
  split_ifs with _ h5 h6
  · rfl
  · omega
  · omega
  · rfl

/-- The pocket after its HLIM has been examined at an empty list. -/
def PocketState.limitExamined (seconds : Nat) (x : PocketState) : PocketState :=
  if x.lines.hlimClosed then x
  else { x with
    fl := { records := [newRecord none seconds .highLimit none], full := false }, ce := { x.ce with state := .faulted } }

theorem State.examineLimit_eq {s : State} {p : Pocket} (hidle : (s.pocket p).ce.state = .idle) (hempty : (s.pocket p).fl = .startUp) :
    s.examineLimit p = (s.setPocket p ((s.pocket p).limitExamined s.secondsCount)).postIf (!(s.pocket p).lines.hlimClosed) (.fault p) := by
  rw [State.examineLimit, PocketState.limitExamined]
  cases (s.pocket p).lines.hlimClosed
  · have hlist : (((s.pocket p).fl.take (s.pocket p).ce.faultPhase s.secondsCount .highLimit none).1
        = { records := [newRecord none s.secondsCount .highLimit none], full := false }) := by
      rw [hempty, CycleEngine.faultPhase, hidle]
      rfl
    have hreported : s.reported p .highLimit none = { s.pocket p with
        fl := { records := [newRecord none s.secondsCount .highLimit none], full := false } } := by
      rw [State.reported, hlist]
      rfl
    rw [if_neg Bool.false_ne_true, if_neg Bool.false_ne_true, State.report_eq, hreported,
      if_pos (show isTrip .highLimit = true from rfl), State.trip, State.pocket_setPocket]
    dsimp only
    rw [hidle]
    simp [State.postIf, State.onCe]
  · rw [if_pos rfl, if_pos rfl, State.setPocket_pocket]
    rfl

/-! ## The end of the load (O5) -/

/-- The state at the end of the load before the first sample: the ports open, SAFE is asserted, the timers run. -/
def State.loadEnded (s : State) : State :=
  { s with
    mode := .operating, loadedAt := s.now
    a := { s.a with hsc := { s.a.hsc with safe := true } }, b := { s.b with hsc := { s.b.hsc with safe := true } }
    portA := s.portA.live .A, portB := s.portB.live .B, portS := s.portS.live .S
    sm := { s.sm with nextSample := s.now + millis 50, nextUpdate := s.now + millis 250 }
    sa := { s.sa with stabilityDue := some (s.now + millis 500) } }

theorem State.endLoad_eq (s : State) (vsup : Nat) :
    s.endLoad vsup = ((s.loadEnded.takeSample (voltageReading vsup)).examineLimit .A).examineLimit .B := rfl

/-- RESTARTED is in a latch that it was set in, and that latch raises ATTN. -/
theorem restarted_joined (x : PortState) (e : EventSet) (h : x.latch = EventKind.restarted.set ||| e) :
    EventKind.restarted.set &&& x.latch = EventKind.restarted.set ∧ x.attn = true := by
  have hin : EventKind.restarted.set &&& x.latch = EventKind.restarted.set := by rw [h, latch_and_or]
  refine ⟨hin, bne_iff_ne.mpr fun hzero => ?_⟩
  rw [hzero, BitVec.and_zero] at hin
  exact absurd hin (by decide)

/-- Settles O5: the first sample leaves the condition LOW and E at 0, and each HLIM is examined at an empty list. -/
theorem loadDoneOpensTheController : Obligations.LoadDoneOpensTheController := by
  intro cs la lb level vsup v f n s hs hv
  obtain ⟨w, hw⟩ : ∃ w, w = s.loadEnded := ⟨_, rfl⟩
  obtain ⟨m, hmeter⟩ : ∃ m, m = w.sm.take v (w.classifyVoltage v) := ⟨_, rfl⟩
  have hcond : m.condition = .low := by
    rw [hmeter, hw, hs]
    exact SupplyMeter.take_startUp v _ rfl rfl rfl rfl
  obtain ⟨c, hc⟩ : ∃ c, c = (m.senseFault != w.sm.senseFault || m.condition != w.sm.condition) := ⟨_, rfl⟩
  have hcfault : c = decide (v = 0 ∨ v = 6000) := by
    rw [hc, hcond, hmeter, hw, hs, ← isSenseFault_eq]
    show (isSenseFault v != false || false) = _
    cases isSenseFault v <;> rfl
  obtain ⟨x, hx⟩ : ∃ x, x = ({ w with sm := m } : State).postIf c .supplyCondition := ⟨_, rfl⟩
  have hsample : w.takeSample v = x := by
    rw [hx, hc]
    refine State.takeSample_of_zero hmeter (by rw [hcond]; decide) fun p => ?_
    rw [hw, hs]
    cases p <;> rfl
  have hxp : ∀ p, x.pocket p = { s.pocket p with hsc := { (s.pocket p).hsc with safe := true } } := by
    intro p
    rw [hx, State.pocket_postIf, hw]
    cases p <;> rfl
  have hstart : ∀ p, (s.pocket p).ce = .startUp ∧ (s.pocket p).fl = .startUp := by
    intro p
    rw [hs]
    cases p <;> exact ⟨rfl, rfl⟩
  obtain ⟨y, hy⟩ : ∃ y, y = x.examineLimit .A := ⟨_, rfl⟩
  have hyx := hy.trans (State.examineLimit_eq (by rw [hxp, (hstart .A).1]; rfl) (by rw [hxp]; exact (hstart .A).2))
  have hyB : y.pocket .B = x.pocket .B := by
    rw [hyx, State.pocket_postIf]
    rfl
  obtain ⟨t, ht⟩ : ∃ t, t = y.examineLimit .B := ⟨_, rfl⟩
  have hty := ht.trans (State.examineLimit_eq (by rw [hyB, hxp, (hstart .B).1]; rfl) (by rw [hyB, hxp]; exact (hstart .B).2))
  have hexec : exec (.profileLoadDone vsup) s = .next t := by
    have hload : exec (.profileLoadDone vsup) s = .next (s.endLoad vsup) := by
      show execProfileLoadDone vsup s = _
      rw [hs]
      rfl
    rw [hload, State.endLoad_eq, ← hw, voltageReading, ← hv, hsample, ← hy, ← ht]
  have hshared : t.mode = .operating ∧ t.now = n ∧ t.loadedAt = n ∧ t.ps = f ∧ t.pending = cs ∧ t.levelLines = level
      ∧ t.sm = m ∧ t.sa = { s.sa with stabilityDue := some (n + millis 500) } := by
    rw [hty, hyx, hx, hw, hs]
    simp only [State.postIf]
    split_ifs <;> exact ⟨rfl, rfl, rfl, rfl, rfl, rfl, rfl, rfl⟩
  obtain ⟨hmode, hnow, hloaded, hps, hpending, hlines, hsm, hsa⟩ := hshared
  have hlevel : t.levelInForce = none := by
    rw [State.levelInForce, hsa, hs]
    rfl
  refine ⟨t, hexec, hmode, hnow, hloaded, ?_, hps, hpending, hlines, fun q => ?_, ?_, hsm ▸ hcond, hsa, hlevel, ?_, fun p => ?_⟩
  · rw [State.secondsCount, State.secondsSince, hnow, hloaded, Nat.sub_self]
    rfl
  · have hport : t.port q = { s.port q with
        receiver := .hunt, mask := defaultMask q, reply := none, latch := (t.port q).latch } := by
      rw [hty, State.postIf_latch, State.port_setPocket, hyx, State.postIf_latch, State.port_setPocket, hx, State.postIf_latch, hw]
      cases q <;> rfl
    have hlatch : (t.port q).latch = EventKind.restarted.set
        ||| ((if c = true then EventKind.supplyCondition.set &&& admitted (defaultMask q) else 0#24)
          ||| (if (!(x.pocket .A).lines.hlimClosed) = true then (EventKind.fault .A).set &&& admitted (defaultMask q) else 0#24)
          ||| (if (!(y.pocket .B).lines.hlimClosed) = true then (EventKind.fault .B).set &&& admitted (defaultMask q) else 0#24)) := by
      rw [hty, State.postIf_latch, State.port_setPocket, hyx, State.postIf_latch, State.port_setPocket, hx, State.postIf_latch, hw,
        ← BitVec.or_assoc, ← BitVec.or_assoc]
      cases q <;> rfl
    obtain ⟨hin, hattn⟩ := restarted_joined _ _ hlatch
    refine ⟨hport, hin, hattn, fun hpos hless hla hlb => ?_⟩
    have hgood : c = false := by
      rw [hcfault, decide_eq_false_iff_not]
      omega
    have hA : (x.pocket .A).lines.hlimClosed = true := by
      rw [hxp, hs]
      exact hla
    have hB : (y.pocket .B).lines.hlimClosed = true := by
      rw [hyB, hxp, hs]
      exact hlb
    rw [hlatch, hgood, hA, hB]
    cases q <;> rfl
  · rw [hsm]
    have hfields : m = { s.sm with
        sample := some v, held := if isSenseFault v = true then none else some v, senseFault := isSenseFault v
        lowRun := m.lowRun, highRun := m.highRun, bandRun := m.bandRun, condition := m.condition
        nextSample := n + millis 50, nextUpdate := n + millis 250 } := by
      rw [hmeter, hw, hs]
      rfl
    have hslow : s.sm.condition = .low := by
      rw [hs]
      rfl
    rw [hcond, ← hslow, if_congr (isSenseFault_iff v) rfl rfl, isSenseFault_eq] at hfields
    exact hfields
  · rw [State.ceiling, hlevel]
  · have hpocket : ∃ secs, t.pocket p = ({ s.pocket p with hsc := { (s.pocket p).hsc with safe := true } } : PocketState).limitExamined secs := by
      cases p
      case A =>
        refine ⟨x.secondsCount, ?_⟩
        have htA : t.pocket .A = y.pocket .A := by
          rw [hty, State.pocket_postIf]
          rfl
        rw [htA, hyx, State.pocket_postIf, State.pocket_setPocket, hxp]
      case B =>
        refine ⟨y.secondsCount, ?_⟩
        rw [hty, State.pocket_postIf, State.pocket_setPocket, hyB, hxp]
    obtain ⟨secs, hmade⟩ := hpocket
    obtain ⟨hce, hfl⟩ := hstart p
    rw [hmade, PocketState.limitExamined]
    cases (s.pocket p).lines.hlimClosed
    · refine ⟨rfl, nofun, fun _ => ⟨rfl, ?_⟩⟩
      rw [← hce]
      rfl
    · exact ⟨rfl, fun _ => ⟨hfl, hce⟩, nofun⟩

end Sys2Proof.Machine

/-! PROOF. The reads and their payloads (O11). -/

namespace Sys2Proof.Machine

/-! ## What the link hands on -/

section
variable (s : State) (q : Port)

theorem State.respond_readPocket (p : Pocket) : s.respond .readPocket q (be1 (pocketCode p)) = s.ok (s.pocketStatus p) := by
  cases q <;> cases p <;> rfl

theorem State.respond_readFaults (p : Pocket) : s.respond .readFaults q (be1 (pocketCode p)) = s.ok (s.faultsReport p) := by
  cases q <;> cases p <;> rfl

theorem State.respond_readSupply : s.respond .readSupply q [] = s.ok s.supplyReport := by cases q <;> rfl

theorem State.respond_readMeter : s.respond .readMeter q [] = s.ok s.meterReport := by cases q <;> rfl

theorem State.respond_readProfile {number : Nat} (h : number < 65536) :
    s.respond .readProfile q (be2 number) = s.actReadProfile number := by
  have hact : s.respond .readProfile q (be2 number) = s.actReadProfile (beValue (be2 number)) := by cases q <;> rfl
  rw [hact, beValue_be2 h]

end

/-! ## Bytes -/

theorem byteAt_be1 (n : Nat) : (BitVec.ofNat 8 n : Byte).toNat = n % 256 := BitVec.toNat_ofNat n 8

theorem byteAt_small {n : Nat} (h : n < 256) : (BitVec.ofNat 8 n : Byte).toNat = n := (byteAt_be1 n).trans (Nat.mod_eq_of_lt h)

/-- A byte of an optional item, present or absent. -/
theorem optionalItem_be1 (x : Option Nat) : ∃ a b : Byte, optionalItem be1 x = [a, b] := by cases x <;> exact ⟨_, _, rfl⟩

/-- A list of parts of one length. -/
theorem length_flatMap_const {α : Type} {f : α → List Byte} {n : Nat} (h : ∀ x, (f x).length = n) (l : List α) :
    (l.flatMap f).length = n * l.length := by
  rw [List.length_flatMap]
  simp [h, Nat.mul_comm]

/-! A payload is read part by part: what stands from a place on is a part and what follows it. -/

section
variable {b part rest : List Byte} {n : Nat} (h : b.drop n = part ++ rest)
include h

theorem drop_next_part {m : Nat} (hm : n + part.length = m) : b.drop m = rest := by
  rw [← hm, ← List.drop_drop, h]
  exact List.drop_left

theorem drop_in_part {i m : Nat} (hm : n + i = m) : b.drop m = (part ++ rest).drop i := by
  rw [← hm, ← List.drop_drop, h]

theorem byteAt_in_part {i m : Nat} (hm : n + i = m) : byteAt b m = byteAt (part ++ rest) i := by
  rw [← h, ← hm, byteAt, byteAt, List.getD_eq_getElem?_getD, List.getD_eq_getElem?_getD, List.getElem?_drop]

end

/-! ## The pocket status (R191) -/

section
variable (s : State) (p : Pocket)

theorem State.statusCycle_shape : ∃ (k : Nat) (e0 e1 u0 u1 u2 : Byte), s.statusCycle p =
    be1 (cycleStateCode (s.pocket p).ce.state) ++ be1 ((s.pocket p).ce.index.getD 0) ++ be1 k ++ be2 (s.phaseElapsed p)
      ++ [e0, e1] ++ [u0, u1, u2] ++ be4 (s.timeRemaining p) := by
  unfold State.statusCycle
  dsimp only
  rcases (s.pocket p).ce.lastPhaseEnd with _ | ⟨i, r⟩ <;> rcases (s.pocket p).ce.pause with _ | ⟨cause, t⟩ <;>
    exact ⟨_, _, _, _, _, _, rfl⟩

theorem resultBytes_shape (r : Option CycleResult) : ∃ b0 b1 b2 b3 b4 b5 b6 b7 b8 b9 b10 b11 b12 b13 : Byte,
    resultBytes r = [b0, b1, b2, b3, b4, b5, b6, b7, b8, b9, b10, b11, b12, b13] := by
  cases r <;> exact ⟨_, _, _, _, _, _, _, _, _, _, _, _, _, _, rfl⟩

theorem statusRevolution_shape (r : RevolutionCounter) : ∃ b0 b1 b2 b3 b4 b5 b6 b7 b8 : Byte, statusRevolution r =
    flagByte r.window.isSome ++ be1 r.segmentRecords ++ [b0, b1, b2, b3, b4, b5, b6, b7, b8]
      ++ be2 (r.lastSlip.getD 0xFFFF) ++ be1 r.slipRun := by
  unfold statusRevolution
  cases r.lastRecord <;> exact ⟨_, _, _, _, _, _, _, _, _, rfl⟩

theorem State.statusSupply_shape : ∃ (b0 b1 b2 b3 b4 : Byte) (h w : Nat), s.statusSupply p =
    be1 (s.granted p) ++ [b0, b1, b2, b3, b4] ++ be2 h ++ be4 w ++ be4 (s.pocket p).meter.cycleEnergy := by
  unfold State.statusSupply
  cases s.requestOf p <;> exact ⟨_, _, _, _, _, _, _, rfl⟩

/-- A number made of bits is below the power of its length. -/
theorem foldr_bits_lt (l : List Bool) : l.foldr (fun pass n => 2 * n + (if pass then 0 else 1)) 0 < 2 ^ l.length := by
  induction l with
  | nil => exact Nat.one_pos
  | cons b l ih =>
    rw [List.foldr_cons, List.length_cons, pow_succ]
    cases b <;> simp only [Bool.false_eq_true, if_true, if_false] <;> omega

theorem State.failingInterlocks_lt : s.failingInterlocks p < 256 := by
  have hlength : (s.interlocks p).length = 8 := rfl
  have h := foldr_bits_lt (s.interlocks p)
  rwa [hlength] at h

theorem cycleStateCode_lt (c : CycleState) : cycleStateCode c < 256 := by cases c <;> decide

theorem motionCode_lt (m : MotionState) : motionCode m < 256 := by cases m <;> decide

theorem directionCode_lt (d : Direction) : directionCode d < 256 := by cases d <;> decide

theorem retryCode_lt (c : RetryCause) : retryCode c < 256 := by cases c <;> decide

theorem pocketCode_lt : pocketCode p < 256 := by cases p <;> decide

end

/-! What each part of the record says, wherever it stands. -/

section
variable {s : State} {p : Pocket} {b rest : List Byte}

theorem State.statusCycle_says (h : b.drop 1 = s.statusCycle p ++ rest) :
    byteAt b 1 = cycleStateCode (s.pocket p).ce.state ∧ (b.drop 4).take 2 = be2 (s.phaseElapsed p)
      ∧ (b.drop 11).take 4 = be4 (s.timeRemaining p) := by
  obtain ⟨k, e0, e1, u0, u1, u2, hcycle⟩ := s.statusCycle_shape p
  rw [hcycle] at h
  refine ⟨(byteAt_in_part h (i := 0) rfl).trans (byteAt_small (cycleStateCode_lt _)), ?_, ?_⟩
  · rw [drop_in_part h (i := 3) rfl]
    rfl
  · rw [drop_in_part h (i := 10) rfl]
    rfl

theorem DrumMotion.retryCause_says (d : DrumMotion) :
    (d.restartCount = 0 → d.retryCause = 255) ∧ ∀ c, d.restartCount ≠ 0 → d.lastRetry = some c → d.retryCause = retryCode c := by
  rw [DrumMotion.retryCause]
  refine ⟨fun hzero => ?_, fun c hsome hlast => ?_⟩
  · cases d.lastRetry with
    | none => rfl
    | some c => exact if_pos hzero
  · rw [hlast]
    exact if_neg hsome

theorem State.statusDrum_says (h : b.drop 29 = s.statusDrum p ++ rest) :
    byteAt b 29 = motionCode (s.pocket p).dmc.state ∧ byteAt b 30 = directionCode (s.pocket p).dmc.direction
      ∧ byteAt b 35 = (s.pocket p).dmc.restartCount % 256 ∧ ((s.pocket p).dmc.restartCount = 0 → byteAt b 36 = 255)
      ∧ (∀ c, (s.pocket p).dmc.restartCount ≠ 0 → (s.pocket p).dmc.lastRetry = some c → byteAt b 36 = retryCode c)
      ∧ byteAt b 37 = (s.pocket p).dmc.reversalCount % 256 := by
  obtain ⟨hnone, hsome⟩ := (s.pocket p).dmc.retryCause_says
  have hcause : byteAt b 36 = (s.pocket p).dmc.retryCause % 256 := (byteAt_in_part h (i := 7) rfl).trans (byteAt_be1 _)
  refine ⟨(byteAt_in_part h (i := 0) rfl).trans (byteAt_small (motionCode_lt _)),
    (byteAt_in_part h (i := 1) rfl).trans (byteAt_small (directionCode_lt _)),
    (byteAt_in_part h (i := 6) rfl).trans (byteAt_be1 _), fun hzero => ?_, fun c hpos hlast => ?_,
    (byteAt_in_part h (i := 8) rfl).trans (byteAt_be1 _)⟩
  · rw [hcause, hnone hzero]
  · rw [hcause, hsome c hpos hlast, Nat.mod_eq_of_lt (retryCode_lt c)]

theorem statusRevolution_says {r : RevolutionCounter} (h : b.drop 38 = statusRevolution r ++ rest) :
    byteAt b 39 = r.segmentRecords % 256 ∧ byteAt b 51 = r.slipRun % 256 := by
  obtain ⟨l0, l1, l2, l3, l4, l5, l6, l7, l8, hrevolution⟩ := statusRevolution_shape r
  rw [hrevolution] at h
  exact ⟨(byteAt_in_part h (i := 1) rfl).trans (byteAt_be1 _), (byteAt_in_part h (i := 13) rfl).trans (byteAt_be1 _)⟩

theorem statusMoisture_says {m : Estimator} (h : b.drop 52 = statusMoisture m ++ rest) :
    (b.drop 58).take 2 = be2 (m.index.getD 65535) ∧ byteAt b 66 = m.hold % 256 := by
  refine ⟨?_, (byteAt_in_part h (i := 14) rfl).trans (byteAt_be1 _)⟩
  rw [drop_in_part h (i := 6) rfl]
  rfl

theorem State.statusHeat_says (h : b.drop 79 = s.statusHeat p ++ rest) :
    byteAt b 79 = (s.pocket p).hsc.level % 256 ∧ byteAt b 80 = (s.pocket p).hsc.energized % 256
      ∧ byteAt b 81 = s.effectiveCap p % 256 ∧ byteAt b 82 = s.stageCount p % 256 ∧ byteAt b 84 = s.failingInterlocks p
      ∧ byteAt b 86 = (s.pocket p).hsc.overCount % 256 :=
  ⟨(byteAt_in_part h (i := 0) rfl).trans (byteAt_be1 _), (byteAt_in_part h (i := 1) rfl).trans (byteAt_be1 _),
    (byteAt_in_part h (i := 2) rfl).trans (byteAt_be1 _), (byteAt_in_part h (i := 3) rfl).trans (byteAt_be1 _),
    (byteAt_in_part h (i := 5) rfl).trans (byteAt_small (s.failingInterlocks_lt p)),
    (byteAt_in_part h (i := 7) rfl).trans (byteAt_be1 _)⟩

theorem State.statusSupply_says (h : b.drop 94 = s.statusSupply p ++ rest) :
    byteAt b 94 = s.granted p % 256 ∧ (b.drop 106).take 4 = be4 (s.pocket p).meter.cycleEnergy := by
  obtain ⟨a0, a1, a2, a3, a4, held, power, hsupply⟩ := s.statusSupply_shape p
  rw [hsupply] at h
  refine ⟨(byteAt_in_part h (i := 0) rfl).trans (byteAt_be1 _), ?_⟩
  rw [drop_in_part h (i := 12) rfl]
  rfl

theorem statusLists_says {f : FaultList} {c : SampleBuffers} (h : b.drop 110 = statusLists f c ++ rest) :
    byteAt b 110 = f.records.length % 256 ∧ byteAt b 111 = f.trips % 256 :=
  ⟨(byteAt_in_part h (i := 0) rfl).trans (byteAt_be1 _), (byteAt_in_part h (i := 1) rfl).trans (byteAt_be1 _)⟩

end

/-! The lengths of the parts. -/

section
variable (s : State) (p : Pocket)

theorem State.statusCycle_length : (s.statusCycle p).length = 14 := by
  obtain ⟨k, e0, e1, u0, u1, u2, hcycle⟩ := s.statusCycle_shape p
  rw [hcycle]
  rfl

theorem resultBytes_length (r : Option CycleResult) : (resultBytes r).length = 14 := by cases r <;> rfl

theorem statusRevolution_length (r : RevolutionCounter) : (statusRevolution r).length = 14 := by
  obtain ⟨l0, l1, l2, l3, l4, l5, l6, l7, l8, hrevolution⟩ := statusRevolution_shape r
  rw [hrevolution]
  rfl

theorem State.statusSupply_length : (s.statusSupply p).length = 16 := by
  obtain ⟨a0, a1, a2, a3, a4, held, power, hsupply⟩ := s.statusSupply_shape p
  rw [hsupply]
  rfl

theorem State.statusDrum_length : (s.statusDrum p).length = 9 := rfl

theorem statusMoisture_length (m : Estimator) : (statusMoisture m).length = 17 := rfl

theorem State.statusTangle_length : (s.statusTangle p).length = 10 := rfl

theorem State.statusHeat_length : (s.statusHeat p).length = 15 := rfl

theorem statusLists_length (f : FaultList) (c : SampleBuffers) : (statusLists f c).length = 5 := rfl

theorem be1_length (n : Nat) : (be1 n).length = 1 := rfl

theorem State.pocketStatus_length : (s.pocketStatus p).length = 116 + 8 * (s.pocket p).ce.program.length := by
  rw [State.pocketStatus]
  simp only [List.length_append, be1_length, State.statusCycle_length, resultBytes_length, State.statusDrum_length,
    statusRevolution_length, statusMoisture_length, State.statusTangle_length, State.statusHeat_length, State.statusSupply_length,
    statusLists_length, length_flatMap_const (f := encodeEntry) (n := 8) fun _ => rfl]

end

theorem readPocketReportsTheStatus : ReadPocketReportsTheStatus := by
  intro q tag p s hh hprogram
  obtain ⟨b, hb⟩ : ∃ b, b = s.pocketStatus p := ⟨_, rfl⟩
  have hexec : exec (.readPocket q tag (be1 (pocketCode p))) s = .next (s.answered q 0x40#8 tag .ok b) :=
    hb ▸ exec_command_answered hh .readPocket tag (s.respond_readPocket q p)
  have part0 : b.drop 0 = be1 (pocketCode p) ++ (s.statusCycle p ++ (resultBytes (s.pocket p).ce.result ++ (s.statusDrum p
      ++ (statusRevolution (s.pocket p).rcu ++ (statusMoisture (s.pocket p).me ++ (s.statusTangle p ++ (s.statusHeat p
      ++ (s.statusSupply p ++ (statusLists (s.pocket p).fl (s.pocket p).sb ++ (be1 (s.pocket p).ce.program.length
      ++ (s.pocket p).ce.program.flatMap encodeEntry)))))))))) := by
    rw [hb]
    simp only [State.pocketStatus, List.drop_zero, List.append_assoc]
  have part1 := drop_next_part part0 (m := 1) (by rw [be1_length])
  have part15 := drop_next_part part1 (m := 15) (by rw [State.statusCycle_length])
  have part29 := drop_next_part part15 (m := 29) (by rw [resultBytes_length])
  have part38 := drop_next_part part29 (m := 38) (by rw [State.statusDrum_length])
  have part52 := drop_next_part part38 (m := 52) (by rw [statusRevolution_length])
  have part69 := drop_next_part part52 (m := 69) (by rw [statusMoisture_length])
  have part79 := drop_next_part part69 (m := 79) (by rw [State.statusTangle_length])
  have part94 := drop_next_part part79 (m := 94) (by rw [State.statusHeat_length])
  have part110 := drop_next_part part94 (m := 110) (by rw [State.statusSupply_length])
  have part115 := drop_next_part part110 (m := 115) (by rw [statusLists_length])
  have part116 := drop_next_part part115 (m := 116) (by rw [be1_length])
  have hresult : (b.drop 15).take 14 = resultBytes (s.pocket p).ce.result := by
    rw [part15]
    exact List.take_left' (resultBytes_length _)
  have hfirst : byteAt b 0 = pocketCode p := (byteAt_in_part part0 (i := 0) rfl).trans (byteAt_small (pocketCode_lt p))
  have hscore : byteAt b 69 = (s.pocket p).tm.score % 256 := (byteAt_in_part part69 (i := 0) rfl).trans (byteAt_be1 _)
  have hcount : byteAt b 115 = (s.pocket p).ce.program.length :=
    (byteAt_in_part part115 (i := 0) rfl).trans (byteAt_small (by omega))
  obtain ⟨hstate, helapsed, hremaining⟩ := State.statusCycle_says part1
  obtain ⟨hmotion, hdirection, hrestarts, hnocause, hcause, hreversals⟩ := State.statusDrum_says part29
  obtain ⟨hsegment, hslip⟩ := statusRevolution_says part38
  obtain ⟨hindex, hhold⟩ := statusMoisture_says part52
  obtain ⟨hlevel, henergized, hcap, hstages, hinterlocks, hover⟩ := State.statusHeat_says part79
  obtain ⟨hgranted, henergy⟩ := State.statusSupply_says part94
  obtain ⟨hfaults, htrips⟩ := statusLists_says part110
  exact ⟨b, hexec, hb, hb ▸ s.pocketStatus_length p, hfirst, hstate, helapsed, hremaining, hresult, hmotion, hdirection, hrestarts,
    hnocause, hcause, hreversals, hsegment, hslip, hindex, hhold, hscore, hlevel, henergized, hcap, hstages, hinterlocks, hover,
    hgranted, henergy, hfaults, htrips, hcount, part116⟩

/-! ## The other reads (R143, R155, R170, R195) -/

theorem State.faultBytes_length (s : State) (p : Pocket) (r : FaultRecord) : (s.faultBytes p r).length = 16 := by
  obtain ⟨a, b, hphase⟩ := optionalItem_be1 r.phase
  obtain ⟨c, d, hdetail⟩ := optionalItem_be1 r.detail
  rw [State.faultBytes, hphase, hdetail]
  rfl

theorem State.faultsReport_read (s : State) (p : Pocket) {b : List Byte} (hb : b = s.faultsReport p) :
    b.length = 8 + 16 * (s.pocket p).fl.records.length ∧ b.take 4 = be4 s.secondsCount
      ∧ (b.drop 4).take 2 = flagByte (s.pocket p).fl.full ++ be1 (s.pocket p).fl.records.length
      ∧ (b.drop 6).take (16 * (s.pocket p).fl.records.length) = (s.pocket p).fl.records.flatMap (s.faultBytes p)
      ∧ b.drop (b.length - 2) = flagByte s.ps.storeInvalid ++ flagByte s.sm.senseFault := by
  obtain ⟨records, hrecords⟩ : ∃ l, l = (s.pocket p).fl.records.flatMap (s.faultBytes p) := ⟨_, rfl⟩
  have hcount : records.length = 16 * (s.pocket p).fl.records.length := hrecords ▸ length_flatMap_const (s.faultBytes_length p) _
  have hshape : b = (be4 s.secondsCount ++ flagByte (s.pocket p).fl.full ++ be1 (s.pocket p).fl.records.length ++ records)
      ++ (flagByte s.ps.storeInvalid ++ flagByte s.sm.senseFault) := by
    rw [hb, State.faultsReport, hrecords, ← List.append_assoc]
  have hhead : (be4 s.secondsCount ++ flagByte (s.pocket p).fl.full ++ be1 (s.pocket p).fl.records.length ++ records).length
      = 6 + records.length := by
    rw [List.length_append]
    rfl
  have hlength : b.length = 6 + records.length + 2 := by
    rw [hshape, List.length_append, hhead]
    rfl
  refine ⟨by omega, by rw [hshape]; rfl, by rw [hshape]; rfl, ?_, ?_⟩
  · rw [← hrecords, ← hcount, hshape]
    exact List.take_left
  · rw [hlength, hshape]
    exact List.drop_left' hhead

theorem optionalItem_length {encode : Nat → List Byte} {n : Nat} (h : ∀ k, (encode k).length = n) (x : Option Nat) :
    (optionalItem encode x).length = 1 + n := by
  cases x <;> rw [optionalItem, List.length_append, be1_length, h]

theorem be2_length (n : Nat) : (be2 n).length = 2 := rfl

theorem be4_length (n : Nat) : (be4 n).length = 4 := rfl

theorem flagByte_length (f : Bool) : (flagByte f).length = 1 := rfl

theorem State.supplyReport_read (s : State) {b : List Byte} (hb : b = s.supplyReport) :
    b.length = 71 + 4 * s.sa.grants.length + 6 * s.sa.requests.length ∧ b.take 1 = be1 s.levelLines
      ∧ (b.drop 8).take 4 = be4 s.ceiling ∧ (b.drop 49).take 4 = be4 s.committed
      ∧ (b.drop 58).take (4 * s.sa.grants.length) = s.sa.grants.flatMap grantBytes := by
  obtain ⟨levels, hlevels⟩ : ∃ l, l = be1 s.levelLines ++ (optionalItem be1 s.sa.debounced ++ (be1 s.levelSource
    ++ (optionalItem be1 s.sa.forced ++ optionalItem be1 s.levelInForce))) := ⟨_, rfl⟩
  obtain ⟨table, htable⟩ : ∃ l, l = ([0, 1, 2, 3, 4, 5, 6, 7] : List Nat).flatMap (fun l => be4 (s.shared (SharedItem.ceiling l))) :=
    ⟨_, rfl⟩
  obtain ⟨items, hitems⟩ : ∃ l, l = be1 (classCode (s.classOf .A)) ++ (be1 (classCode (s.classOf .B))
    ++ (be1 (s.shared SharedItem.basis) ++ be2 (s.shared SharedItem.guard))) := ⟨_, rfl⟩
  obtain ⟨grants, hgrants⟩ : ∃ l, l = s.sa.grants.flatMap grantBytes := ⟨_, rfl⟩
  obtain ⟨requests, hrequests⟩ : ∃ l, l = s.sa.requests.flatMap requestBytes := ⟨_, rfl⟩
  obtain ⟨holds, hholds⟩ : ∃ l, l = optionalItem be2 (s.shedRemaining .A) ++ (optionalItem be2 (s.shedRemaining .B)
    ++ (be4 s.sa.updateCount ++ (be1 (conditionCode s.sm.condition) ++ flagByte s.sm.senseFault))) := ⟨_, rfl⟩
  have lengthLevels : levels.length = 8 := by
    rw [hlevels]
    simp only [List.length_append, be1_length, optionalItem_length be1_length]
  have lengthTable : table.length = 32 := by rw [htable]; exact length_flatMap_const (fun _ => be4_length _) _
  have lengthItems : items.length = 5 := by rw [hitems]; rfl
  have lengthGrants : grants.length = 4 * s.sa.grants.length := by
    rw [hgrants]
    exact length_flatMap_const (f := grantBytes) (fun _ => rfl) _
  have lengthRequests : requests.length = 6 * s.sa.requests.length := by
    rw [hrequests]
    exact length_flatMap_const (f := requestBytes) (fun _ => rfl) _
  have lengthHolds : holds.length = 12 := by
    rw [hholds]
    simp only [List.length_append, be1_length, be4_length, flagByte_length, optionalItem_length be2_length]
  have part0 : b.drop 0 = levels ++ (be4 s.ceiling ++ (table ++ (items ++ (be4 s.committed ++ (be4 (ratedSum s.sa.grants)
      ++ (be1 s.sa.grants.length ++ (grants ++ (be1 s.sa.requests.length ++ (requests ++ holds))))))))) := by
    rw [List.drop_zero, hb]
    subst hlevels htable hitems hgrants hrequests hholds
    unfold State.supplyReport
    simp only [List.append_assoc]
  have part8 := drop_next_part part0 (m := 8) (by rw [lengthLevels])
  have part12 := drop_next_part part8 (m := 12) (by rw [be4_length])
  have part44 := drop_next_part part12 (m := 44) (by rw [lengthTable])
  have part49 := drop_next_part part44 (m := 49) (by rw [lengthItems])
  have part53 := drop_next_part part49 (m := 53) (by rw [be4_length])
  have part57 := drop_next_part part53 (m := 57) (by rw [be4_length])
  have part58 := drop_next_part part57 (m := 58) (by rw [be1_length])
  refine ⟨?_, ?_, ?_, ?_, ?_⟩
  · have hlength := congrArg List.length part0
    rw [List.drop_zero] at hlength
    simp only [List.length_append, be1_length, be4_length, lengthLevels, lengthTable, lengthItems, lengthGrants, lengthRequests,
      lengthHolds] at hlength
    omega
  · rw [← b.drop_zero, part0, hlevels]
    rfl
  · rw [part8]
    exact List.take_left' (be4_length _)
  · rw [part49]
    exact List.take_left' (be4_length _)
  · rw [part58, ← hgrants]
    exact List.take_left' lengthGrants

theorem readingBytes_length (m : PocketMeter) : (readingBytes m).length = 10 := by
  rw [readingBytes]
  simp only [List.length_append, optionalItem_length be1_length, optionalItem_length be2_length, optionalItem_length be4_length]

theorem energyBytes_length (m : PocketMeter) : (energyBytes m).length = 10 := rfl

theorem State.meterReport_read (s : State) {b : List Byte} (hb : b = s.meterReport) :
    b.length = 60 ∧ b.take 2 = be2 (s.sm.sample.getD 0) ∧ (b.drop 33).take 20 = energyBytes s.a.meter ++ energyBytes s.b.meter := by
  obtain ⟨supply, hsupply⟩ : ∃ l, l = optionalItem be2 s.sm.held ++ (optionalItem be2 s.sm.updateVoltage
    ++ (flagByte s.sm.senseFault ++ (be1 (conditionCode s.sm.condition) ++ (be1 s.sm.lowRun ++ (be1 s.sm.highRun
    ++ be1 s.sm.bandRun))))) := ⟨_, rfl⟩
  obtain ⟨readings, hreadings⟩ : ∃ l, l = readingBytes s.a.meter ++ readingBytes s.b.meter := ⟨_, rfl⟩
  obtain ⟨energies, henergies⟩ : ∃ l, l = energyBytes s.a.meter ++ energyBytes s.b.meter := ⟨_, rfl⟩
  obtain ⟨items, hitems⟩ : ∃ l, l = be2 (s.shared SharedItem.phaseFactor) ++ (be2 (s.shared SharedItem.lowThreshold)
    ++ (be2 (s.shared SharedItem.highThreshold) ++ be1 (s.shared SharedItem.voltageHysteresis))) := ⟨_, rfl⟩
  have lengthSupply : supply.length = 11 := by
    rw [hsupply]
    simp only [List.length_append, be1_length, flagByte_length, optionalItem_length be2_length]
  have lengthReadings : readings.length = 20 := by rw [hreadings, List.length_append, readingBytes_length, readingBytes_length]
  have lengthEnergies : energies.length = 20 := by rw [henergies, List.length_append, energyBytes_length, energyBytes_length]
  have lengthItems : items.length = 7 := by
    rw [hitems]
    simp only [List.length_append, be1_length, be2_length]
  have part0 : b.drop 0 = be2 (s.sm.sample.getD 0) ++ (supply ++ (readings ++ (energies ++ items))) := by
    rw [hb, hsupply, hreadings, henergies, hitems]
    simp only [State.meterReport, List.drop_zero, List.append_assoc]
  have part2 := drop_next_part part0 (m := 2) (by rw [be2_length])
  have part13 := drop_next_part part2 (m := 13) (by rw [lengthSupply])
  have part33 := drop_next_part part13 (m := 33) (by rw [lengthReadings])
  refine ⟨?_, ?_, ?_⟩
  · have hlength := congrArg List.length part0
    rw [List.drop_zero] at hlength
    simp only [List.length_append, be2_length, lengthSupply, lengthReadings, lengthEnergies, lengthItems] at hlength
    exact hlength
  · rw [← b.drop_zero, part0]
    exact List.take_left' (be2_length _)
  · rw [part33, ← henergies]
    exact List.take_left' lengthEnergies

theorem readsReportAndChangeNothing : ReadsReportAndChangeNothing := by
  intro q tag s hh
  refine ⟨fun p => ?_, ?_, ?_, fun number hn => ⟨fun hnone => ?_, fun row hrow => ?_⟩⟩
  · exact ⟨_, exec_command_answered hh .readFaults tag (s.respond_readFaults q p), rfl, s.faultsReport_read p rfl⟩
  · exact ⟨_, exec_command_answered hh .readSupply tag (s.respond_readSupply q), rfl, s.supplyReport_read rfl⟩
  · exact ⟨_, exec_command_answered hh .readMeter tag (s.respond_readMeter q), rfl, s.meterReport_read rfl⟩
  · have hact : s.actReadProfile number = s.refuse .range := by rw [State.actReadProfile, hnone]
    exact exec_command_answered hh .readProfile tag ((s.respond_readProfile q hn).trans hact)
  · have hact : s.actReadProfile number = s.ok (s.profileReport row) := by rw [State.actReadProfile, hrow]
    have hnumber : row.number = number := by simpa using List.find?_some hrow
    refine ⟨_, exec_command_answered hh .readProfile tag ((s.respond_readProfile q hn).trans hact), rfl, rfl, ?_, rfl, rfl⟩
    rw [← hnumber]
    rfl

/-- Settles O11. -/
theorem readsAnswerWithTheState : Obligations.ReadsAnswerWithTheState := ⟨readPocketReportsTheStatus, readsReportAndChangeNothing⟩

end Sys2Proof.Machine

/-! PROOF. The regulator (R102 to R104, R132): a level set, a request withdrawn and posted, and the steps by the exhaust sample. -/

namespace Sys2Proof.Machine

/-! ## A level set (R103, R106, R108) -/

theorem HeatStages.withLevel_eq (now : Ticks) (n : Nat) (h : HeatStages) :
    h.withLevel now n = { h with
      level := n, lastLevelChange := if n = h.level then h.lastLevelChange else some now } := by
  unfold HeatStages.withLevel
  by_cases hn : n = h.level
  · rw [if_pos hn, if_pos hn, hn]
  · rw [if_neg hn, if_neg hn]

/-- A level set, and the release hold beside the granted count `g`. -/
theorem HeatStages.withLevel_holdConsidered (now : Ticks) (g n : Nat) (h : HeatStages) :
    (h.withLevel now n).holdConsidered now g (n != h.level) = { h with
      level := n, lastLevelChange := if n = h.level then h.lastLevelChange else some now,
      holdSince := if g ≤ n then none else if n ≠ h.level ∨ h.holdSince = none then some now else h.holdSince,
      askedStage := if g ≤ n ∨ n ≠ h.level ∨ h.holdSince = none then none else h.askedStage } := by
  rw [HeatStages.withLevel_eq]
  by_cases hn : n = h.level
  · rw [show (n != h.level) = false by rw [hn]; exact bne_self_eq_false _, HeatStages.holdConsidered_unchanged]
    simp [hn]
  · rw [show (n != h.level) = true from bne_iff_ne.mpr hn, HeatStages.holdConsidered_changed]
    simp [hn]

section
variable (s : State) (p : Pocket) (n : Nat)

theorem State.setLevel_becomes : LevelBecomes p n s (s.setLevel p n) := by
  obtain ⟨b, hb⟩ : ∃ b, b = s.onHsc p (fun h => (h.withLevel s.now n).holdConsidered s.now (s.granted p) (n != h.level)) := ⟨_, rfl⟩
  have hset : s.setLevel p n = b.followE p := by
    rw [hb, State.setLevel, State.considerHold_eq, State.now_onHsc, State.granted_onHsc, State.onHsc_onHsc]
    rfl
  obtain ⟨h, heq, hfollows⟩ := b.followE_followed p
  have hhsc : (b.pocket p).hsc = (((s.pocket p).hsc.withLevel s.now n).holdConsidered s.now (s.granted p) (n != (s.pocket p).hsc.level)) := by
    rw [hb, State.onHsc_pocket]
  refine ⟨h, ?_, ?_⟩
  · rw [hset, heq, hb, State.onHsc_onHsc]
  · rw [hset, ← HeatStages.withLevel_holdConsidered, ← hhsc]
    have hnow : b.now = s.now := by rw [hb, State.now_onHsc]
    have hticks : b.stageTicks p = s.stageTicks p := by rw [hb]; cases p <;> rfl
    rw [hnow, hticks] at hfollows
    exact hfollows

end

/-- E follows its target beside a level that stands. -/
theorem FollowsTarget.level {now interval : Ticks} {target : Nat} {x y : HeatStages} (h : FollowsTarget now interval target x y) :
    y.level = x.level := by
  obtain ⟨hfall, hsame, hwait, hrise⟩ := h
  rcases lt_trichotomy x.energized target with hlt | heq | hgt
  · by_cases hdue : ∃ t, x.lastRise = some t ∧ now < t + interval
    · rw [hwait hlt hdue]
    · rw [hrise hlt hdue]
  · rw [hsame heq]
  · rw [hfall hgt]

theorem levelBecomes_level {p : Pocket} {n : Nat} {s x : State} (h : LevelBecomes p n s x) : (x.pocket p).hsc.level = n := by
  obtain ⟨k, hx, hfollows⟩ := h
  rw [hx, State.onHsc_pocket]
  exact hfollows.level

/-- Without a level no stage is energized. -/
theorem levelBecomes_energized_zero {p : Pocket} {s x : State} (h : LevelBecomes p 0 s x) : (x.pocket p).hsc.energized = 0 := by
  have htarget : x.heatTarget p = 0 := by
    unfold State.heatTarget
    rw [levelBecomes_level h, Nat.zero_min, ite_self]
  obtain ⟨k, hx, hfollows⟩ := h
  rw [htarget] at hfollows
  rw [hx, State.onHsc_pocket]
  exact hfollows.zero

theorem levelBecomes_sa {p : Pocket} {n : Nat} {s x : State} (h : LevelBecomes p n s x) : x.sa = s.sa := by
  obtain ⟨k, rfl, _⟩ := h
  cases p <;> rfl

/-! ## A request withdrawn and posted (R132, R136) -/

theorem State.withdraw_withdrawn (p : Pocket) (s : State) : Withdrawn p s (s.withdraw p) := by
  unfold State.withdraw
  refine ⟨fun h => ?_, fun h => ?_⟩
  · rw [if_neg (by rw [h]; decide)]
  · rw [if_pos (Option.isSome_iff_ne_none.mpr h), withoutRequest_eq]
    rfl

/-- A controller at L = 0 and E = 0 is told of no count that changes either. -/
theorem ToldOfGrants.zero {now holdTicks : Ticks} {target g h : Nat} {x y : HeatStages} (ht : ToldOfGrants now holdTicks target g h x y)
    (hl : x.level = 0) (he : x.energized = 0) : y.level = 0 ∧ y.energized = 0 := by
  obtain ⟨hsame, hgain, hloss⟩ := ht
  rcases lt_trichotomy h g with hlt | heq | hgt
  · rw [(hloss hlt).1]
    exact ⟨by simp [hl], by simp [he]⟩
  · rw [hsame heq]
    exact ⟨hl, he⟩
  · rw [hgain hgt]
    exact ⟨hl, he⟩

theorem State.withdraw_zero {s : State} {p : Pocket} (hl : (s.pocket p).hsc.level = 0) (he : (s.pocket p).hsc.energized = 0) :
    ((s.withdraw p).pocket p).hsc.level = 0 ∧ ((s.withdraw p).pocket p).hsc.energized = 0 := by
  unfold State.withdraw
  split
  · exact (State.evaluate_told (s.withLists s.sa.grants (withoutRequest s.sa.requests p)) p).zero hl he
  · exact ⟨hl, he⟩

theorem State.withdraw_requestOf (s : State) (p : Pocket) : (s.withdraw p).requestOf p = none := by
  unfold State.withdraw
  split
  · refine (State.evaluate_gainless (s.withLists s.sa.grants (withoutRequest s.sa.requests p)) p ?_).2
    rw [State.requestOf_eq_none_iff]
    exact requestsIn_withoutRequest _ _
  · next h => exact Option.not_isSome_iff_eq_none.mp h

/-- The pending list holds at most the other pocket's request before a pocket posts one. -/
theorem State.postRequest_posted {s : State} {p : Pocket} (hheating : s.heating p = true) (hshed : (s.pocket p).shedDue = none)
    (hnone : s.requestOf p = none) (hcap : s.granted p + 1 ≤ s.effectiveCap p) : RequestPosted p s (s.postRequest p (s.granted p + 1)) := by
  have htaken : s.postTaken p (s.granted p + 1) = true := by
    simp [State.postTaken, hheating, hshed, hnone, hcap]
  refine ⟨_, insertRequest s.sa.requests { pocket := p, stage := s.granted p + 1, posted := s.sa.updateCount }, rfl, ?_, ?_, ?_⟩
  · unfold State.postRequest
    rw [if_pos htaken]
    rfl
  · intro h
    rw [h]
    rfl
  · intro q h
    rw [h]
    unfold insertRequest
    refine if_congr ?_ rfl rfl
    simp only [Bool.and_eq_true, beq_iff_eq]
    tauto

/-! ## A step of the regulator (R102 to R104) -/

theorem inSenseRange_iff (t : Int) : inSenseRange t = true ↔ -200 ≤ t ∧ t ≤ 1500 := by
  simp [inSenseRange]

theorem State.levelDue_iff (s : State) (p : Pocket) :
    s.levelDue p = true ↔ ∀ t, (s.pocket p).hsc.lastLevelChange = some t → t + s.stageTicks p ≤ s.now := by
  unfold State.levelDue State.passed State.stageTicks
  cases (s.pocket p).hsc.lastLevelChange <;> simp

section
variable {s : State} {p : Pocket} {te : Int} {target hb : Nat}

theorem State.stepLevel_waiting (h : s.levelDue p = false) : s.stepLevel p te target hb = s := by
  unfold State.stepLevel
  rw [h]
  rfl

theorem State.stepLevel_falls (hdue : s.levelDue p = true) (h : upperThreshold target hb ≤ te) :
    s.stepLevel p te target hb = s.setLevel p ((s.pocket p).hsc.level - 1) := by
  unfold State.stepLevel
  dsimp only
  rw [hdue, if_neg (by decide), if_pos h]

theorem State.stepLevel_between (hlow : lowerThreshold target hb < te) (hhigh : te < upperThreshold target hb) :
    s.stepLevel p te target hb = s := by
  unfold State.stepLevel
  dsimp only
  rw [if_neg (not_le.mpr hhigh), decide_eq_false (not_le.mpr hlow), Bool.false_and, if_neg Bool.false_ne_true, ite_self]

theorem State.stepLevel_below (hdue : s.levelDue p = true) (hlow : te ≤ lowerThreshold target hb) (hhigh : te < upperThreshold target hb) :
    s.stepLevel p te target hb =
      if (s.pocket p).hsc.level < s.effectiveCap p then
        (if (s.pocket p).hsc.level < s.granted p then s.setLevel p ((s.pocket p).hsc.level + 1)
         else if (s.requestOf p).isNone && (s.pocket p).shedDue.isNone then s.postRequest p (s.granted p + 1)
         else s)
      else s := by
  unfold State.stepLevel
  dsimp only
  rw [hdue, if_neg (by decide), if_neg (not_le.mpr hhigh)]
  refine if_congr ?_ rfl rfl
  simp [hlow]

end

section
variable {s : State} {p : Pocket} {te : Int} {e : PhaseEntry} (hheating : s.heating p = true) (he : s.entry p = some e)
include hheating he

theorem State.regulate_cut (h : te < -200 ∨ 1500 < te ∨ cutThreshold e.temperature (s.item p PocketItem.hysteresis) ≤ te) :
    s.regulate p te = (s.setLevel p 0).withdraw p := by
  unfold State.regulate
  rw [he]
  dsimp only
  rw [hheating, if_neg (by decide)]
  by_cases hin : inSenseRange te = true
  · have hcut := h.resolve_left (by have := (inSenseRange_iff te).mp hin; omega) |>.resolve_left
      (by have := (inSenseRange_iff te).mp hin; omega)
    rw [hin, if_neg (by decide), if_pos hcut]
    rfl
  · rw [if_pos (by simpa using hin)]
    rfl

theorem State.regulate_within (hin : inSenseRange te = true) (hcut : te < cutThreshold e.temperature (s.item p PocketItem.hysteresis)) :
    s.regulate p te =
      if lowerThreshold e.temperature (s.item p PocketItem.hysteresis) < te then
        (s.stepLevel p te e.temperature (s.item p PocketItem.hysteresis)).withdraw p
      else s.stepLevel p te e.temperature (s.item p PocketItem.hysteresis) := by
  unfold State.regulate
  rw [he]
  dsimp only
  rw [hheating, if_neg (by decide), hin, if_neg (by decide), if_neg (not_le.mpr hcut)]

end

theorem State.regulate_off {s : State} {p : Pocket} (h : s.heating p = false) (te : Int) : s.regulate p te = s := by
  unfold State.regulate
  cases s.entry p with
  | none => rfl
  | some e => exact if_pos (by rw [h]; rfl)

theorem regulatorSteps : RegulatorSteps := by
  refine ⟨fun p te s h => State.regulate_off h te, ?_⟩
  rintro p te s u e hheating he hu hb l g cap due tt rfl rfl rfl rfl rfl hdue
  obtain ⟨hb, hhb⟩ : ∃ hb, hb = s.item p PocketItem.hysteresis := ⟨_, rfl⟩
  rw [← hhb]
  replace hdue : s.levelDue p = true ↔ due := (s.levelDue_iff p).trans hdue.symm
  refine ⟨hu ▸ .of_moves (.regulate p te s), fun hcut => ?_, fun hlo hhi hnocut => ⟨?_, ?_, ?_, ?_⟩⟩
  · rw [State.regulate_cut hheating he (by rw [← hhb]; unfold cutThreshold; omega)] at hu
    have hx := s.setLevel_becomes p 0
    rw [hu]
    obtain ⟨hl, hE⟩ := State.withdraw_zero (levelBecomes_level hx) (levelBecomes_energized_zero hx)
    exact ⟨⟨_, hx, State.withdraw_withdrawn p _⟩, hl, hE, State.withdraw_requestOf _ p⟩
  all_goals
    have hover (a b : State) (h : (e.temperature : Int) * 10 - hb < te) :
        (if lowerThreshold e.temperature hb < te then a else b) = a := if_pos h
    rw [State.regulate_within hheating he ((inSenseRange_iff te).mpr ⟨hlo, hhi⟩) (by rw [← hhb]; unfold cutThreshold; omega), ← hhb]
      at hu
  · intro hhigh hlow hd
    rw [hover _ _ hlow, State.stepLevel_falls (hdue.mpr hd) hhigh] at hu
    exact ⟨_, s.setLevel_becomes p _, hu ▸ State.withdraw_withdrawn p _⟩
  · intro hlow hstay
    have hstep : s.stepLevel p te e.temperature hb = s := by
      by_cases hd : due
      · exact State.stepLevel_between hlow (hstay.resolve_right (not_not.mpr hd))
      · exact State.stepLevel_waiting (by rw [← Bool.not_eq_true, hdue]; exact hd)
    rw [hover _ _ hlow, hstep] at hu
    exact hu ▸ State.withdraw_withdrawn p s
  · intro hlow
    rw [hover _ _ hlow] at hu
    exact hu ▸ State.withdraw_requestOf _ p
  · intro hlow hpos
    rw [if_neg (show ¬ lowerThreshold e.temperature hb < te by unfold lowerThreshold; omega)] at hu
    have hbelow (hd : due) := State.stepLevel_below (hdue.mpr hd) (te := te) (target := e.temperature) (hb := hb) hlow
      (by unfold upperThreshold; omega)
    refine ⟨fun hd hcap hg => ?_, fun hd hcap hg hnone hshed => ?_, fun hno => ?_⟩
    · rw [hbelow hd, if_pos hcap, if_pos hg] at hu
      have hx := s.setLevel_becomes p ((s.pocket p).hsc.level + 1)
      exact hu ▸ ⟨hx, levelBecomes_sa hx⟩
    · rw [hbelow hd, if_pos hcap, if_neg (by omega), if_pos (by rw [hnone, hshed]; rfl)] at hu
      exact hu ▸ State.postRequest_posted hheating hshed hnone (by omega)
    · by_cases hd : due
      · rw [hbelow hd] at hu
        rcases hno with h | h | ⟨hg, hbusy⟩
        · exact absurd hd h
        · rw [hu, if_neg (by omega)]
        · have hrefused : ¬ ((s.requestOf p).isNone && (s.pocket p).shedDue.isNone) = true := by
            rw [Bool.and_eq_true, Option.isNone_iff_eq_none, Option.isNone_iff_eq_none]
            tauto
          rw [if_neg (not_lt.mpr hg), if_neg hrefused, ite_self] at hu
          exact hu
      · rw [hu, State.stepLevel_waiting (by rw [← Bool.not_eq_true, hdue]; exact hd)]

end Sys2Proof.Machine

/-! PROOF. What the blocks of a supply update leave of a pocket that they are not about: all but its place in the account (R117). -/

namespace Sys2Proof.Machine

/-! ## The supervision items of a heat stage controller -/

/-- A heat stage controller without L, E, their times and the release hold: what the current and the sensor checks keep of it. -/
def HeatStages.supervision (h : HeatStages) : HeatStages :=
  { h with
    level := 0, energized := 0, lastLevelChange := none, lastRise := none, lastChange := 0, holdSince := none, askedStage := none,
    freshGrant := false }

theorem HeatStages.LoweredTo.supervision {h k : HeatStages} (hl : h.LoweredTo k) : k.supervision = h.supervision := by
  obtain ⟨-, -, e⟩ := hl
  rw [e]
  rfl

theorem FollowsTarget.supervision {now interval : Ticks} {target : Nat} {x y : HeatStages}
    (h : FollowsTarget now interval target x y) : y.supervision = x.supervision := by
  obtain ⟨hfall, hsame, hwait, hrise⟩ := h
  rcases lt_trichotomy x.energized target with hlt | heq | hgt
  · by_cases hdue : ∃ t, x.lastRise = some t ∧ now < t + interval
    · rw [hwait hlt hdue]
    · rw [hrise hlt hdue]
      rfl
  · rw [hsame heq]
  · rw [hfall hgt]
    rfl

theorem HeatStages.same_of_supervision {α : Type} {h k : HeatStages} (e : h.supervision = k.supervision) (f : HeatStages → α) :
    f h.supervision = f k.supervision := by rw [e]

/-! ## A pocket's entries and request without a gain -/

/-- A pocket without a request has none afterwards, and no more entries. -/
def Gainless (p : Pocket) (s t : State) : Prop := s.requestOf p = none → t.requestOf p = none ∧ t.granted p ≤ s.granted p

section
variable {p : Pocket} {s t u : State}

theorem Gainless.trans (h : Gainless p s t) (k : Gainless p t u) : Gainless p s u := fun hs =>
  have ⟨ht, hle⟩ := h hs
  have ⟨hu, hle'⟩ := k ht
  ⟨hu, hle'.trans hle⟩

theorem Gainless.of_sa (h : t.sa = s.sa) : Gainless p s t := fun hs => by
  unfold State.requestOf State.granted at *
  rw [h]
  exact ⟨hs, le_rfl⟩

theorem Gainless.refl (p : Pocket) (s : State) : Gainless p s s := .of_sa rfl

theorem Gainless.evaluate (p : Pocket) (s : State) : Gainless p s s.evaluate := fun h => (s.evaluate_gainless p h).symm

theorem Gainless.withLists {gs : List Grant} {rs : List StageRequest} (hg : gs.Sublist s.sa.grants)
    (hr : requestsIn s.sa.requests p = [] → requestsIn rs p = []) : Gainless p s (s.withLists gs rs) := fun h => by
  rw [State.requestOf_eq_none_iff] at h ⊢
  exact ⟨hr h, (hg.filter _).length_le⟩

theorem State.sa_onHsc (s : State) (p : Pocket) (f : HeatStages → HeatStages) : (s.onHsc p f).sa = s.sa := by
  cases p <;> rfl

theorem Gainless.tellGranted (p r : Pocket) (n : Nat) (s : State) : Gainless p s (s.tellGranted r n) := .of_sa (State.tellGranted_sa ..)

theorem requestsIn_withoutRequest_nil {rs : List StageRequest} (r : Pocket) (h : requestsIn rs p = []) :
    requestsIn (withoutRequest rs r) p = [] := by
  by_cases hr : p = r
  · rw [← hr, requestsIn_withoutRequest]
  · exact (requestsIn_withoutRequest_of_ne rs (Ne.symm hr)).trans h

theorem Gainless.without {gs : List Grant} (hg : gs.Sublist s.sa.grants) (p r : Pocket) :
    Gainless p s (s.withLists gs (withoutRequest s.sa.requests r)) := .withLists hg (requestsIn_withoutRequest_nil r)

theorem Gainless.releaseAll (p r : Pocket) (s : State) : Gainless p s (s.releaseAll r) :=
  ((Gainless.without List.filter_sublist p r).trans (.tellGranted p r _ _)).trans (.evaluate p _)

theorem Gainless.withdraw (p r : Pocket) (s : State) : Gainless p s (s.withdraw r) := by
  unfold State.withdraw
  split
  · exact (Gainless.without (List.Sublist.refl _) p r).trans (.evaluate p _)
  · exact .refl p s

theorem Gainless.applyCap (p r : Pocket) (s : State) : Gainless p s (s.applyCap r) := by
  unfold State.applyCap
  dsimp only
  split
  · exact ((Gainless.without List.filter_sublist p r).trans (.tellGranted p r _ _)).trans (.evaluate p _)
  · split
    · exact .withdraw p r s
    · exact .refl p s

theorem Gainless.releaseTop (p r : Pocket) (s : State) : Gainless p s (s.releaseTop r) := by
  unfold State.releaseTop
  split
  · exact .refl p s
  · exact (((Gainless.without (withoutNewest_sublist _ r) p r).trans (.tellGranted p r _ _)).trans (.of_sa (State.sa_onHsc _ r _))).trans
      (.evaluate p _)

/-- A post of a pocket that is RUNNING on no heat phase is dropped, and the other pocket's is none of its own (R132). -/
theorem Gainless.postRequest (p r : Pocket) (n : Nat) (s : State) (h : s.heating p = false) : Gainless p s (s.postRequest r n) := by
  unfold State.postRequest
  split
  · next htaken =>
    have hr : r ≠ p := by
      rintro rfl
      simp [State.postTaken, h] at htaken
    refine (Gainless.withLists (List.Sublist.refl _) fun hnone => ?_).trans (.evaluate p _)
    rw [requestsIn_insertRequest_of_ne _ hr, hnone]
  · exact .refl p s

end

/-! ## What is left of a pocket -/

/-- Beside the pockets no more has changed than the lists and the latches, which keep what they held. -/
structure Framed (s t : State) : Prop where
  shared : SameShared s t
  lists : SameButLists s.sa t.sa
  ports : SamePortsButLatches s t
  latches : ∀ q, (s.port q).latch &&& (t.port q).latch = (s.port q).latch

theorem Framed.trans {s t u : State} (h : Framed s t) (k : Framed t u) : Framed s u where
  shared := by
    obtain ⟨h1, h2, h3, h4, h5, h6, h7⟩ := h.shared
    obtain ⟨k1, k2, k3, k4, k5, k6, k7⟩ := k.shared
    exact ⟨k1.trans h1, k2.trans h2, k3.trans h3, k4.trans h4, k5.trans h5, k6.trans h6, k7.trans h7⟩
  lists := by
    have h2 := h.lists
    have k2 := k.lists
    unfold SameButLists at *
    rw [← h2, ← k2]
  ports q := by
    have h3 := h.ports q
    have k3 := k.ports q
    unfold SameButLatch at *
    rw [← h3, ← k3]
  latches q := EventSet.held_trans (h.latches q) (k.latches q)

theorem Framed.of_moves {s t : State} (h : MovesTo s t) : Framed s t :=
  have ⟨hshared, _, hlists, hports⟩ := OnlyAccountMoved.of_moves h
  ⟨hshared, hlists, hports, h.latches⟩

/-- A step that is not about pocket `p`: of `p` only the account items of its heat stage controller may change; no stage of `p` comes on
while an interlock fails, and outside a heat phase `p` gains no entry and no request. -/
structure Spared (p : Pocket) (s t : State) : Prop extends Framed s t where
  pocket : ∃ k, t.pocket p = { s.pocket p with hsc := k } ∧ k.supervision = (s.pocket p).hsc.supervision
  cold : s.heatPermitted p = false → (s.pocket p).hsc.energized = 0 → (t.pocket p).hsc.energized = 0
  gainless : s.heating p = false → Gainless p s t

section
variable {p : Pocket} {s t u : State}

theorem Spared.heatPermitted (h : Spared p s t) : t.heatPermitted p = s.heatPermitted p := by
  obtain ⟨k, hk, hsup⟩ := h.pocket
  obtain ⟨-, -, -, -, -, hsm, -⟩ := h.shared
  exact State.heatPermitted_congr (by rw [hsm]) hk (HeatStages.same_of_supervision hsup (·.recoveryDue))
    (HeatStages.same_of_supervision hsup (·.safe))

theorem Spared.heating (h : Spared p s t) : t.heating p = s.heating p := by
  obtain ⟨k, hk, -⟩ := h.pocket
  simp only [State.heating, State.onHeatEntry, State.entry, hk]

theorem Spared.trans (h : Spared p s t) (k : Spared p t u) : Spared p s u where
  toFramed := h.toFramed.trans k.toFramed
  pocket := by
    obtain ⟨x, hx, hsx⟩ := h.pocket
    obtain ⟨y, hy, hsy⟩ := k.pocket
    exact ⟨y, by rw [hy, hx], by rw [hsy, hx, hsx]⟩
  cold hp he := k.cold (h.heatPermitted.trans hp) (h.cold hp he)
  gainless hh := (h.gainless hh).trans (k.gainless (h.heating.trans hh))

/-- A change of the account that raises nothing. -/
theorem Spared.of_lowered (hm : MovesTo s t) (hl : HeatLowered s t) (hg : s.heating p = false → Gainless p s t) : Spared p s t where
  toFramed := .of_moves hm
  pocket := by
    obtain ⟨k, hk⟩ := hm.pocket p
    exact ⟨k, hk, by simpa [hk] using (hl p).supervision⟩
  cold _ he := Nat.le_zero.mp (he ▸ (hl p).1)
  gainless := hg

theorem Spared.refl (p : Pocket) (s : State) : Spared p s s := .of_lowered (.refl s) (.refl s) fun _ => .refl p s

theorem Spared.ite {c : Prop} [Decidable c] (h : c → Spared p s t) (k : ¬ c → Spared p s u) : Spared p s (if c then t else u) := by
  split
  · next hc => exact h hc
  · next hc => exact k hc

theorem Spared.setPocket_other (p : Pocket) (s : State) (x : PocketState) : Spared p s (s.setPocket (otherPocket p) x) where
  shared := by cases p <;> exact ⟨rfl, rfl, rfl, rfl, rfl, rfl, rfl⟩
  lists := by cases p <;> rfl
  ports q := by cases p <;> rfl
  latches q := by cases p <;> exact BitVec.and_self
  pocket := ⟨(s.pocket p).hsc, by cases p <;> rfl, rfl⟩
  cold _ he := by cases p <;> exact he
  gainless _ := .of_sa (by cases p <;> rfl)

theorem Spared.postIf (p : Pocket) (s : State) (c : Bool) (k : EventKind) : Spared p s (s.postIf c k) :=
  .of_lowered (.postIf c k s) (.postIf c k s) fun _ => .of_sa (by cases c <;> rfl)

theorem Spared.post (p : Pocket) (s : State) (k : EventKind) : Spared p s (s.post k) := Spared.postIf p s true k

theorem Spared.evaluate (p : Pocket) (s : State) : Spared p s s.evaluate := .of_lowered (.evaluate s) (.evaluate s) fun _ => .evaluate p s

theorem Spared.releaseAll (p r : Pocket) (s : State) : Spared p s (s.releaseAll r) :=
  .of_lowered (.releaseAll r s) (.releaseAll r s) fun _ => .releaseAll p r s

theorem Spared.withdraw (p r : Pocket) (s : State) : Spared p s (s.withdraw r) :=
  .of_lowered (.withdraw r s) (.withdraw r s) fun _ => .withdraw p r s

theorem Spared.applyCap (p r : Pocket) (s : State) : Spared p s (s.applyCap r) :=
  .of_lowered (.applyCap r s) (.applyCap r s) fun _ => .applyCap p r s

theorem Spared.releaseTop (p r : Pocket) (s : State) : Spared p s (s.releaseTop r) :=
  .of_lowered (.releaseTop r s) (.releaseTop r s) fun _ => .releaseTop p r s

theorem Spared.postRequest (p r : Pocket) (n : Nat) (s : State) : Spared p s (s.postRequest r n) :=
  .of_lowered (.postRequest r n s) (.postRequest r n s) (.postRequest p r n s)

theorem Spared.dropE (p r : Pocket) (s : State) : Spared p s (s.dropE r) :=
  .of_lowered (.dropE r s) (.dropE r s) fun _ => .of_sa (by cases r <;> rfl)

/-- A level set for `p` itself: E follows its target, which is 0 while an interlock fails. -/
theorem Spared.setLevel_self (p : Pocket) (n : Nat) (s : State) : Spared p s (s.setLevel p n) := by
  have hm := MovesTo.setLevel p n s
  have hx := s.setLevel_becomes p n
  obtain ⟨h, e, hfollows⟩ := hx
  have hk : (s.setLevel p n).pocket p = { s.pocket p with hsc := h } := by rw [e]; exact State.pocket_setPocket ..
  have hsup : h.supervision = (s.pocket p).hsc.supervision := hfollows.supervision
  refine ⟨.of_moves hm, ⟨h, hk, hsup⟩, ?_, ?_⟩
  · intro hp _
    have hperm := State.heatPermitted_congr (s := s) (t := s.setLevel p n) (by rw [hm.shared.2.2.2.2.2.1]) hk
      (HeatStages.same_of_supervision hsup (·.recoveryDue))
      (HeatStages.same_of_supervision hsup (·.safe))
    have htarget : (s.setLevel p n).heatTarget p = 0 := by
      unfold State.heatTarget
      rw [hperm, hp]
      rfl
    rw [htarget] at hfollows
    rw [hk]
    exact hfollows.zero
  · exact fun _ => .of_sa (by rw [e]; cases p <;> rfl)

theorem Spared.setLevel (p r : Pocket) (n : Nat) (s : State) : Spared p s (s.setLevel r n) := by
  obtain rfl | rfl := pocket_eq_or p r
  · exact .setLevel_self _ n s
  · obtain ⟨h, e, -⟩ := s.setLevel_becomes (otherPocket p) n
    rw [e]
    exact .setPocket_other p s _

theorem Spared.stepLevel (p r : Pocket) (te : Int) (target hb : Nat) (s : State) : Spared p s (s.stepLevel r te target hb) := by
  unfold State.stepLevel
  exact .ite (fun _ => .refl p s) fun _ => .ite (fun _ => .setLevel p r _ s) fun _ => .ite (fun _ => .ite (fun _ => .setLevel p r _ s)
    fun _ => .ite (fun _ => .postRequest p r _ s) fun _ => .refl p s) fun _ => .refl p s

theorem Spared.regulate (p r : Pocket) (te : Int) (s : State) : Spared p s (s.regulate r te) := by
  have hcut : Spared p s ((s.cutHeat r).withdraw r) := (Spared.setLevel p r 0 s).trans (.withdraw p r _)
  unfold State.regulate
  split
  · exact .ite (fun _ => .refl p s) fun _ => .ite (fun _ => hcut) fun _ => .ite (fun _ => hcut) fun _ =>
      .ite (fun _ => (Spared.stepLevel p r te _ _ s).trans (.withdraw p r _)) fun _ => .stepLevel p r te _ _ s
  · exact .refl p s

theorem Spared.meteredEvaluation (p : Pocket) (s : State) : Spared p s s.meteredEvaluation :=
  .ite (fun _ => .evaluate p s) fun _ => .refl p s

theorem Spared.endFreshGrant (p r : Pocket) (fresh : Bool) (s : State) : Spared p s (s.endFreshGrant r fresh) := by
  have hask : Spared p s (s.onHsc r (fun h => { h with askedStage := none })) :=
    .of_lowered (.onHsc r _ s) (.onHsc ⟨le_rfl, le_rfl, rfl⟩) fun _ => .of_sa (by cases r <;> rfl)
  exact .ite (fun _ => .ite (fun _ => hask.trans (.releaseTop p r _)) fun _ => hask) fun _ => .refl p s

end

/-! ## The blocks of the other pocket -/

section
variable (p : Pocket) (s : State)

theorem Spared.haltDrum : Spared p s (s.haltDrum (otherPocket p)) := by
  obtain ⟨d, r, h, e, -⟩ := State.haltDrum_pocket s (otherPocket p)
  rw [e]
  exact .setPocket_other p s _

theorem Spared.stopRequest : Spared p s (s.stopRequest (otherPocket p)) :=
  (Spared.setPocket_other p s _).trans (.haltDrum p _)

theorem Spared.enterWindDown (state : CycleState) (reason : CycleEndReason) : Spared p s (s.enterWindDown (otherPocket p) state reason) :=
  ((((Spared.setPocket_other p s _).trans (.setPocket_other p _ _)).trans (.dropE p _ _)).trans (.releaseAll p _ _)).trans
    (.stopRequest p _)

theorem Spared.trip : Spared p s (s.trip (otherPocket p)) := by
  unfold State.trip
  refine Spared.trans ?_ (.post p _ _)
  split
  · exact .enterWindDown p s _ _
  · exact .enterWindDown p s _ _
  · exact .enterWindDown p s _ _
  · exact .setPocket_other p s _
  · exact .refl p s
  · exact .setPocket_other p s _

theorem Spared.report (k : FaultKind) (detail : Option Nat) : Spared p s (s.report (otherPocket p) k detail) := by
  rw [State.report_eq]
  exact .ite (fun _ => (Spared.setPocket_other p s _).trans (.trip p _)) fun _ =>
    (Spared.setPocket_other p s _).trans (.postIf p _ _ _)

theorem Spared.checkExhaust (t : Int) : Spared p s (s.checkExhaust (otherPocket p) t) :=
  .ite (fun _ => .setPocket_other p s _) fun _ => .ite (fun _ => (Spared.setPocket_other p s _).trans (.report p _ _ _)) fun _ => .refl p s

theorem Spared.checkInlet (t : Int) : Spared p s (s.checkInlet (otherPocket p) t) :=
  .ite (fun _ => .setPocket_other p s _) fun _ => .ite (fun _ => (Spared.setPocket_other p s _).trans (.report p _ _ _)) fun _ => .refl p s

theorem Spared.takeOvercurrent (e : Nat) : Spared p s (s.takeOvercurrent (otherPocket p) e) := by
  unfold State.takeOvercurrent
  exact .ite (fun _ => .setPocket_other p s _) fun _ => (Spared.setPocket_other p s _).trans (.report p _ _ _)

theorem Spared.currentChecks (c : CheckInputs) : Spared p s (s.currentChecks (otherPocket p) c) := by
  have h : Spared p s (s.compareCurrents (otherPocket p) c) := .setPocket_other p s _
  exact .ite (fun _ => h.trans (.takeOvercurrent p _ _)) fun _ =>
    .ite (fun _ => h.trans ((Spared.setPocket_other p _ _).trans (.report p _ _ _))) fun _ =>
    .ite (fun _ => h.trans ((Spared.setPocket_other p _ _).trans (.report p _ _ _))) fun _ => h

theorem Spared.heaterChecks (exhaust inlet : Int) (c : CheckInputs) : Spared p s (s.heaterChecks (otherPocket p) exhaust inlet c) :=
  ((Spared.checkExhaust p s exhaust).trans (.checkInlet p _ inlet)).trans (.currentChecks p _ c)

theorem Spared.phaseStart : Spared p s (s.phaseStart (otherPocket p)) := by
  unfold State.phaseStart
  dsimp only
  refine Spared.ite (fun _ => Spared.trans ?_ (.applyCap p _ _))
    fun _ => Spared.trans (Spared.trans ?_ (.dropE p _ _)) (.releaseAll p _ _)
  all_goals
    exact (((Spared.setPocket_other p s _).trans (.setPocket_other p _ _)).trans (.setPocket_other p _ _)).trans
      (.setPocket_other p _ _)

theorem Spared.endPhase (reason : PhaseEndReason) : Spared p s (s.endPhase (otherPocket p) reason) := by
  unfold State.endPhase
  split
  · exact ((Spared.setPocket_other p s _).trans (.post p _ _)).trans
      (.ite (fun _ => (Spared.setPocket_other p _ _).trans (.phaseStart p _)) fun _ => .enterWindDown p _ _ _)
  · exact .refl p s

theorem Spared.coolTempEnd : Spared p s (s.coolTempEnd (otherPocket p)) := by
  unfold State.coolTempEnd
  split
  · exact .ite (fun _ => .endPhase p s _) fun _ => .refl p s
  · exact .refl p s

theorem Spared.flushSamples : Spared p s (s.flushSamples (otherPocket p)) := by
  unfold State.flushSamples State.bufferReady
  split
  · exact (Spared.setPocket_other p s _).trans (.post p _ _)
  · exact .refl p s

theorem Spared.finishWindDown : Spared p s (s.finishWindDown (otherPocket p)) :=
  .ite (fun _ => ((Spared.setPocket_other p s _).trans (.flushSamples p _)).trans (.post p _ _)) fun _ => .refl p s

theorem Spared.runOnExhaustEnd : Spared p s (s.runOnExhaustEnd (otherPocket p)) :=
  .ite (fun _ => ((Spared.setPocket_other p s _).trans (.dropE p _ _)).trans (.finishWindDown p _)) fun _ => .refl p s

end

end Sys2Proof.Machine

/-! PROOF. The blocks of a supply update in their order (R117), and as a pocket sees them. -/

namespace Sys2Proof.Machine

theorem exec_supplyUpdate {s : State} (hm : s.mode = .operating) (r : Readings) :
    exec (.supplyUpdate r) s = .next (s.supplyUpdate r) := by
  show execSupplyUpdate r s = _
  unfold execSupplyUpdate
  rw [State.whenOperating_operating _ _ hm]

/-! ## The readings taken (R65, R127, R145, R151) -/

/-- The state after the readings of an update are stored. -/
def State.takenUpdate (r : Readings) (s : State) : State :=
  (((s.clearFresh .A).clearFresh .B).beginUpdate (voltageReading r.voltage)).storeReadings r

/-- What the current checks of a pocket work from at an update. -/
def State.updateInputs (r : Readings) (s : State) (p : Pocket) : CheckInputs :=
  (s.takenUpdate r).checkInputs p (voltageReading r.voltage) (currentOf r p)

/-- A pocket's meter after the readings of an update. -/
def State.takenMeter (r : Readings) (s : State) (p : Pocket) : PocketMeter :=
  { (s.pocket p).meter.accumulate (s.powerOf (voltageReading r.voltage) (currentOf r p)) (s.pocket p).ce.inCycle with
    reading := some { current := currentOf r p, energized := (s.pocket p).hsc.energized,
                      power := s.powerOf (voltageReading r.voltage) (currentOf r p) } }

theorem State.powerOf_congr {s t : State} (hsm : t.sm.held = s.sm.held) (hps : t.ps = s.ps) (vd ic : Nat) :
    t.powerOf vd ic = s.powerOf vd ic := by
  unfold State.powerOf State.powerVoltage State.shared
  rw [hsm, hps]

/-- A pocket metered and its samples stored, with the power as it is worked. -/
def PocketState.metered (ic power : Nat) (exhaust inlet : Int) (x : PocketState) : PocketState :=
  { x with
    me := { x.me with exhaust := some exhaust, inlet := some inlet },
    meter := { x.meter.accumulate power x.ce.inCycle with
      reading := some { current := ic, energized := x.hsc.energized, power := power } } }

theorem State.meterPocket_pocket (s : State) (p r : Pocket) (vd ic : Nat) :
    (s.meterPocket p vd ic).pocket r = if r = p then
      { s.pocket p with meter := { (s.pocket p).meter.accumulate (s.powerOf vd ic) (s.pocket p).ce.inCycle with
        reading := some { current := ic, energized := (s.pocket p).hsc.energized, power := s.powerOf vd ic } } }
      else s.pocket r := by
  cases p <;> cases r <;> rfl

theorem State.meterPocket_powerOf (s : State) (p : Pocket) (vd ic vd' ic' : Nat) :
    (s.meterPocket p vd ic).powerOf vd' ic' = s.powerOf vd' ic' :=
  State.powerOf_congr (by cases p <;> rfl) (by cases p <;> rfl) vd' ic'

theorem State.storeSamples_pocket (s : State) (p r : Pocket) (exhaust inlet : Int) :
    (s.storeSamples p exhaust inlet).pocket r = if r = p then
      { s.pocket p with me := { (s.pocket p).me with exhaust := some exhaust, inlet := some inlet } } else s.pocket r := by
  cases p <;> cases r <;> rfl

theorem State.storeReadings_pocket (r : Readings) (s : State) (p : Pocket) :
    (s.storeReadings r).pocket p = (s.pocket p).metered (currentOf r p) (s.powerOf (voltageReading r.voltage) (currentOf r p))
      (exhaustOf r p) (inletOf r p) := by
  unfold State.storeReadings
  dsimp only
  cases p <;>
    simp only [State.storeSamples_pocket, State.meterPocket_pocket, State.meterPocket_powerOf, reduceCtorEq, if_true, if_false] <;> rfl

theorem State.takenUpdate_pocket (r : Readings) (s : State) (p : Pocket) :
    (s.takenUpdate r).pocket p = { s.pocket p with
      me := { (s.pocket p).me with exhaust := some (exhaustOf r p), inlet := some (inletOf r p) },
      hsc := { (s.pocket p).hsc with freshGrant := false }, meter := s.takenMeter r p } := by
  have hbegun : (((s.clearFresh .A).clearFresh .B).beginUpdate (voltageReading r.voltage)).pocket p
      = { s.pocket p with hsc := { (s.pocket p).hsc with freshGrant := false } } := by cases p <;> rfl
  have hpower := State.powerOf_congr (s := s) (t := ((s.clearFresh .A).clearFresh .B).beginUpdate (voltageReading r.voltage)) rfl rfl
    (voltageReading r.voltage) (currentOf r p)
  unfold State.takenUpdate
  rw [State.storeReadings_pocket, hbegun, hpower]
  rfl

theorem State.storeReadings_shared (r : Readings) (s : State) :
    (s.storeReadings r).pending = s.pending ∧ (s.storeReadings r).mode = s.mode ∧ (s.storeReadings r).now = s.now
    ∧ (s.storeReadings r).loadedAt = s.loadedAt ∧ (s.storeReadings r).levelLines = s.levelLines ∧ (s.storeReadings r).ps = s.ps
    ∧ (s.storeReadings r).sm = s.sm ∧ (s.storeReadings r).sa = s.sa := ⟨rfl, rfl, rfl, rfl, rfl, rfl, rfl, rfl⟩

theorem State.takenUpdate_shared (r : Readings) (s : State) :
    (s.takenUpdate r).pending = s.pending ∧ (s.takenUpdate r).mode = s.mode ∧ (s.takenUpdate r).now = max s.now s.sm.nextUpdate
    ∧ (s.takenUpdate r).loadedAt = s.loadedAt ∧ (s.takenUpdate r).levelLines = s.levelLines ∧ (s.takenUpdate r).ps = s.ps
    ∧ (s.takenUpdate r).sm = { s.sm with nextUpdate := s.sm.nextUpdate + 2500, updateVoltage := some (voltageReading r.voltage) }
    ∧ (s.takenUpdate r).sa = { s.sa with updateCount := (s.sa.updateCount + 1) % 4294967296 } :=
  State.storeReadings_shared r _

theorem State.takenUpdate_port (r : Readings) (s : State) (q : Port) : (s.takenUpdate r).port q = s.port q := by
  cases q <;> rfl

theorem State.updateInputs_eq (r : Readings) (s : State) (p : Pocket) :
    s.updateInputs r p = {
      energized := (s.pocket p).hsc.energized, current := currentOf r p,
      expected := (s.takenUpdate r).expectedCurrent p (voltageReading r.voltage),
      suspended := (s.takenUpdate r).checksSuspended p (voltageReading r.voltage) } := by
  unfold State.updateInputs State.checkInputs
  rw [State.takenUpdate_pocket]

/-! ## The blocks (R117) -/

/-- Both pockets' heater checks. -/
def State.checkedUpdate (r : Readings) (s : State) : State :=
  ((s.takenUpdate r).heaterChecks .A r.exhaustA r.inletA (s.updateInputs r .A)).heaterChecks .B r.exhaustB r.inletB (s.updateInputs r .B)

/-- The evaluation and both regulators. -/
def State.steppedUpdate (r : Readings) (s : State) : State :=
  ((s.checkedUpdate r).meteredEvaluation.regulate .A r.exhaustA).regulate .B r.exhaustB

/-- The ends of the cycle engines that wait for an update. -/
def State.endedUpdate (r : Readings) (s : State) : State :=
  ((((s.steppedUpdate r).coolTempEnd .A).coolTempEnd .B).runOnExhaustEnd .A).runOnExhaustEnd .B

theorem State.supplyUpdate_eq (r : Readings) (s : State) :
    s.supplyUpdate r = ((s.endedUpdate r).endFreshGrant .A (s.pocket .A).hsc.freshGrant).endFreshGrant .B (s.pocket .B).hsc.freshGrant :=
  rfl

theorem Spared.heaterChecks_self (p : Pocket) (s : State) (exhaust inlet : Int) (c : CheckInputs) :
    Spared (otherPocket p) s (s.heaterChecks p exhaust inlet c) := by
  have h := Spared.heaterChecks (otherPocket p) s exhaust inlet c
  rwa [otherPocket_otherPocket] at h

theorem State.checkedUpdate_ps (r : Readings) (s : State) : (s.checkedUpdate r).ps = s.ps := by
  obtain ⟨-, -, -, -, -, -, hA⟩ := (Spared.heaterChecks_self .A (s.takenUpdate r) r.exhaustA r.inletA (s.updateInputs r .A)).shared
  obtain ⟨-, -, -, -, -, -, hB⟩ := (Spared.heaterChecks_self .B _ r.exhaustB r.inletB (s.updateInputs r .B)).shared
  exact hB.trans hA

theorem State.meteredEvaluation_eq (s : State) : s.meteredEvaluation = if s.shared SharedItem.basis = 1 then s.evaluate else s :=
  if_congr s.metered_iff rfl rfl

theorem supplyUpdateRunsInOrder : SupplyUpdateRunsInOrder := by
  intro r s hm
  refine ⟨s.takenUpdate r, s.checkedUpdate r, s.steppedUpdate r, s.endedUpdate r, _, s.updateInputs r, exec_supplyUpdate hm r, rfl,
    s.updateInputs_eq r, rfl, ?_, rfl, s.supplyUpdate_eq r⟩
  have hbasis : (s.checkedUpdate r).shared SharedItem.basis = s.shared SharedItem.basis := by
    unfold State.shared
    rw [State.checkedUpdate_ps]
  rw [State.steppedUpdate, State.meteredEvaluation_eq, hbasis]

/-- Settles O52, by the branches of the regulator and the order of the blocks. -/
theorem regulatorStepsTheLevel : Obligations.RegulatorStepsTheLevel := ⟨regulatorSteps, supplyUpdateRunsInOrder⟩

/-! ## An update as a pocket sees it -/

theorem State.supplyUpdate_blocks (p : Pocket) (r : Readings) (s : State) :
    ∃ a c e : State, Spared p (s.takenUpdate r) a
      ∧ Spared p (a.heaterChecks p (exhaustOf r p) (inletOf r p) (s.updateInputs r p)) c
      ∧ Spared p (c.coolTempEnd p) e ∧ Spared p (e.runOnExhaustEnd p) (s.supplyUpdate r) := by
  have hstep (t : State) : Spared p t ((t.meteredEvaluation.regulate .A r.exhaustA).regulate .B r.exhaustB) :=
    ((Spared.meteredEvaluation p t).trans (.regulate p .A _ _)).trans (.regulate p .B _ _)
  have hend (t : State) : Spared p t ((t.endFreshGrant .A (s.pocket .A).hsc.freshGrant).endFreshGrant .B (s.pocket .B).hsc.freshGrant) :=
    (Spared.endFreshGrant p .A _ t).trans (.endFreshGrant p .B _ _)
  rw [State.supplyUpdate_eq]
  cases p with
  | A =>
    exact ⟨s.takenUpdate r, s.steppedUpdate r, ((s.steppedUpdate r).coolTempEnd .A).coolTempEnd .B, .refl _ _,
      (Spared.heaterChecks .A _ _ _ _).trans (hstep _), .coolTempEnd .A _, (Spared.runOnExhaustEnd .A _).trans (hend _)⟩
  | B =>
    exact ⟨(s.takenUpdate r).heaterChecks .A r.exhaustA r.inletA (s.updateInputs r .A), (s.steppedUpdate r).coolTempEnd .A,
      (((s.steppedUpdate r).coolTempEnd .A).coolTempEnd .B).runOnExhaustEnd .A, .heaterChecks .B _ _ _ _,
      (hstep _).trans (.coolTempEnd .B _), .runOnExhaustEnd .B _, hend _⟩

end Sys2Proof.Machine

/-! PROOF. The ends of phases, of the pause purge and of the run-on (R11 to R13, R15, R21, R79). -/

namespace Sys2Proof.Machine

/-! ## The end of a phase (R13) -/

section
variable {b : State} {p : Pocket} {i : Nat} {e : PhaseEntry} (reason : PhaseEndReason)

/-- The state in which the end of a phase is counted and posted. -/
def State.phaseEndCounted (b : State) (p : Pocket) (c : CycleEngine) : State :=
  (b.setPocket p { b.pocket p with ce := c }).post (.phaseEnd p)

theorem State.phaseEndCounted_gains (c : CycleEngine) : LatchesGain (.phaseEnd p) b (b.phaseEndCounted p c) :=
  .post (by simp) (by simp)

theorem State.phaseEndCounted_pocket (c : CycleEngine) : (b.phaseEndCounted p c).pocket p = { b.pocket p with ce := c } := by
  simp [State.phaseEndCounted]

theorem State.endPhase_eq (hi : (b.pocket p).ce.index = some i) (he : entryAt (b.pocket p).ce.program i = some e) :
    b.endPhase p reason = if i < (b.pocket p).ce.program.length then
        (b.phaseEndCounted p { phaseCounted i e reason (b.pocket p).ce with index := some (i + 1) }).phaseStart p
      else (b.phaseEndCounted p (phaseCounted i e reason (b.pocket p).ce)).enterWindDown p .windingDown .complete := by
  have hentry : b.entry p = some e := by
    unfold State.entry CycleEngine.entry
    rw [hi]
    exact he
  have hcounted : b.onCe p (fun c =>
      { c with phasesCompleted := c.phasesCompleted + 1, lastPhaseEnd := some (i, reason),
               lastDryEnd := if e.kind == .heatDry then some reason else c.lastDryEnd,
               hotExit := c.hotExit || (e.kind == .cool && reason == .time) })
      = b.setPocket p { b.pocket p with ce := phaseCounted i e reason (b.pocket p).ce } := by
    simp only [State.onCe, phaseCounted, Bool.decide_and, Bool.beq_eq_decide_eq]
    cases e.kind <;> cases reason <;> rfl
  unfold State.endPhase
  rw [hi, hentry]
  dsimp only
  rw [hcounted, ← State.onCe_post]
  refine if_congr Iff.rfl (congrArg (State.phaseStart p) ?_) rfl
  unfold State.phaseEndCounted
  simp [State.onCe]

theorem State.endPhase_ended (hi : (b.pocket p).ce.index = some i) (he : entryAt (b.pocket p).ce.program i = some e) :
    PhaseEnded i e reason p b (b.endPhase p reason) := by
  rw [State.endPhase_eq reason hi he]
  unfold PhaseEnded
  by_cases hlast : i < (b.pocket p).ce.program.length
  · rw [if_pos hlast]
    obtain ⟨c, hc⟩ : ∃ c, c = { phaseCounted i e reason (b.pocket p).ce with index := some (i + 1) } := ⟨_, rfl⟩
    rw [← hc]
    have hnext : ((b.phaseEndCounted p c).pocket p).ce.entry = some (b.pocket p).ce.program[i] := by
      rw [State.phaseEndCounted_pocket, hc]
      exact List.getElem?_eq_getElem hlast
    obtain ⟨hstarted, hlatches⟩ := (b.phaseEndCounted p c).phaseStart_started p _ hnext
    rw [State.phaseEndCounted_pocket] at hstarted
    refine ⟨(State.phaseEndCounted_gains c).keep hlatches, fun _ => ?_, fun h => absurd hlast (by omega)⟩
    exact hstarted.of_counted (by rw [hc]; rfl) (by rw [hc]; rfl) (by rw [hc]; rfl)
  · rw [if_neg hlast]
    obtain ⟨c, hc⟩ : ∃ c, c = phaseCounted i e reason (b.pocket p).ce := ⟨_, rfl⟩
    rw [← hc]
    obtain ⟨hbegun, hleft, hrecords, hlatches⟩ := (b.phaseEndCounted p c).enterWindDown_left p .windingDown .complete (by decide)
    have hticks : (b.phaseEndCounted p c).phaseTicks p = b.phaseTicks p := by
      unfold State.phaseTicks
      rw [State.phaseEndCounted_pocket, hc]
      simp [State.phaseEndCounted, phaseCounted]
    have hnow : (b.phaseEndCounted p c).now = b.now := by simp [State.phaseEndCounted]
    rw [State.phaseEndCounted_pocket] at hbegun hrecords
    rw [hticks, hnow] at hbegun
    exact ⟨(State.phaseEndCounted_gains c).keep hlatches, fun h => absurd h hlast, fun _ => ⟨hbegun, hleft.of_post.of_ce, hrecords⟩⟩

end

theorem exec_phaseTimeExpired {s : State} {p : Pocket} (hm : s.mode = .operating) {t : Ticks} (h : s.phaseDue p = some t) :
    exec (.phaseTimeExpired p) s = .next ((s.reach t).phaseTimeEnds p) := by
  show execPhaseTimeExpired p s = _
  unfold execPhaseTimeExpired
  rw [State.whenOperating_operating _ _ hm, h]

theorem CycleEngine.entry_eq {c : CycleEngine} {i : Nat} {e : PhaseEntry} (hi : c.index = some i) (he : entryAt c.program i = some e) :
    c.entry = some e := by
  unfold CycleEngine.entry
  rw [hi]
  exact he

theorem phasesEndAtTheirTime : PhasesEndAtTheirTime := by
  rintro p s b i e since te hm hst hi hpos he hrun hte rfl
  have hentry : s.entry p = some e := CycleEngine.entry_eq hi he
  have hdue : s.phaseDue p = some (since + (e.minutes * 60 * 10000 - (s.pocket p).ce.phaseTicks)) := by
    unfold State.phaseDue
    rw [hst, hrun, hentry]
    rfl
  obtain ⟨b, hb⟩ : ∃ b, b = s.reach (since + (e.minutes * 60 * 10000 - (s.pocket p).ce.phaseTicks)) := ⟨_, rfl⟩
  have hpb : b.pocket p = s.pocket p := by rw [hb, State.pocket_reach]
  rw [← hb]
  have hends : b.phaseTimeEnds p = b.endPhase p (b.timeReason p e) := by
    unfold State.phaseTimeEnds State.entry
    rw [hpb, CycleEngine.entry_eq hi he]
  refine ⟨b.endPhase p (b.timeReason p e), b.timeReason p e, ?_, State.endPhase_ended _ (by rw [hpb]; exact hi) (by rw [hpb]; exact he), ?_⟩
  · rw [exec_phaseTimeExpired hm hdue, ← hb, hends]
  · have hreading : b.exhaustReading p = te := by
      unfold State.exhaustReading
      rw [hpb, hte]
    unfold State.timeReason State.cooled
    rw [hreading]
    cases e.kind <;> simp

/-! ## The dry condition (R79) -/

theorem State.inDryPhase_iff (s : State) (p : Pocket) (i : Nat) :
    s.inDryPhase p i = true ↔ (s.pocket p).ce.state = .running ∧ (s.pocket p).ce.index = some i
      ∧ ∃ e, entryAt (s.pocket p).ce.program i = some e ∧ e.kind = .heatDry := by
  simp only [State.inDryPhase, Bool.and_eq_true, beq_iff_eq, and_assoc]
  refine and_congr_right fun _ => and_congr_right fun hi => ?_
  simp [State.entry, CycleEngine.entry, hi, Option.any_eq_true]

theorem exec_dryCondition {s : State} (hm : s.mode = .operating) (p : Pocket) (i : Nat) {b : State}
    (hb : b = s.onMe p (fun m => { m with dryNotice := if m.dryNotice = some i then none else m.dryNotice })) :
    exec (.dryCondition p i) s = .next (if s.inDryPhase p i then b.endPhase p .dry else b) := by
  show execDryCondition p i s = _
  unfold execDryCondition
  rw [State.whenOperating_operating _ _ hm, hb]

theorem dryConditionEndsItsPhase : DryConditionEndsItsPhase := by
  intro p s b i hm hb
  have hce : (b.pocket p).ce = (s.pocket p).ce := by
    rw [hb]
    cases p <;> rfl
  rw [exec_dryCondition hm p i hb]
  refine ⟨fun e hst hi _ he hkind => ⟨b.endPhase p .dry, ?_, State.endPhase_ended _ (by rw [hce]; exact hi) (by rw [hce]; exact he)⟩,
    fun hno => ?_⟩
  · rw [if_pos ((s.inDryPhase_iff p i).mpr ⟨hst, hi, e, he, hkind⟩)]
  · rw [if_neg (mt (s.inDryPhase_iff p i).mp hno)]

/-! ## The end of the pause purge (R15) -/

theorem exec_purgeEnd {s : State} {p : Pocket} (hm : s.mode = .operating) {t : Ticks} (h : (s.pocket p).ce.purgeDue = some t) :
    exec (.purgeEnd p) s = .next (((s.reach t).onCe p (fun c => { c.blowerEnds with purgeDue := none })).dropE p) := by
  show execPurgeEnd p s = _
  unfold execPurgeEnd
  rw [State.whenOperating_operating _ _ hm, h]

/-- A pocket whose blower is off is heated by no stage. -/
theorem PocketState.not_clearForHeat_of_unproven {y : PocketState} (h : y.ce.airflowProven = false) :
    ¬ (y.ce.heats = true ∧ y.clearForHeat) := by
  rintro ⟨-, hclear⟩
  simp [PocketState.clearForHeat, h] at hclear

theorem purgeEndStopsTheBlower : PurgeEndStopsTheBlower := by
  intro p s t hm hst ht
  have hpb : (s.reach t).pocket p = s.pocket p := State.pocket_reach s t p
  obtain ⟨y, hy⟩ : ∃ y, y = { s.pocket p with ce := { (s.pocket p).ce.blowerEnds with purgeDue := none } } := ⟨_, rfl⟩
  have hce : y.ce = { (s.pocket p).ce with purgeDue := none, airflowProven := false, closureDue := none } := by rw [hy]; rfl
  have hend : ((s.reach t).onCe p (fun c => { c.blowerEnds with purgeDue := none })).dropE p
      = (s.reach t).setPocket p { y with hsc := y.hsc.withEnergized (s.reach t).now 0 } := by
    rw [State.onCe, hpb, ← hy]
    exact State.dropE_setPocket_zero _ p (PocketState.not_clearForHeat_of_unproven (by rw [hce]))
  refine ⟨_, exec_purgeEnd hm ht, ?_⟩
  rw [hend]
  refine ⟨?_, ?_, ?_⟩
  · rw [OnlyPocket, State.pocket_setPocket]
  · unfold State.blwr CycleEngine.blowerDemand
    rw [State.pocket_setPocket]
    dsimp only
    rw [hce]
    dsimp only
    rw [hst]
    rfl
  · rw [State.pocket_setPocket]
    refine ⟨hce, HeatStages.withEnergized_energized .., ?_, ?_⟩
    · rw [HeatStages.withEnergized_level, hy]
    · rw [hy]
      exact ⟨rfl, rfl, rfl, rfl, rfl, rfl, rfl, rfl, rfl⟩

/-! ## The end of the run-on (R21) -/

theorem exec_runOnTimeout {s : State} {p : Pocket} (hm : s.mode = .operating) {t : Ticks} (h : (s.pocket p).ce.runOnSince = some t) :
    exec (.runOnTimeout p) s = .next ((s.reach (t + seconds 120)).endRunOn p) := by
  show execRunOnTimeout p s = _
  unfold execRunOnTimeout CycleEngine.runOnDue
  rw [State.whenOperating_operating _ _ hm, h]
  rfl

/-- The pocket whose run-on has ended at `now`. -/
def PocketState.runOnEnded (now : Ticks) (x : PocketState) : PocketState :=
  { x with ce := { x.ce with airflowProven := false, closureDue := none, runOnSince := none }, hsc := x.hsc.withEnergized now 0 }

section
variable {b : State} {p : Pocket}

theorem State.endRunOn_eq (b : State) (p : Pocket) :
    b.endRunOn p = (b.setPocket p ((b.pocket p).runOnEnded b.now)).finishWindDown p := by
  unfold State.endRunOn
  rw [State.onCe, State.dropE_setPocket_zero _ p (PocketState.not_clearForHeat_of_unproven rfl)]
  rfl

/-- What the end of a run-on leaves alone. -/
theorem State.endRunOn_kept (b : State) (p : Pocket) :
    OnlyPocketAndLatches p b (b.endRunOn p)
      ∧ ∃ c sb, (b.endRunOn p).pocket p = { (b.pocket p).runOnEnded b.now with ce := c, sb := sb }
        ∧ c = { ((b.pocket p).runOnEnded b.now).ce with result := c.result, windingDown := c.windingDown, state := c.state } := by
  obtain ⟨honly, c, sb, hpocket, hce⟩ := (b.setPocket p ((b.pocket p).runOnEnded b.now)).finishWindDown_kept p
  rw [State.pocket_setPocket] at hpocket hce
  rw [State.endRunOn_eq]
  exact ⟨(OnlyPocketAndLatches.setPocket p b _).trans honly, c, sb, hpocket, hce⟩

/-- With the drum still coasting the wind-down goes on. -/
theorem State.endRunOn_coasting (h : (b.pocket p).dmc.state ≠ .stopped) :
    b.endRunOn p = b.setPocket p ((b.pocket p).runOnEnded b.now) := by
  rw [State.endRunOn_eq]
  refine State.finishWindDown_still ?_
  rw [State.pocket_setPocket]
  exact fun hover => h hover.2.2

/-- With the drum in STOPPED the wind-down ends. -/
theorem State.endRunOn_ended (hwinding : (b.pocket p).ce.windingDown = true) (hstopped : (b.pocket p).dmc.state = .stopped)
    (hreason : (b.pocket p).ce.endReason ≠ none)
    (hone : ¬ ((b.pocket p).sb.x.state = .filling ∧ (b.pocket p).sb.y.state = .filling))
    (hfree : ∀ n, ((b.pocket p).sb.buffer n).state = .free → ((b.pocket p).sb.buffer n).records = []) :
    WindDownEnded p b (b.endRunOn p) := by
  rw [State.endRunOn_eq]
  exact State.finishWindDown_ended ⟨hwinding, rfl, hstopped⟩ hreason rfl rfl rfl rfl hone hfree

/-- The blower is off once the run-on has ended from a wind-down. -/
theorem State.endRunOn_blwr (h : (b.pocket p).ce.state = .windingDown ∨ (b.pocket p).ce.state = .faulted) :
    (b.endRunOn p).blwr p = false := by
  rw [State.endRunOn_eq]
  by_cases hover : ((b.pocket p).runOnEnded b.now).windDownOver
  · rw [State.finishWindDown_over (by rw [State.pocket_setPocket]; exact hover)]
    unfold State.blwr CycleEngine.blowerDemand
    rw [State.pocket_post, State.pocket_postIf, State.pocket_setPocket, State.pocket_setPocket]
    rcases h with h | h <;> simp [PocketState.windDownEnded, PocketState.runOnEnded, h]
  · rw [State.finishWindDown_still (by rw [State.pocket_setPocket]; exact hover)]
    unfold State.blwr CycleEngine.blowerDemand
    rw [State.pocket_setPocket]
    rcases h with h | h <;> simp [PocketState.runOnEnded, h]

end

theorem runOnEndsTheWindDown : RunOnEndsTheWindDown := by
  rintro p s b t hm ht hwinding hreason hst hb
  have hpb : b.pocket p = s.pocket p := by rw [hb, State.pocket_reach]
  obtain ⟨honly, c, sb, hpocket, hce⟩ := b.endRunOn_kept p
  rw [hpb] at hpocket hce
  refine ⟨b.endRunOn p, by rw [exec_runOnTimeout hm ht, hb], State.endRunOn_blwr (by rw [hpb]; exact hst), ?_, ?_, honly, ?_, ?_, ?_, ?_, ?_,
    ?_, ?_, ?_, fun hstopped hone hfree => ?_, fun hcoasting => ?_⟩
  · rw [hpocket, hce]
    rfl
  · rw [hpocket, hce]
    rfl
  · rw [hpocket]
    rfl
  · rw [hpocket]
    rfl
  · rw [hpocket]
    rfl
  · rw [hpocket]
    rfl
  · rw [hpocket]
    rfl
  · rw [hpocket]
    rfl
  · rw [hpocket]
    rfl
  · rw [hpocket, hce]
    rfl
  · exact State.endRunOn_ended (by rw [hpb]; exact hwinding) (by rw [hpb]; exact hstopped) (by rw [hpb]; exact hreason)
      (by rw [hpb]; exact hone) (by rw [hpb]; exact hfree)
  · rw [State.endRunOn_coasting (by rw [hpb]; exact hcoasting), State.pocket_setPocket, hpb]
    exact ⟨rfl, hwinding, rfl, rfl⟩

end Sys2Proof.Machine

/-! PROOF. What a pocket's own blocks of a supply update do to it: its heater checks, as a trip or without one, and the ends of its phase
and of its run-on (R12, R21, R117). -/

namespace Sys2Proof.Machine

/-! ## A pocket's supervision, calm or tripped -/

/-- Of pocket `p`'s own part no more has changed than the fault list, the heat stage controller and the tangle monitor, and the account
stands. -/
structure Calm (p : Pocket) (s t : State) : Prop where
  ce : (t.pocket p).ce = (s.pocket p).ce
  dmc : (t.pocket p).dmc = (s.pocket p).dmc
  rcu : (t.pocket p).rcu = (s.pocket p).rcu
  me : (t.pocket p).me = (s.pocket p).me
  sa : t.sa = s.sa

/-- Pocket `p` has tripped (R22): from a cycle its drum is stopped and its heat given up, and FAULT is posted. -/
structure TripTaken (p : Pocket) (s t : State) : Prop where
  response : TripResponse s.now (s.phaseTicks p) (s.pocket p) (t.pocket p)
  posted : LatchesGain (.fault p) s t
  stops : (s.pocket p).ce.state.stoppable = true →
    ((t.pocket p).hsc.energized = 0 ∧ t.granted p = 0 ∧ t.requestOf p = none)
    ∧ DrumHalted s.now (s.coastTicks p) (s.pocket p) (t.pocket p)
    ∧ (t.pocket p).me = { (s.pocket p).me with dryNotice := none }
  stands : (s.pocket p).ce.state.stoppable = false →
    (t.pocket p).dmc = (s.pocket p).dmc ∧ (t.pocket p).rcu = (s.pocket p).rcu ∧ (t.pocket p).me = (s.pocket p).me ∧ t.sa = s.sa

/-- A step of pocket `p`'s own supervision. -/
structure Supervised (p : Pocket) (s t : State) : Prop where
  spares : Spared (otherPocket p) s t
  records : SameRecordsButFaults (s.pocket p) (t.pocket p)
  cooler : (t.pocket p).hsc.energized ≤ (s.pocket p).hsc.energized
  taken : Calm p s t ∨ TripTaken p s t

/-- A trip leaves the pocket FAULTED (R22). -/
theorem TripResponse.faulted {now ticks : Ticks} {x y : PocketState} (h : TripResponse now ticks x y) : y.ce.state = .faulted := by
  unfold TripResponse at h
  cases hst : x.ce.state <;> rw [hst] at h
  case faulted => rw [h, hst]
  all_goals rw [h]

/-- A FAULTED pocket keeps its cycle engine over a trip (R22). -/
theorem TripResponse.of_faulted {now ticks : Ticks} {x y : PocketState} (h : TripResponse now ticks x y) (hst : x.ce.state = .faulted) :
    y.ce = x.ce := by
  unfold TripResponse at h
  rwa [hst] at h

section
variable {p : Pocket} {s t u : State}

theorem Spared.mask (h : Spared p s t) (q : Port) : (t.port q).mask = (s.port q).mask :=
  (congrArg PortState.mask (h.ports q)).symm ▸ rfl

theorem Spared.now (h : Spared p s t) : t.now = s.now := h.shared.2.2.1

theorem Spared.ps (h : Spared p s t) : t.ps = s.ps := h.shared.2.2.2.2.2.2

theorem Spared.item (h : Spared p s t) (r : Pocket) (i : Nat) : t.item r i = s.item r i := by
  unfold State.item
  rw [h.ps]

theorem State.phaseTicks_congr (hnow : t.now = s.now) (hce : (t.pocket p).ce = (s.pocket p).ce) : t.phaseTicks p = s.phaseTicks p := by
  unfold State.phaseTicks
  rw [hce, hnow]

theorem Calm.refl (p : Pocket) (s : State) : Calm p s s := ⟨rfl, rfl, rfl, rfl, rfl⟩

theorem Calm.trans (h : Calm p s t) (k : Calm p t u) : Calm p s u :=
  ⟨k.ce.trans h.ce, k.dmc.trans h.dmc, k.rcu.trans h.rcu, k.me.trans h.me, k.sa.trans h.sa⟩

/-- A pocket that has tripped takes no second trip: it is FAULTED. -/
theorem TripTaken.again (h : TripTaken p s t) (hst : (s.pocket p).ce.state = .faulted) : Calm p s t := by
  obtain ⟨hdmc, hrcu, hme, hsa⟩ := h.stands (by rw [hst]; rfl)
  exact ⟨h.response.of_faulted hst, hdmc, hrcu, hme, hsa⟩

/-- What a trip reads of the pocket stands over a calm step. -/
theorem TripTaken.after_calm (hs : Spared (otherPocket p) s t) (hlines : (t.pocket p).lines = (s.pocket p).lines) (h : Calm p s t)
    (k : TripTaken p t u) : TripTaken p s u := by
  have hticks := State.phaseTicks_congr hs.now h.ce
  have hcoast : t.coastTicks p = s.coastTicks p := congrArg seconds (hs.item p _)
  refine ⟨?_, k.posted.of_later (fun q => hs.mask q) hs.latches, fun hst => ?_, fun hst => ?_⟩
  · have hr := k.response
    unfold TripResponse WindDownBegun at hr ⊢
    rwa [hticks, hs.now, h.ce, hlines] at hr
  · obtain ⟨hheat, hdrum, hme⟩ := k.stops (by rw [h.ce]; exact hst)
    refine ⟨hheat, ?_, by rw [hme, h.me]⟩
    unfold DrumHalted at hdrum ⊢
    rwa [hcoast, hs.now, h.dmc, h.rcu] at hdrum
  · obtain ⟨hdmc, hrcu, hme, hsa⟩ := k.stands (by rw [h.ce]; exact hst)
    exact ⟨hdmc.trans h.dmc, hrcu.trans h.rcu, hme.trans h.me, hsa.trans h.sa⟩

theorem TripTaken.before_calm (h : TripTaken p s t) (hs : Spared (otherPocket p) t u)
    (hcooler : (u.pocket p).hsc.energized ≤ (t.pocket p).hsc.energized) (k : Calm p t u) : TripTaken p s u := by
  refine ⟨?_, h.posted.keep hs.latches, fun hst => ?_, fun hst => ?_⟩
  · have hr := h.response
    unfold TripResponse WindDownBegun at hr ⊢
    rwa [← k.ce] at hr
  · obtain ⟨⟨he, hg, hr⟩, hdrum, hme⟩ := h.stops hst
    refine ⟨⟨Nat.le_zero.mp (he ▸ hcooler), ?_, ?_⟩, ?_, k.me.trans hme⟩
    · unfold State.granted at hg ⊢
      rwa [k.sa]
    · unfold State.requestOf at hr ⊢
      rwa [k.sa]
    · unfold DrumHalted at hdrum ⊢
      rwa [← k.dmc, ← k.rcu] at hdrum
  · obtain ⟨hdmc, hrcu, hme, hsa⟩ := h.stands hst
    exact ⟨k.dmc.trans hdmc, k.rcu.trans hrcu, k.me.trans hme, k.sa.trans hsa⟩

theorem Supervised.refl (p : Pocket) (s : State) : Supervised p s s :=
  ⟨.refl _ s, ⟨rfl, rfl, rfl, rfl⟩, le_rfl, .inl (.refl p s)⟩

/-- What follows a trip in the supervision takes no second one. -/
theorem TripTaken.before (h : TripTaken p s t) (k : Supervised p t u) : TripTaken p s u := by
  refine h.before_calm k.spares k.cooler ?_
  rcases k.taken with kcalm | ktrip
  · exact kcalm
  · exact ktrip.again h.response.faulted

/-- One step of supervision after another: of two trips the first alone is taken. -/
theorem Supervised.trans (h : Supervised p s t) (k : Supervised p t u) : Supervised p s u := by
  obtain ⟨hl, hsb, hm, hshed⟩ := h.records
  obtain ⟨kl, ksb, km, kshed⟩ := k.records
  refine ⟨h.spares.trans k.spares, ⟨kl.trans hl, ksb.trans hsb, km.trans hm, kshed.trans hshed⟩, k.cooler.trans h.cooler, ?_⟩
  rcases h.taken with hcalm | htrip
  · exact k.taken.imp hcalm.trans (·.after_calm h.spares hl hcalm)
  · exact .inr (htrip.before k)

theorem Supervised.ite {c : Prop} [Decidable c] (h : c → Supervised p s t) (k : ¬ c → Supervised p s u) :
    Supervised p s (if c then t else u) := by
  split
  · next hc => exact h hc
  · next hc => exact k hc

theorem Spared.setPocket_self (p : Pocket) (s : State) (x : PocketState) : Spared (otherPocket p) s (s.setPocket p x) := by
  have h := Spared.setPocket_other (otherPocket p) s x
  rwa [otherPocket_otherPocket] at h

theorem Spared.report_self (p : Pocket) (s : State) (k : FaultKind) (detail : Option Nat) :
    Spared (otherPocket p) s (s.report p k detail) := by
  have h := Spared.report (otherPocket p) s k detail
  rwa [otherPocket_otherPocket] at h

theorem Supervised.onHsc {f : HeatStages → HeatStages} (h : (f (s.pocket p).hsc).energized ≤ (s.pocket p).hsc.energized) :
    Supervised p s (s.onHsc p f) := by
  have hp : (s.onHsc p f).pocket p = { s.pocket p with hsc := f (s.pocket p).hsc } := State.pocket_setPocket ..
  refine ⟨.setPocket_self p s _, ?_, ?_, .inl ⟨?_, ?_, ?_, ?_, State.sa_onHsc s p f⟩⟩
  · rw [hp]
    exact ⟨rfl, rfl, rfl, rfl⟩
  all_goals rw [hp]
  exact h

/-- A report of a TRIP (R164). -/
theorem TripTaken.report (p : Pocket) (s : State) {k : FaultKind} (hk : isTrip k = true) (detail : Option Nat) :
    TripTaken p s (s.report p k detail) := by
  obtain ⟨⟨hresponse, hstops, hstands, hgain⟩, -⟩ := s.report_trip p k detail hk
  refine ⟨hresponse, hgain, fun hst => ?_, fun hst => ?_⟩
  · obtain ⟨⟨he, hg, hr, -, -⟩, hdrum, -, hme, -, -⟩ := hstops hst
    exact ⟨⟨he, hg, hr⟩, hdrum, hme⟩
  · obtain ⟨hdmc, hrcu, hme, -, -, -, hsa, -⟩ := hstands hst
    exact ⟨hdmc, hrcu, hme, hsa⟩

/-- A report of a WARNING changes no more of the pocket than its list (R162). -/
theorem State.report_warning_pocket (s : State) (p : Pocket) {k : FaultKind} (hk : isTrip k = false) (detail : Option Nat) :
    (s.report p k detail).pocket p
      = { s.pocket p with fl := ((s.pocket p).fl.take (s.pocket p).ce.faultPhase s.secondsCount k detail).1 } := by
  rw [s.report_warning p detail hk rfl, State.pocket_postIf, State.pocket_setPocket]

theorem Calm.report (p : Pocket) (s : State) {k : FaultKind} (hk : isTrip k = false) (detail : Option Nat) :
    Calm p s (s.report p k detail) := by
  have hp := s.report_warning_pocket p hk detail
  refine ⟨by rw [hp], by rw [hp], by rw [hp], by rw [hp], ?_⟩
  rw [s.report_warning p detail hk rfl]
  unfold State.postIf
  split <;> cases p <;> rfl

/-- A report is a trip or leaves all but the list (R164). -/
theorem Supervised.report (p : Pocket) (s : State) (k : FaultKind) (detail : Option Nat) : Supervised p s (s.report p k detail) := by
  cases hk : isTrip k
  · have hp := s.report_warning_pocket p hk detail
    refine ⟨.report_self p s k detail, ?_, ?_, .inl (.report p s hk detail)⟩
    · rw [hp]
      exact ⟨rfl, rfl, rfl, rfl⟩
    · rw [hp]
  · obtain ⟨-, hrecords, -, hcooler, -⟩ := s.report_trip p k detail hk
    exact ⟨.report_self p s k detail, hrecords, hcooler, .inr (.report p s hk detail)⟩

/-! ## The heater checks of the pocket -/

theorem Supervised.checkExhaust (p : Pocket) (s : State) (t : Int) : Supervised p s (s.checkExhaust p t) :=
  .ite (fun _ => .onHsc le_rfl) fun _ => .ite (fun _ => (Supervised.onHsc le_rfl).trans (.report p _ _ _)) fun _ => .refl p s

theorem Supervised.checkInlet (p : Pocket) (s : State) (t : Int) : Supervised p s (s.checkInlet p t) :=
  .ite (fun _ => .onHsc le_rfl) fun _ => .ite (fun _ => (Supervised.onHsc le_rfl).trans (.report p _ _ _)) fun _ => .refl p s

theorem Supervised.takeOvercurrent (p : Pocket) (s : State) (e : Nat) : Supervised p s (s.takeOvercurrent p e) := by
  unfold State.takeOvercurrent
  dsimp only
  refine .ite (fun _ => .onHsc ?_) fun _ => (Supervised.onHsc ?_).trans (.report p _ _ _)
  all_goals
    dsimp only
    rw [HeatStages.withEnergized_energized]
    exact Nat.zero_le _

theorem Supervised.currentChecks (p : Pocket) (s : State) (c : CheckInputs) : Supervised p s (s.currentChecks p c) := by
  have h : Supervised p s (s.compareCurrents p c) := by
    unfold State.compareCurrents
    exact .onHsc le_rfl
  exact .ite (fun _ => h.trans (.takeOvercurrent p _ _)) fun _ =>
    .ite (fun _ => h.trans ((Supervised.onHsc le_rfl).trans (.report p _ _ _))) fun _ =>
    .ite (fun _ => h.trans ((Supervised.onHsc le_rfl).trans (.report p _ _ _))) fun _ => h

theorem Supervised.heaterChecks (p : Pocket) (s : State) (exhaust inlet : Int) (c : CheckInputs) :
    Supervised p s (s.heaterChecks p exhaust inlet c) :=
  ((Supervised.checkExhaust p s exhaust).trans (.checkInlet p _ inlet)).trans (.currentChecks p _ c)

end

end Sys2Proof.Machine

/-! PROOF. The supervision items of a heat stage controller and the fault list through a supply update (R109 to R118, R160). -/

namespace Sys2Proof.Machine

/-! ## Supervision items through trips and reports -/

/-- The supervision items but for the overcurrent count, which a phase's start sets to 0 (R10). -/
def HeatStages.checks (h : HeatStages) : HeatStages := { h.supervision with overCount := 0 }

theorem HeatStages.checks_of_supervision {h k : HeatStages} (e : h.supervision = k.supervision) : h.checks = k.checks := by
  unfold HeatStages.checks
  rw [e]

theorem HeatStages.same_of_checks {α : Type} {h k : HeatStages} (e : h.checks = k.checks) (f : HeatStages → α) :
    f h.checks = f k.checks := by rw [e]

theorem HeatStages.supervision_withEnergized (now : Ticks) (n : Nat) (h : HeatStages) :
    (h.withEnergized now n).supervision = h.supervision := by
  unfold HeatStages.withEnergized
  split <;> rfl

section
variable (s : State) (p : Pocket)

theorem State.enterWindDown_supervision (state : CycleState) (reason : CycleEndReason) :
    ((s.enterWindDown p state reason).pocket p).hsc.supervision = (s.pocket p).hsc.supervision := by
  rw [State.enterWindDown_eq]
  exact (s.leaveCycle_lowers p _).supervision

theorem State.onCe_hsc (f : CycleEngine → CycleEngine) : ((s.onCe p f).pocket p).hsc = (s.pocket p).hsc := by
  cases p <;> rfl

theorem State.trip_supervision : ((s.trip p).pocket p).hsc.supervision = (s.pocket p).hsc.supervision := by
  unfold State.trip
  rw [State.pocket_post]
  cases (s.pocket p).ce.state <;> dsimp only
  case idle | windingDown => rw [State.onCe_hsc]
  all_goals exact s.enterWindDown_supervision p _ _

theorem State.report_supervision (k : FaultKind) (detail : Option Nat) :
    ((s.report p k detail).pocket p).hsc.supervision = (s.reportedHeat p k).supervision := by
  have hp : ((s.setPocket p (s.reported p k detail)).pocket p).hsc = s.reportedHeat p k := by
    rw [State.pocket_setPocket]
    rfl
  rw [State.report_eq]
  split
  · rw [State.trip_supervision, hp]
  · rw [State.pocket_postIf, hp]

/-- A report of any kind but HEATER_STUCK_ON leaves the supervision items. -/
theorem State.report_supervision_kept {k : FaultKind} (hk : k ≠ .heaterStuckOn) (detail : Option Nat) :
    ((s.report p k detail).pocket p).hsc.supervision = (s.pocket p).hsc.supervision := by
  rw [State.report_supervision, State.reportedHeat, if_neg hk]

theorem State.report_stuckOn_supervision :
    ((s.report p .heaterStuckOn none).pocket p).hsc.supervision = { (s.pocket p).hsc with safe := false }.supervision := by
  rw [State.report_supervision, State.reportedHeat, if_pos rfl, HeatStages.supervision_withEnergized]

/-- The list after a report (R160 to R163). -/
theorem State.report_fl (k : FaultKind) (detail : Option Nat) : ((s.report p k detail).pocket p).fl
    = ((s.pocket p).fl.take (s.pocket p).ce.faultPhase s.secondsCount k detail).1 := by
  rw [State.report_eq]
  split
  · obtain ⟨-, ⟨-, -, hfl, -, -⟩, -⟩ := (s.setPocket p (s.reported p k detail)).trip_tripped p
    rw [hfl, State.pocket_setPocket]
    rfl
  · rw [State.pocket_postIf, State.pocket_setPocket]
    rfl

/-! ## The two sample checks (R116, R118) -/

theorem State.checkExhaust_supervision (t : Int) : ((s.checkExhaust p t).pocket p).hsc.supervision
    = { (s.pocket p).hsc with exhaustArmed := inSenseRange t }.supervision := by
  unfold State.checkExhaust
  cases inSenseRange t
  · rw [if_neg Bool.false_ne_true]
    cases harmed : (s.pocket p).hsc.exhaustArmed
    · rw [if_neg Bool.false_ne_true, ← harmed]
    · rw [if_pos rfl, State.report_supervision_kept _ _ (by decide), State.onHsc_pocket]
  · rw [if_pos rfl, State.onHsc_pocket]

theorem State.checkInlet_supervision (t : Int) : ((s.checkInlet p t).pocket p).hsc.supervision
    = { (s.pocket p).hsc with inletArmed := inSenseRange t }.supervision := by
  unfold State.checkInlet
  cases inSenseRange t
  · rw [if_neg Bool.false_ne_true]
    cases harmed : (s.pocket p).hsc.inletArmed
    · rw [if_neg Bool.false_ne_true, ← harmed]
    · rw [if_pos rfl, State.report_supervision_kept _ _ (by decide), State.onHsc_pocket]
  · rw [if_pos rfl, State.onHsc_pocket]

/-- The two samples of an update checked. -/
def State.samplesChecked (s : State) (p : Pocket) (exhaust inlet : Int) : State := (s.checkExhaust p exhaust).checkInlet p inlet

theorem State.samplesChecked_supervision (exhaust inlet : Int) :
    ((s.samplesChecked p exhaust inlet).pocket p).hsc.supervision
      = { (s.pocket p).hsc with exhaustArmed := inSenseRange exhaust, inletArmed := inSenseRange inlet }.supervision := by
  have hexhaust := s.checkExhaust_supervision p exhaust
  have hinlet := (s.checkExhaust p exhaust).checkInlet_supervision p inlet
  have hset (h k : HeatStages) (e : h.supervision = k.supervision) (b : Bool) :
      { h with inletArmed := b }.supervision = { k with inletArmed := b }.supervision :=
    congrArg (fun h : HeatStages => { h with inletArmed := b }) e
  exact hinlet.trans (hset _ _ hexhaust _)

theorem Supervised.samplesChecked (exhaust inlet : Int) : Supervised p s (s.samplesChecked p exhaust inlet) :=
  (Supervised.checkExhaust p s exhaust).trans (.checkInlet p _ inlet)

end

/-! ## The current checks (R110 to R114, R118) -/

/-- The heat stage controller after the comparisons of an update, with the items they go by. -/
def HeatStages.compared (c : CheckInputs) (tolerance offLimit overload underload : Nat) (h : HeatStages) : HeatStages :=
  { h with
    expected := c.expected, suspended := c.suspended, overHolds := c.overHolds tolerance, underHolds := c.underHolds tolerance,
    overTimer := nextTimer c.suspended (c.overHolds tolerance) overload h.overTimer,
    stuckTimer := nextTimer c.suspended (c.stuckHolds offLimit) overload h.stuckTimer,
    underTimer := nextTimer c.suspended (c.underHolds tolerance) underload h.underTimer,
    stuckArmed := nextArmed c.suspended (c.stuckHolds offLimit) h.stuckArmed,
    underArmed := nextArmed c.suspended (c.underHolds tolerance) h.underArmed }

/-- The comparisons as the pocket's items give them. -/
def State.comparedHeat (s : State) (p : Pocket) (c : CheckInputs) (h : HeatStages) : HeatStages :=
  h.compared c (s.item p PocketItem.currentTolerance) (s.item p PocketItem.offCurrentLimit) (s.overloadTime p) (s.underloadTime p)

theorem State.compareCurrents_eq (s : State) (p : Pocket) (c : CheckInputs) :
    s.compareCurrents p c = s.onHsc p (s.comparedHeat p c) := rfl

section
variable {s : State} {p : Pocket} {c : CheckInputs} {k : HeatStages}

theorem State.currentChecks_over (hk : k = s.comparedHeat p c (s.pocket p).hsc) (h : s.overloadTime p ≤ k.overTimer) :
    s.currentChecks p c = (s.compareCurrents p c).takeOvercurrent p c.energized := by
  have hp : ((s.compareCurrents p c).pocket p).hsc = k := by rw [State.compareCurrents_eq, State.onHsc_pocket, hk]
  unfold State.currentChecks
  dsimp only
  rw [hp, if_pos h]

theorem State.currentChecks_stuck (hk : k = s.comparedHeat p c (s.pocket p).hsc) (hno : ¬ s.overloadTime p ≤ k.overTimer)
    (h : s.overloadTime p ≤ k.stuckTimer) (harmed : k.stuckArmed = true) :
    s.currentChecks p c = (s.compareCurrents p c).takeStuckOn p := by
  have hp : ((s.compareCurrents p c).pocket p).hsc = k := by rw [State.compareCurrents_eq, State.onHsc_pocket, hk]
  unfold State.currentChecks
  dsimp only
  rw [hp, if_neg hno, if_pos (by rw [harmed, decide_eq_true h]; rfl)]

theorem State.currentChecks_under (hk : k = s.comparedHeat p c (s.pocket p).hsc) (hno : ¬ s.overloadTime p ≤ k.overTimer)
    (hstuck : ¬ (s.overloadTime p ≤ k.stuckTimer ∧ k.stuckArmed = true)) (h : s.underloadTime p ≤ k.underTimer)
    (harmed : k.underArmed = true) : s.currentChecks p c = (s.compareCurrents p c).takeUnderload p c.energized := by
  have hp : ((s.compareCurrents p c).pocket p).hsc = k := by rw [State.compareCurrents_eq, State.onHsc_pocket, hk]
  unfold State.currentChecks
  dsimp only
  rw [hp, if_neg hno, if_neg (by simpa using hstuck), if_pos (by rw [harmed, decide_eq_true h]; rfl)]

theorem State.currentChecks_none (hk : k = s.comparedHeat p c (s.pocket p).hsc) (hno : ¬ s.overloadTime p ≤ k.overTimer)
    (hstuck : ¬ (s.overloadTime p ≤ k.stuckTimer ∧ k.stuckArmed = true))
    (hunder : ¬ (s.underloadTime p ≤ k.underTimer ∧ k.underArmed = true)) : s.currentChecks p c = s.compareCurrents p c := by
  have hp : ((s.compareCurrents p c).pocket p).hsc = k := by rw [State.compareCurrents_eq, State.onHsc_pocket, hk]
  unfold State.currentChecks
  dsimp only
  rw [hp, if_neg hno, if_neg (by simpa using hstuck), if_neg (by simpa using hunder)]

/-- The controller that takes an overcurrent check (R111, R112). -/
def HeatStages.overTaken (now : Ticks) (h : HeatStages) : HeatStages :=
  { h.withEnergized now 0 with
    overCount := min 3 (h.overCount + 1), overTimer := 0,
    recoveryDue := if min 3 (h.overCount + 1) < 3 then some (now + seconds 5) else h.recoveryDue }

theorem State.takeOvercurrent_eq (s : State) (p : Pocket) (e : Nat) :
    s.takeOvercurrent p e = if min 3 ((s.pocket p).hsc.overCount + 1) < 3 then s.onHsc p (·.overTaken s.now)
      else (s.onHsc p (·.overTaken s.now)).report p .heaterOvercurrent (some e) := by
  have hsame : s.onHsc p (fun h =>
      { h.withEnergized s.now 0 with
          overCount := min 3 ((s.pocket p).hsc.overCount + 1), overTimer := 0,
          recoveryDue := if min 3 ((s.pocket p).hsc.overCount + 1) < 3 then some (s.now + seconds 5) else h.recoveryDue })
      = s.onHsc p (·.overTaken s.now) := rfl
  unfold State.takeOvercurrent
  dsimp only
  rw [hsame]

theorem State.takeOvercurrent_supervision (s : State) (p : Pocket) (e : Nat) :
    ((s.takeOvercurrent p e).pocket p).hsc.supervision = ((s.pocket p).hsc.overTaken s.now).supervision := by
  rw [State.takeOvercurrent_eq]
  split
  · rw [State.onHsc_pocket]
  · rw [State.report_supervision_kept _ _ (by decide), State.onHsc_pocket]

theorem State.takeStuckOn_supervision (s : State) (p : Pocket) :
    ((s.takeStuckOn p).pocket p).hsc.supervision = { (s.pocket p).hsc with stuckArmed := false, safe := false }.supervision := by
  rw [State.takeStuckOn_eq, State.report_stuckOn_supervision, State.onHsc_pocket]

theorem State.takeUnderload_supervision (s : State) (p : Pocket) (e : Nat) :
    ((s.takeUnderload p e).pocket p).hsc.supervision = { (s.pocket p).hsc with underArmed := false }.supervision := by
  unfold State.takeUnderload
  rw [State.report_supervision_kept _ _ (by decide), State.onHsc_pocket]

end

/-! ## The ends of the phase and of the run-on -/

/-- What no block of a supply update changes in a pocket: the lines, the meter, the shed hold, the samples, the filter, the index, and the
number of the next record. -/
structure KeptByBlocks (x y : PocketState) : Prop where
  lines : y.lines = x.lines
  meter : y.meter = x.meter
  shedDue : y.shedDue = x.shedDue
  exhaust : y.me.exhaust = x.me.exhaust
  inlet : y.me.inlet = x.me.inlet
  s16 : y.me.s16 = x.me.s16
  index : y.me.index = x.me.index
  nextSequence : y.rcu.nextSequence = x.rcu.nextSequence

section
variable {x y z : PocketState}

theorem KeptByBlocks.refl (x : PocketState) : KeptByBlocks x x := ⟨rfl, rfl, rfl, rfl, rfl, rfl, rfl, rfl⟩

theorem KeptByBlocks.trans (h : KeptByBlocks x y) (k : KeptByBlocks y z) : KeptByBlocks x z :=
  ⟨k.lines.trans h.lines, k.meter.trans h.meter, k.shedDue.trans h.shedDue, k.exhaust.trans h.exhaust, k.inlet.trans h.inlet,
    k.s16.trans h.s16, k.index.trans h.index, k.nextSequence.trans h.nextSequence⟩

theorem DrumHalted.nextSequence {now coast : Ticks} (h : DrumHalted now coast x y) : y.rcu.nextSequence = x.rcu.nextSequence := by
  obtain ⟨hturning, hcoast, hdwell, hstopped⟩ := h
  cases hd : x.dmc.state with
  | accel => rw [(hturning (.inl hd)).2]
  | run => rw [(hturning (.inr hd)).2]
  | coast => rw [(hcoast hd).2]
  | dwell => rw [(hdwell hd).2]
  | stopped => rw [(hstopped hd).2]

end

section
variable {p : Pocket} {s t : State}

theorem Spared.kept (h : Spared p s t) : KeptByBlocks (s.pocket p) (t.pocket p) := by
  obtain ⟨k, hk, -⟩ := h.pocket
  rw [hk]
  exact ⟨rfl, rfl, rfl, rfl, rfl, rfl, rfl, rfl⟩

theorem Supervised.kept (h : Supervised p s t) : KeptByBlocks (s.pocket p) (t.pocket p) := by
  obtain ⟨hl, -, hm, hshed⟩ := h.records
  rcases h.taken with hcalm | htrip
  · refine ⟨hl, hm, hshed, ?_, ?_, ?_, ?_, ?_⟩
    case refine_5 => rw [hcalm.rcu]
    all_goals rw [hcalm.me]
  · cases hst : (s.pocket p).ce.state.stoppable
    · obtain ⟨-, hrcu, hme, -⟩ := htrip.stands hst
      refine ⟨hl, hm, hshed, ?_, ?_, ?_, ?_, ?_⟩
      case refine_5 => rw [hrcu]
      all_goals rw [hme]
    · obtain ⟨-, hdrum, hme⟩ := htrip.stops hst
      refine ⟨hl, hm, hshed, ?_, ?_, ?_, ?_, hdrum.nextSequence⟩
      all_goals rw [hme]

/-- A pocket's own end of a phase or of a run-on leaves its fault list and its supervision items but the overcurrent count. -/
structure EndKeeps (p : Pocket) (s t : State) : Prop where
  spares : Spared (otherPocket p) s t
  kept : KeptByBlocks (s.pocket p) (t.pocket p)
  checks : (t.pocket p).hsc.checks = (s.pocket p).hsc.checks
  fl : (t.pocket p).fl = (s.pocket p).fl

theorem EndKeeps.refl (p : Pocket) (s : State) : EndKeeps p s s := ⟨.refl _ s, .refl _, rfl, rfl⟩

theorem State.phaseStart_checks (s : State) (p : Pocket) :
    ((s.phaseStart p).pocket p).hsc.checks = (s.pocket p).hsc.checks := by
  have hstart (t : State) (h : (t.pocket p).hsc.checks = (s.pocket p).hsc.checks) (heat : Bool) :
      ((if heat then t.applyCap p else (t.dropE p).releaseAll p).pocket p).hsc.checks = (s.pocket p).hsc.checks := by
    rw [← h]
    split
    · exact HeatStages.checks_of_supervision (HeatLowered.applyCap p t p).supervision
    · exact HeatStages.checks_of_supervision (((HeatLowered.dropE p t).trans (.releaseAll p _)) p).supervision
  unfold State.phaseStart
  refine hstart _ ?_ _
  cases p <;> rfl

theorem State.endPhase_checks (s : State) (p : Pocket) (reason : PhaseEndReason) :
    ((s.endPhase p reason).pocket p).hsc.checks = (s.pocket p).hsc.checks := by
  unfold State.endPhase
  split
  · dsimp only
    split
    · rw [State.phaseStart_checks, State.onCe_hsc, State.pocket_post, State.onCe_hsc]
    · rw [HeatStages.checks_of_supervision (State.enterWindDown_supervision _ p _ _), State.pocket_post, State.onCe_hsc]
  · rfl

theorem PhaseEnded.kept {i : Nat} {e : PhaseEntry} {reason : PhaseEndReason} (h : PhaseEnded i e reason p s t) :
    KeptByBlocks (s.pocket p) (t.pocket p) ∧ SameRecords (s.pocket p) (t.pocket p) := by
  obtain ⟨-, hnext, hlast⟩ := h
  by_cases hi : i < (s.pocket p).ce.program.length
  · obtain ⟨-, -, ⟨e', -, hme, -, -⟩, -, hrcu, -, hrecords, -⟩ := hnext hi
    obtain ⟨hl, -, -, hm, hshed⟩ := id hrecords
    refine ⟨⟨hl, hm, hshed, ?_, ?_, ?_, ?_, by rw [hrcu]⟩, hrecords⟩
    all_goals rw [hme]
  · obtain ⟨-, ⟨-, hdrum, -, hme, -, -⟩, hrecords⟩ := hlast (by omega)
    obtain ⟨hl, -, -, hm, hshed⟩ := id hrecords
    refine ⟨⟨hl, hm, hshed, ?_, ?_, ?_, ?_, hdrum.nextSequence⟩, hrecords⟩
    all_goals rw [hme]

theorem CycleEngine.entry_eq_some {c : CycleEngine} {e : PhaseEntry} (h : c.entry = some e) :
    ∃ i, c.index = some i ∧ entryAt c.program i = some e := by
  unfold CycleEngine.entry at h
  split at h
  · next i hi => exact ⟨i, hi, h⟩
  · cases h

/-- The end of a COOL phase at an update, or nothing. -/
theorem EndKeeps.coolTempEnd (p : Pocket) (s : State) : EndKeeps p s (s.coolTempEnd p) ∧ ((s.coolTempEnd p).pocket p).sb = (s.pocket p).sb := by
  have hspares : Spared (otherPocket p) s (s.coolTempEnd p) := by
    have h := Spared.coolTempEnd (otherPocket p) s
    rwa [otherPocket_otherPocket] at h
  have hsame : s.coolTempEnd p = s ∨ ∃ i e, PhaseEnded i e .coolTemp p s (s.coolTempEnd p) ∧ s.coolTempEnd p = s.endPhase p .coolTemp := by
    unfold State.coolTempEnd
    split
    · next e he =>
      obtain ⟨i, hi, hentry⟩ := CycleEngine.entry_eq_some he
      split
      · exact .inr ⟨i, e, State.endPhase_ended _ hi hentry, rfl⟩
      · exact .inl rfl
    · exact .inl rfl
  rcases hsame with h | ⟨i, e, hended, h⟩
  · rw [h]
    exact ⟨.refl p s, rfl⟩
  · obtain ⟨hkept, -, hsb, hfl, -, -⟩ := hended.kept
    refine ⟨⟨hspares, hkept, ?_, hfl⟩, hsb⟩
    rw [h, State.endPhase_checks]

theorem State.endRunOn_checks (s : State) (p : Pocket) : ((s.endRunOn p).pocket p).hsc.supervision = (s.pocket p).hsc.supervision := by
  obtain ⟨-, c, sb, hp, -⟩ := s.endRunOn_kept p
  rw [hp]
  exact HeatStages.supervision_withEnergized ..

/-- The end of a run-on at an update, or nothing. -/
theorem EndKeeps.runOnExhaustEnd (p : Pocket) (s : State) : EndKeeps p s (s.runOnExhaustEnd p) := by
  have hspares : Spared (otherPocket p) s (s.runOnExhaustEnd p) := by
    have h := Spared.runOnExhaustEnd (otherPocket p) s
    rwa [otherPocket_otherPocket] at h
  unfold State.runOnExhaustEnd at hspares ⊢
  split
  · next h =>
    rw [if_pos h] at hspares
    refine ⟨hspares, ?_, HeatStages.checks_of_supervision (s.endRunOn_checks p), ?_⟩
    all_goals
      obtain ⟨-, c, sb, hp, -⟩ := s.endRunOn_kept p
      rw [hp]
    · exact ⟨rfl, rfl, rfl, rfl, rfl, rfl, rfl, rfl⟩
    · rfl
  · exact .refl p s

end

end Sys2Proof.Machine

/-! PROOF. The end of a supply update for a hold that waited (R106), and what stands over the whole update: what no block changes of a
pocket, and the sample buffers but at a wind-down's end (R185). -/

namespace Sys2Proof.Machine

/-! ## The end of an update for a hold that waited (R106) -/

theorem updateEndAsksForTheRelease : UpdateEndAsksForTheRelease := by
  intro p s b u hb
  refine ⟨rfl, fun hu => ?_⟩
  have hend : u = if b.holdRanOut p then b.releaseTop p else b := by
    rw [hu, hb]
    rfl
  have hran : b.holdRanOut p = true ↔ HoldRanOut s.now (s.holdTicks p) (s.pocket p).hsc := by
    have hticks : b.holdTicks p = s.holdTicks p := by
      rw [hb]
      cases p <;> rfl
    have hnow : b.now = s.now := by rw [hb, State.now_onHsc]
    have hhsc : (b.pocket p).hsc = { (s.pocket p).hsc with askedStage := none } := by rw [hb, State.onHsc_pocket]
    rw [State.holdRanOut_iff, hticks, hnow, hhsc]
    rfl
  have hgranted : b.granted p = s.granted p := by rw [hb, State.granted_onHsc]
  refine ⟨fun hno => ?_, fun h hg => ?_, fun h hg => ?_⟩
  · rw [hend, if_neg (mt hran.mp hno)]
  · rw [hend, if_pos (hran.mpr h), State.releaseTop, if_pos (hgranted.trans hg)]
  · rw [hend, if_pos (hran.mpr h)]
    exact State.releaseTop_released (hgranted ▸ hg)

/-! ## What stands over the whole update -/

theorem SameButLists.eq {x y : Allocator} (h : SameButLists x y) : y = { x with grants := y.grants, requests := y.requests } := by
  unfold SameButLists at h
  rw [← h]

section
variable {p : Pocket} {s t u : State}

/-- The run-on has begun at `now`, or it, the wind-down and the drum are as they were. -/
def RunOnStands (now : Ticks) (x y : PocketState) : Prop :=
  y.ce.runOnSince = some now
  ∨ (y.ce.runOnSince = x.ce.runOnSince ∧ y.ce.windingDown = x.ce.windingDown ∧ y.dmc.state = x.dmc.state)

theorem RunOnStands.trans {now : Ticks} {x y z : PocketState} (h : RunOnStands now x y) (k : RunOnStands now y z) :
    RunOnStands now x z := by
  rcases k with kfresh | ⟨k1, k2, k3⟩
  · exact .inl kfresh
  · rcases h with hfresh | ⟨h1, h2, h3⟩
    · exact .inl (k1.trans hfresh)
    · exact .inr ⟨k1.trans h1, k2.trans h2, k3.trans h3⟩

theorem Spared.runOnStands (h : Spared p s t) (now : Ticks) : RunOnStands now (s.pocket p) (t.pocket p) := by
  obtain ⟨k, hk, -⟩ := h.pocket
  rw [hk]
  exact .inr ⟨rfl, rfl, rfl⟩

theorem Supervised.runOnStands (h : Supervised p s t) : RunOnStands s.now (s.pocket p) (t.pocket p) := by
  rcases h.taken with hcalm | htrip
  · exact .inr ⟨by rw [hcalm.ce], by rw [hcalm.ce], by rw [hcalm.dmc]⟩
  · have hresponse := htrip.response
    cases hst : (s.pocket p).ce.state.stoppable
    · obtain ⟨hdmc, -⟩ := htrip.stands hst
      refine .inr ?_
      unfold TripResponse at hresponse
      cases hstate : (s.pocket p).ce.state <;> rw [hstate] at hresponse hst
      case proving | running | paused => cases hst
      all_goals exact ⟨by rw [hresponse], by rw [hresponse], by rw [hdmc]⟩
    · refine .inl ?_
      unfold TripResponse at hresponse
      cases hstate : (s.pocket p).ce.state <;> rw [hstate] at hresponse hst
      case idle | windingDown | faulted => cases hst
      all_goals rw [hresponse]

theorem State.coolTempEnd_runOnStands (s : State) (p : Pocket) : RunOnStands s.now (s.pocket p) ((s.coolTempEnd p).pocket p) := by
  unfold State.coolTempEnd
  split
  · next e he =>
    obtain ⟨i, hi, hentry⟩ := CycleEngine.entry_eq_some he
    split
    · obtain ⟨-, hnext, hlast⟩ := State.endPhase_ended .coolTemp hi hentry
      by_cases hlt : i < (s.pocket p).ce.program.length
      · obtain ⟨hce, -, -, hdmc, -⟩ := hnext hlt
        exact .inr ⟨by rw [hce]; rfl, by rw [hce]; rfl, by rw [hdmc]⟩
      · obtain ⟨hbegun, -⟩ := hlast (by omega)
        exact .inl (by rw [hbegun])
    · exact .inr ⟨rfl, rfl, rfl⟩
  · exact .inr ⟨rfl, rfl, rfl⟩

/-- A run-on that begins now does not end by the exhaust (R21). -/
theorem State.runOnCooled_fresh (h : (s.pocket p).ce.runOnSince = some s.now) : s.runOnCooled p = false := by
  unfold State.runOnCooled
  rw [h]
  have hsoon : ¬ s.now + seconds 30 ≤ s.now := Nat.not_le.mpr (Nat.lt_add_of_pos_right (by decide))
  dsimp only
  rw [decide_eq_false hsoon]
  rfl

theorem State.runOnCooled_idle (h : (s.pocket p).ce.runOnSince = none) : s.runOnCooled p = false := by
  unfold State.runOnCooled
  rw [h]
  rfl

theorem State.runOnExhaustEnd_off (h : s.runOnCooled p = false) : s.runOnExhaustEnd p = s := by
  unfold State.runOnExhaustEnd
  rw [if_neg (by rw [h]; exact Bool.false_ne_true)]

/-- The buffers stand over an end of a run-on that ends no wind-down. -/
theorem State.endRunOn_sb (h : (s.pocket p).ce.windingDown = false ∨ (s.pocket p).dmc.state ≠ .stopped) :
    ((s.endRunOn p).pocket p).sb = (s.pocket p).sb := by
  have hover : ¬ ((s.pocket p).runOnEnded s.now).windDownOver := by
    rintro ⟨hwinding, -, hstopped⟩
    rcases h with h | h
    · exact Bool.false_ne_true (h.symm.trans hwinding)
    · exact h hstopped
  rw [State.endRunOn_eq, State.finishWindDown_still (by rw [State.pocket_setPocket]; exact hover), State.pocket_setPocket]
  rfl

end

/-! ## A pocket through the blocks of an update -/

/-- After its checks a pocket keeps its fault list and its supervision items but the overcurrent count to the end of the update. -/
theorem State.after_checks {p : Pocket} {b c e u : State} (hc : Spared p b c) (he : Spared p (c.coolTempEnd p) e)
    (hu : Spared p (e.runOnExhaustEnd p) u) :
    (u.pocket p).hsc.checks = (b.pocket p).hsc.checks ∧ (u.pocket p).fl = (b.pocket p).fl ∧ Framed b u
      ∧ KeptByBlocks (b.pocket p) (u.pocket p) := by
  obtain ⟨hcool, -⟩ := EndKeeps.coolTempEnd p c
  have hend := EndKeeps.runOnExhaustEnd p e
  have hspared {x y : State} (h : Spared p x y) : (y.pocket p).hsc.checks = (x.pocket p).hsc.checks ∧ (y.pocket p).fl = (x.pocket p).fl := by
    obtain ⟨k, hk, hsup⟩ := h.pocket
    rw [hk]
    exact ⟨HeatStages.checks_of_supervision hsup, rfl⟩
  refine ⟨?_, ?_, ?_, ?_⟩
  · rw [(hspared hu).1, hend.checks, (hspared he).1, hcool.checks, (hspared hc).1]
  · rw [(hspared hu).2, hend.fl, (hspared he).2, hcool.fl, (hspared hc).2]
  · exact ((hc.toFramed.trans hcool.spares.toFramed).trans he.toFramed).trans (hend.spares.toFramed.trans hu.toFramed)
  · exact ((hc.kept.trans hcool.kept).trans he.kept).trans (hend.kept.trans hu.kept)

/-- A pocket through the blocks of an update: what no block changes, the lists' frame, and the supervision items its own checks left. -/
theorem State.supplyUpdate_kept (p : Pocket) (r : Readings) (s : State) :
    ∃ a b : State, Spared p (s.takenUpdate r) a ∧ b = a.heaterChecks p (exhaustOf r p) (inletOf r p) (s.updateInputs r p)
      ∧ Framed (s.takenUpdate r) (s.supplyUpdate r)
      ∧ KeptByBlocks ((s.takenUpdate r).pocket p) ((s.supplyUpdate r).pocket p)
      ∧ ((s.supplyUpdate r).pocket p).hsc.checks = (b.pocket p).hsc.checks := by
  obtain ⟨a, c, e, ha, hc, he, hu⟩ := s.supplyUpdate_blocks p r
  have hb := Supervised.heaterChecks p a (exhaustOf r p) (inletOf r p) (s.updateInputs r p)
  obtain ⟨hchecks, -, hframed, hkept⟩ := State.after_checks hc he hu
  exact ⟨a, _, ha, rfl, (ha.toFramed.trans hb.spares.toFramed).trans hframed, (ha.kept.trans hb.kept).trans hkept, hchecks⟩

/-- The sample buffers stand over an update but where a wind-down ends in it (R185). -/
theorem State.supplyUpdate_sb {p : Pocket} {s : State} (r : Readings)
    (h : (s.pocket p).ce.windingDown = false ∨ (s.pocket p).ce.runOnSince = none ∨ (s.pocket p).dmc.state ≠ .stopped) :
    ((s.supplyUpdate r).pocket p).sb = (s.pocket p).sb := by
  obtain ⟨a, c, e, ha, hc, he, hu⟩ := s.supplyUpdate_blocks p r
  have hb := Supervised.heaterChecks p a (exhaustOf r p) (inletOf r p) (s.updateInputs r p)
  obtain ⟨hcool, hcoolsb⟩ := EndKeeps.coolTempEnd p c
  have hspared {x y : State} (h : Spared p x y) : (y.pocket p).sb = (x.pocket p).sb := by
    obtain ⟨k, hk, -⟩ := h.pocket
    rw [hk]
  have hsb : (e.pocket p).sb = (s.pocket p).sb := by
    obtain ⟨-, hchecked, -⟩ := hb.records
    rw [hspared he, hcoolsb, hspared hc, hchecked, hspared ha, State.takenUpdate_pocket]
  have hstands : RunOnStands e.now (s.pocket p) (e.pocket p) := by
    have hnow : a.now = e.now := by
      rw [he.now, hcool.spares.now, hc.now, hb.spares.now]
    have hnowc : c.now = e.now := by
      rw [he.now, hcool.spares.now]
    have htaken : RunOnStands e.now (s.pocket p) ((s.takenUpdate r).pocket p) := by
      rw [State.takenUpdate_pocket]
      exact .inr ⟨rfl, rfl, rfl⟩
    have hchecks := hb.runOnStands
    have hcools := c.coolTempEnd_runOnStands p
    rw [hnow] at hchecks
    rw [hnowc] at hcools
    exact ((htaken.trans (ha.runOnStands _)).trans hchecks).trans (((hc.runOnStands _).trans hcools).trans (he.runOnStands _))
  rw [hspared hu]
  by_cases hcooled : e.runOnCooled p = true
  · have hends : e.runOnExhaustEnd p = e.endRunOn p := if_pos hcooled
    rcases hstands with hfresh | ⟨hrun, hwind, hdrum⟩
    · rw [State.runOnCooled_fresh hfresh] at hcooled
      cases hcooled
    · rw [hends, State.endRunOn_sb, hsb]
      rw [hwind, hdrum]
      rcases h with h | h | h
      · exact .inl h
      · rw [State.runOnCooled_idle (hrun.trans h)] at hcooled
        cases hcooled
      · exact .inr h
  · rw [State.runOnExhaustEnd_off (by simpa using hcooled), hsb]

theorem State.takenUpdate_expected {r : Readings} (hv : r.voltage ≤ 6000) (s : State) (p : Pocket) :
    (s.updateInputs r p).expected = if r.voltage = 0 ∨ r.voltage = 6000 then none
      else some (((List.range (s.pocket p).hsc.energized).map (fun k => s.rating p (k + 1))).sum * 1000000
        / (r.voltage * s.shared SharedItem.phaseFactor)) := by
  have hreading : voltageReading r.voltage = r.voltage := min_eq_left hv
  obtain ⟨-, -, -, -, -, hps, -⟩ := s.takenUpdate_shared r
  rw [State.updateInputs_eq, hreading]
  dsimp only
  unfold State.expectedCurrent State.ratingSum State.rating State.item State.shared
  rw [hps, State.takenUpdate_pocket]
  exact if_congr (isSenseFault_iff _) rfl rfl

end Sys2Proof.Machine

/-! PROOF. The heater checks of an update by the readings (R109 to R114), and what follows them in the update. -/

namespace Sys2Proof.Machine

/-! ## What the comparisons go by -/

section
variable {p : Pocket} {r : Readings} {s : State}

/-- The clock at an update. -/
def State.updateTime (s : State) : Ticks := max s.now s.sm.nextUpdate

theorem State.updateInputs_suspended : (s.updateInputs r p).suspended = true ↔ ¬ ChecksMade p r s s.updateTime := by
  obtain ⟨-, -, hnow, -, -, -, hsm, -⟩ := s.takenUpdate_shared r
  have hfault : isSenseFault (voltageReading r.voltage) = true ↔ r.voltage = 0 ∨ 6000 ≤ r.voltage := by
    rw [isSenseFault_iff]
    unfold voltageReading
    omega
  rw [State.updateInputs_eq]
  dsimp only
  unfold State.checksSuspended
  rw [hnow, hsm, State.takenUpdate_pocket, Bool.or_eq_true, Bool.or_eq_true, decide_eq_true_iff, bne_iff_ne, hfault]
  unfold ChecksMade State.updateTime
  have hsecond : seconds 1 = 10000 := rfl
  rw [hsecond, ← not_le, ← not_lt (a := r.voltage)]
  tauto

theorem State.updateInputs_expected (h : ChecksMade p r s s.updateTime) : (s.updateInputs r p).expected = some (expectedAt p r s) := by
  obtain ⟨hzero, hmax, -⟩ := h
  rw [State.takenUpdate_expected hmax.le]
  exact if_neg (by omega)

theorem State.updateInputs_energized : (s.updateInputs r p).energized = (s.pocket p).hsc.energized := by
  rw [State.updateInputs_eq]

theorem State.updateInputs_current : (s.updateInputs r p).current = currentOf r p := by
  rw [State.updateInputs_eq]

theorem State.updateInputs_over (h : ChecksMade p r s s.updateTime) :
    (s.updateInputs r p).overHolds (s.item p PocketItem.currentTolerance) = true ↔ OverAt p r s := by
  unfold CheckInputs.overHolds OverAt
  rw [State.updateInputs_expected h, State.updateInputs_energized, State.updateInputs_current]
  rw [Bool.and_eq_true, decide_eq_true_iff]
  exact and_congr_right fun _ => decide_eq_true_iff

theorem State.updateInputs_under (h : ChecksMade p r s s.updateTime) :
    (s.updateInputs r p).underHolds (s.item p PocketItem.currentTolerance) = true ↔ UnderAt p r s := by
  unfold CheckInputs.underHolds UnderAt
  rw [State.updateInputs_expected h, State.updateInputs_energized, State.updateInputs_current]
  rw [Bool.and_eq_true, decide_eq_true_iff]
  exact and_congr_right fun _ => decide_eq_true_iff

theorem State.updateInputs_stuck :
    (s.updateInputs r p).stuckHolds (s.item p PocketItem.offCurrentLimit) = true ↔ StuckAt p r s := by
  unfold CheckInputs.stuckHolds StuckAt
  rw [State.updateInputs_energized, State.updateInputs_current]
  simp

theorem le_nextTimer_iff {limit : Nat} (hpos : 0 < limit) (suspended holds : Bool) (timer : Nat) :
    limit ≤ nextTimer suspended holds limit timer ↔ suspended = false ∧ holds = true ∧ limit ≤ timer + 250 := by
  unfold nextTimer
  cases suspended <;> cases holds <;> simp <;> omega

/-! ## The checks taken at an update -/

/-- The heat stage controller after the comparisons of an update, from the state before it. -/
def State.comparedUpdate (r : Readings) (s : State) (p : Pocket) : HeatStages :=
  s.comparedHeat p (s.updateInputs r p)
    { (s.pocket p).hsc with exhaustArmed := inSenseRange (exhaustOf r p), inletArmed := inSenseRange (inletOf r p) }

/-- The overcurrent check is taken (R110, R111). -/
def OverTaken (p : Pocket) (r : Readings) (s : State) : Prop := s.overloadTime p ≤ (s.comparedUpdate r p).overTimer

/-- The stuck-on check is taken (R110, R113). -/
def StuckTaken (p : Pocket) (r : Readings) (s : State) : Prop :=
  s.overloadTime p ≤ (s.comparedUpdate r p).stuckTimer ∧ (s.comparedUpdate r p).stuckArmed = true

/-- The underload check is taken (R110, R114). -/
def UnderTaken (p : Pocket) (r : Readings) (s : State) : Prop :=
  s.underloadTime p ≤ (s.comparedUpdate r p).underTimer ∧ (s.comparedUpdate r p).underArmed = true

section
variable (hover : 0 < s.item p PocketItem.overloadTime)
include hover

theorem overTaken_iff : OverTaken p r s ↔ ChecksMade p r s s.updateTime ∧ OverAt p r s
    ∧ s.item p PocketItem.overloadTime ≤ (s.pocket p).hsc.overTimer + 250 := by
  have hmade : (s.updateInputs r p).suspended = false ↔ ChecksMade p r s s.updateTime := by
    rw [← Bool.not_eq_true, State.updateInputs_suspended, not_not]
  refine (le_nextTimer_iff hover _ _ _).trans ?_
  rw [hmade]
  refine and_congr_right fun h => ?_
  rw [State.updateInputs_over h]

theorem stuckTaken_iff : StuckTaken p r s ↔ ChecksMade p r s s.updateTime ∧ StuckAt p r s
    ∧ s.item p PocketItem.overloadTime ≤ (s.pocket p).hsc.stuckTimer + 250 ∧ (s.pocket p).hsc.stuckArmed = true := by
  have hmade : (s.updateInputs r p).suspended = false ↔ ChecksMade p r s s.updateTime := by
    rw [← Bool.not_eq_true, State.updateInputs_suspended, not_not]
  have htimer : s.overloadTime p ≤ (s.comparedUpdate r p).stuckTimer ↔ ChecksMade p r s s.updateTime ∧ StuckAt p r s
      ∧ s.item p PocketItem.overloadTime ≤ (s.pocket p).hsc.stuckTimer + 250 := by
    refine (le_nextTimer_iff hover _ _ _).trans ?_
    rw [hmade, State.updateInputs_stuck]
  have harmed (h : StuckAt p r s) : (s.comparedUpdate r p).stuckArmed = (s.pocket p).hsc.stuckArmed := by
    have hholds := State.updateInputs_stuck.mpr h
    show nextArmed _ _ _ = _
    unfold nextArmed
    rw [hholds]
    simp
  unfold StuckTaken
  rw [htimer]
  constructor
  · rintro ⟨⟨h1, h2, h3⟩, h4⟩
    exact ⟨h1, h2, h3, (harmed h2).symm.trans h4⟩
  · rintro ⟨h1, h2, h3, h4⟩
    exact ⟨⟨h1, h2, h3⟩, (harmed h2).trans h4⟩

end

theorem underTaken_iff (hunder : 0 < s.item p PocketItem.underloadTime) :
    UnderTaken p r s ↔ ChecksMade p r s s.updateTime ∧ UnderAt p r s
      ∧ s.item p PocketItem.underloadTime * 1000 ≤ (s.pocket p).hsc.underTimer + 250 ∧ (s.pocket p).hsc.underArmed = true := by
  have hmade : (s.updateInputs r p).suspended = false ↔ ChecksMade p r s s.updateTime := by
    rw [← Bool.not_eq_true, State.updateInputs_suspended, not_not]
  have htimer : s.underloadTime p ≤ (s.comparedUpdate r p).underTimer ↔ ChecksMade p r s s.updateTime ∧ UnderAt p r s
      ∧ s.item p PocketItem.underloadTime * 1000 ≤ (s.pocket p).hsc.underTimer + 250 := by
    refine (le_nextTimer_iff (show 0 < s.underloadTime p by unfold State.underloadTime; omega) _ _ _).trans ?_
    rw [hmade]
    refine and_congr_right fun h => ?_
    rw [State.updateInputs_under h]
    rfl
  have harmed (hm : ChecksMade p r s s.updateTime) (h : UnderAt p r s) :
      (s.comparedUpdate r p).underArmed = (s.pocket p).hsc.underArmed := by
    have hholds := (State.updateInputs_under hm).mpr h
    show nextArmed _ _ _ = _
    unfold nextArmed
    rw [hholds]
    simp
  unfold UnderTaken
  rw [htimer]
  constructor
  · rintro ⟨⟨h1, h2, h3⟩, h4⟩
    exact ⟨h1, h2, h3, (harmed h1 h2).symm.trans h4⟩
  · rintro ⟨h1, h2, h3, h4⟩
    exact ⟨⟨h1, h2, h3⟩, (harmed h1 h2).trans h4⟩

/-- With the currents quiet no check is taken. -/
theorem none_taken_of_quiet (h : QuietCurrent p r s) : ¬ OverTaken p r s ∧ ¬ StuckTaken p r s ∧ ¬ UnderTaken p r s := by
  obtain ⟨hE, hcurrent, hover, hunder⟩ := h
  rw [overTaken_iff hover, stuckTaken_iff hover, underTaken_iff hunder]
  unfold OverAt StuckAt UnderAt
  omega

/-! ## The heater checks of the pocket at an update -/

/-- The pocket after its samples are checked and its currents compared. -/
def State.comparedState (a : State) (p : Pocket) (r : Readings) (c : CheckInputs) : State :=
  (a.samplesChecked p (exhaustOf r p) (inletOf r p)).compareCurrents p c

variable {a : State}

theorem State.comparedState_supervision (ha : Spared p (s.takenUpdate r) a) :
    ((a.comparedState p r (s.updateInputs r p)).pocket p).hsc.supervision = (s.comparedUpdate r p).supervision := by
  obtain ⟨k, hk, hsup⟩ := ha.pocket
  obtain ⟨-, -, -, -, -, hps, -⟩ := s.takenUpdate_shared r
  rw [State.takenUpdate_pocket] at hk hsup
  have hsamples := a.samplesChecked_supervision p (exhaustOf r p) (inletOf r p)
  have hitem (i : Nat) : (a.samplesChecked p (exhaustOf r p) (inletOf r p)).item p i = s.item p i := by
    rw [(Supervised.samplesChecked a p _ _).spares.item, ha.item]
    unfold State.item
    rw [hps]
  rw [hk] at hsamples
  have hset (h h' : HeatStages) (e : h.supervision = h'.supervision) (b b' : Bool) :
      { h with exhaustArmed := b, inletArmed := b' }.supervision = { h' with exhaustArmed := b, inletArmed := b' }.supervision :=
    congrArg (fun h : HeatStages => { h with exhaustArmed := b, inletArmed := b' }) e
  have hcompared (h h' : HeatStages) (e : h.supervision = h'.supervision) (c : CheckInputs) (i j m n : Nat) :
      (h.compared c i j m n).supervision = (h'.compared c i j m n).supervision :=
    congrArg (fun h : HeatStages => h.compared c i j m n) e
  unfold State.comparedState State.comparedUpdate
  rw [State.compareCurrents_eq, State.onHsc_pocket]
  unfold State.comparedHeat State.overloadTime State.underloadTime
  simp only [hitem]
  exact hcompared _ _ (hsamples.trans (hset _ _ hsup _ _)) _ _ _ _ _

/-- The checks of the pocket at an update: the overcurrent check before the stuck-on check before the underload check, at most one. -/
theorem State.heaterChecks_taken (ha : Spared p (s.takenUpdate r) a) {b x : State}
    (hb : b = a.heaterChecks p (exhaustOf r p) (inletOf r p) (s.updateInputs r p)) (hx : x = a.comparedState p r (s.updateInputs r p)) :
    (OverTaken p r s → b = x.takeOvercurrent p (s.pocket p).hsc.energized)
    ∧ (¬ OverTaken p r s → StuckTaken p r s → b = x.takeStuckOn p)
    ∧ (¬ OverTaken p r s → ¬ StuckTaken p r s → UnderTaken p r s → b = x.takeUnderload p (s.pocket p).hsc.energized)
    ∧ (¬ OverTaken p r s → ¬ StuckTaken p r s → ¬ UnderTaken p r s → b = x) := by
  have hsup := State.comparedState_supervision ha
  obtain ⟨y, hy⟩ : ∃ y, y = a.samplesChecked p (exhaustOf r p) (inletOf r p) := ⟨_, rfl⟩
  obtain ⟨k, hk⟩ : ∃ k, k = y.comparedHeat p (s.updateInputs r p) (y.pocket p).hsc := ⟨_, rfl⟩
  have hxy : x = y.compareCurrents p (s.updateInputs r p) := by rw [hx, hy]; rfl
  have hby : b = y.currentChecks p (s.updateInputs r p) := by rw [hb, hy]; rfl
  rw [← hx, hxy, State.compareCurrents_eq, State.onHsc_pocket, ← hk] at hsup
  obtain ⟨-, -, -, -, -, hps, -⟩ := s.takenUpdate_shared r
  have hitem (i : Nat) : y.item p i = s.item p i := by
    rw [hy, (Supervised.samplesChecked a p _ _).spares.item, ha.item]
    unfold State.item
    rw [hps]
  have hload : y.overloadTime p = s.overloadTime p := hitem _
  have hunderload : y.underloadTime p = s.underloadTime p := congrArg (· * 1000) (hitem _)
  have hkeep {α : Type} (f : HeatStages → α) : f k.supervision = f (s.comparedUpdate r p).supervision :=
    HeatStages.same_of_supervision hsup f
  have htimer : k.overTimer = (s.comparedUpdate r p).overTimer := hkeep (·.overTimer)
  have hstuckTimer : k.stuckTimer = (s.comparedUpdate r p).stuckTimer := hkeep (·.stuckTimer)
  have hstuckArmed : k.stuckArmed = (s.comparedUpdate r p).stuckArmed := hkeep (·.stuckArmed)
  have hunderTimer : k.underTimer = (s.comparedUpdate r p).underTimer := hkeep (·.underTimer)
  have hunderArmed : k.underArmed = (s.comparedUpdate r p).underArmed := hkeep (·.underArmed)
  have hover : OverTaken p r s ↔ y.overloadTime p ≤ k.overTimer := by rw [OverTaken, hload, htimer]
  have hstuck : StuckTaken p r s ↔ y.overloadTime p ≤ k.stuckTimer ∧ k.stuckArmed = true := by
    rw [StuckTaken, hload, hstuckTimer, hstuckArmed]
  have hunder : UnderTaken p r s ↔ y.underloadTime p ≤ k.underTimer ∧ k.underArmed = true := by
    rw [UnderTaken, hunderload, hunderTimer, hunderArmed]
  have he : (s.updateInputs r p).energized = (s.pocket p).hsc.energized := State.updateInputs_energized
  rw [hover, hstuck, hunder, hby, hxy, ← he]
  exact ⟨fun h => State.currentChecks_over hk h, fun h1 h2 => State.currentChecks_stuck hk h1 h2.1 h2.2,
    fun h1 h2 h3 => State.currentChecks_under hk h1 h2 h3.1 h3.2, fun h1 h2 h3 => State.currentChecks_none hk h1 h2 h3⟩

theorem Supervised.comparedState (a : State) (p : Pocket) (r : Readings) (c : CheckInputs) : Supervised p a (a.comparedState p r c) := by
  unfold State.comparedState
  rw [State.compareCurrents_eq]
  exact (Supervised.samplesChecked a p _ _).trans (.onHsc le_rfl)

end

end Sys2Proof.Machine

/-! PROOF. The stuck-on check (R113), the end of a COOL phase at an update (R12), and the run-on at an update (R21). -/

namespace Sys2Proof.Machine

/-! ## What follows the checks in an update -/

section
variable {p : Pocket} {s t b c e u : State}

theorem Spared.ce (h : Spared p s t) : (t.pocket p).ce = (s.pocket p).ce := by
  obtain ⟨k, hk, -⟩ := h.pocket
  rw [hk]

theorem Spared.drum (h : Spared p s t) : (t.pocket p).dmc = (s.pocket p).dmc ∧ (t.pocket p).rcu = (s.pocket p).rcu := by
  obtain ⟨k, hk, -⟩ := h.pocket
  rw [hk]
  exact ⟨rfl, rfl⟩

theorem Spared.me (h : Spared p s t) : (t.pocket p).me = (s.pocket p).me := by
  obtain ⟨k, hk, -⟩ := h.pocket
  rw [hk]

theorem Spared.records (h : Spared p s t) : SameRecords (s.pocket p) (t.pocket p) := by
  obtain ⟨k, hk, -⟩ := h.pocket
  rw [hk]
  exact ⟨rfl, rfl, rfl, rfl, rfl⟩

theorem Spared.checks (h : Spared p s t) : (t.pocket p).hsc.supervision = (s.pocket p).hsc.supervision := by
  obtain ⟨k, hk, hsup⟩ := h.pocket
  rw [hk]
  exact hsup

theorem Spared.exhaustReading (h : Spared p s t) : t.exhaustReading p = s.exhaustReading p := by
  unfold State.exhaustReading
  rw [h.me, h.now]

theorem Spared.runOnCooled (h : Spared p s t) : t.runOnCooled p = s.runOnCooled p := by
  obtain ⟨-, -, hfl, -, -⟩ := h.records
  unfold State.runOnCooled
  rw [h.exhaustReading, h.ce, h.now, hfl, h.item]

theorem State.coolTempEnd_off (h : (s.pocket p).ce.state ≠ .running) : s.coolTempEnd p = s := by
  unfold State.coolTempEnd
  split
  · exact if_neg (by simp [h])
  · rfl

/-- Outside RUNNING nothing ends a phase at an update. -/
theorem Spared.past_phase (hc : Spared p b c) (he : Spared p (c.coolTempEnd p) e) (h : (b.pocket p).ce.state ≠ .running) : Spared p b e := by
  rw [State.coolTempEnd_off (by rw [hc.ce]; exact h)] at he
  exact hc.trans he

/-- With no run-on to end the rest of an update leaves the pocket. -/
theorem Spared.past_runOn (he : Spared p b e) (hu : Spared p (e.runOnExhaustEnd p) u) (h : b.runOnCooled p = false) : Spared p b u := by
  rw [State.runOnExhaustEnd_off (he.runOnCooled.trans h)] at hu
  exact he.trans hu

theorem State.heatPermitted_off (h : (s.pocket p).ce.state ≠ .running) : s.heatPermitted p = false := by
  simp [State.heatPermitted, State.interlocks, State.heating, h]

theorem State.heatPermitted_unproven (h : (s.pocket p).ce.airflowProven = false) : s.heatPermitted p = false := by
  simp [State.heatPermitted, State.interlocks, h]

/-- The end of a run-on, if it comes, changes the state of a pocket that winds down alone. -/
theorem State.past_runOn_state (hst : (e.pocket p).ce.state ≠ .windingDown) (hu : Spared p (e.runOnExhaustEnd p) u) :
    (u.pocket p).ce.state = (e.pocket p).ce.state := by
  rw [hu.ce]
  unfold State.runOnExhaustEnd
  split
  · rw [State.endRunOn_eq]
    by_cases hover : ((e.pocket p).runOnEnded e.now).windDownOver
    · rw [State.finishWindDown_over (by rw [State.pocket_setPocket]; exact hover), State.pocket_post, State.pocket_postIf,
        State.pocket_setPocket, State.pocket_setPocket]
      exact if_neg hst
    · rw [State.finishWindDown_still (by rw [State.pocket_setPocket]; exact hover), State.pocket_setPocket]
      rfl
  · rfl

/-- The end of a run-on, if it comes: the drum stands, and no stage comes on. -/
theorem State.past_runOn_kept (he : e.heatPermitted p = false) (hu : Spared p (e.runOnExhaustEnd p) u) :
    (u.pocket p).dmc = (e.pocket p).dmc ∧ (u.pocket p).rcu = (e.pocket p).rcu
    ∧ ((e.pocket p).hsc.energized = 0 → (u.pocket p).hsc.energized = 0) := by
  obtain ⟨hdmc, hrcu⟩ := hu.drum
  cases hcooled : e.runOnCooled p
  · have hoff := State.runOnExhaustEnd_off hcooled
    rw [hoff] at hu hdmc hrcu
    exact ⟨hdmc, hrcu, hu.cold he⟩
  · have hends : e.runOnExhaustEnd p = e.endRunOn p := if_pos hcooled
    rw [hends] at hu hdmc hrcu
    obtain ⟨-, k, sb, hp, hk⟩ := e.endRunOn_kept p
    refine ⟨by rw [hdmc, hp]; rfl, by rw [hrcu, hp]; rfl, fun _ => hu.cold (State.heatPermitted_unproven ?_) ?_⟩
    · rw [hp]
      dsimp only
      rw [hk]
      rfl
    · rw [hp]
      exact HeatStages.withEnergized_energized ..

end

/-! ## The state before the readings and the state after them -/

section
variable {p : Pocket} {r : Readings} {s a : State} (ha : Spared p (s.takenUpdate r) a)
include ha

theorem Spared.taken_ce : (a.pocket p).ce = (s.pocket p).ce := by rw [ha.ce, State.takenUpdate_pocket]

theorem Spared.taken_drum : (a.pocket p).dmc = (s.pocket p).dmc ∧ (a.pocket p).rcu = (s.pocket p).rcu := by
  obtain ⟨hdmc, hrcu⟩ := ha.drum
  rw [hdmc, hrcu, State.takenUpdate_pocket]
  exact ⟨rfl, rfl⟩

theorem Spared.taken_now : a.now = s.updateTime := by
  obtain ⟨-, -, hnow, -⟩ := s.takenUpdate_shared r
  exact ha.now.trans hnow

theorem Spared.taken_item (q : Pocket) (i : Nat) : a.item q i = s.item q i := by
  obtain ⟨-, -, -, -, -, hps, -⟩ := s.takenUpdate_shared r
  rw [ha.item]
  unfold State.item
  rw [hps]

theorem Spared.taken_coastTicks : a.coastTicks p = s.coastTicks p := congrArg seconds (ha.taken_item p _)

theorem Spared.taken_lines : (a.pocket p).lines = (s.pocket p).lines := by
  rw [ha.records.1, State.takenUpdate_pocket]

theorem Spared.taken_fl : (a.pocket p).fl = (s.pocket p).fl := by
  rw [ha.records.2.2.1, State.takenUpdate_pocket]

theorem Spared.taken_supervision : (a.pocket p).hsc.supervision = (s.pocket p).hsc.supervision := by
  rw [ha.checks, State.takenUpdate_pocket]
  rfl

theorem Spared.taken_exhaustReading : a.exhaustReading p = exhaustOf r p := by
  rw [ha.exhaustReading]
  unfold State.exhaustReading
  rw [State.takenUpdate_pocket]

/-- A halt of the drum during an update, from the pocket before it. -/
theorem DrumHalted.of_taken {y : PocketState} (h : DrumHalted a.now (a.coastTicks p) (a.pocket p) y) :
    DrumHalted s.updateTime (s.coastTicks p) (s.pocket p) y := by
  obtain ⟨hdmc, hrcu⟩ := ha.taken_drum
  unfold DrumHalted at h ⊢
  rwa [ha.taken_now, ha.taken_coastTicks, hdmc, hrcu] at h

end

theorem DrumHalted.congr {now coast : Ticks} {x y z : PocketState} (h : DrumHalted now coast x y) (hdmc : z.dmc = y.dmc)
    (hrcu : z.rcu = y.rcu) : DrumHalted now coast x z := by
  unfold DrumHalted at h ⊢
  rwa [← hdmc, ← hrcu] at h

/-! ## The stuck-on check (O51) -/

/-- Settles O51: of the current checks the stuck-on check is taken, and what follows it in the update keeps the trip. -/
theorem stuckOnOpensSafe : Obligations.StuckOnOpensSafe := by
  intro p r s hm hv hv' hcondition hE hsettled hcurrent htimer hload harmed
  obtain ⟨a, c, e, ha, hc, he, hu⟩ := s.supplyUpdate_blocks p r
  obtain ⟨b, hb⟩ : ∃ b, b = a.heaterChecks p (exhaustOf r p) (inletOf r p) (s.updateInputs r p) := ⟨_, rfl⟩
  obtain ⟨x, hx⟩ : ∃ x, x = a.comparedState p r (s.updateInputs r p) := ⟨_, rfl⟩
  have hmade : ChecksMade p r s s.updateTime := ⟨hv, hv', hcondition, hsettled⟩
  have hstuck : StuckTaken p r s := by
    rw [stuckTaken_iff hload]
    refine ⟨hmade, ⟨hE, ?_⟩, htimer, harmed⟩
    cases p <;> exact hcurrent
  have hnoover : ¬ OverTaken p r s := by
    rw [overTaken_iff hload]
    unfold OverAt
    omega
  have htaken : b = (x.onHsc p (fun h => { h with stuckArmed := false })).report p .heaterStuckOn none := by
    rw [(State.heaterChecks_taken ha hb hx).2.1 hnoover hstuck, State.takeStuckOn_eq]
  have hsupervised : Supervised p a b := hb ▸ Supervised.heaterChecks p a _ _ _
  obtain ⟨⟨hresponse, -⟩, -, -, -, hopens⟩ :=
    (x.onHsc p (fun h => { h with stuckArmed := false })).report_trip p .heaterStuckOn none rfl
  rw [← htaken] at hresponse hopens
  obtain ⟨hsafe, hcold, hholds⟩ := hopens rfl
  have hfaulted : (b.pocket p).ce.state = .faulted := hresponse.faulted
  have hnotRunning : (b.pocket p).ce.state ≠ .running := by rw [hfaulted]; decide
  rw [← hb] at hc
  have hbe := hc.past_phase he hnotRunning
  obtain ⟨hdmc, hrcu, hEu⟩ := State.past_runOn_kept
    (hbe.heatPermitted.trans (State.heatPermitted_off hnotRunning)) hu
  obtain ⟨hdmce, hrcue⟩ := hbe.drum
  obtain ⟨hchecks, hfl, -⟩ := State.after_checks hc he hu
  refine ⟨s.supplyUpdate r, exec_supplyUpdate hm r, ?_, ?_, ?_, ?_, fun hst => ?_⟩
  · have hsame : ((s.supplyUpdate r).pocket p).hsc.safe = (b.pocket p).hsc.safe := HeatStages.same_of_checks hchecks (·.safe)
    exact hsame.trans hsafe
  · rw [hfl]
    exact hholds
  · rw [State.past_runOn_state (by rw [hbe.ce, hfaulted]; decide) hu, hbe.ce, hfaulted]
  · exact hEu (hbe.cold (State.heatPermitted_off hnotRunning) hcold)
  · have htrip : TripTaken p a b := by
      refine hsupervised.taken.resolve_left fun hcalm => ?_
      rw [← ha.taken_ce, ← hcalm.ce, hfaulted] at hst
      cases hst
    obtain ⟨-, hdrum, -⟩ := htrip.stops (by rw [ha.taken_ce]; exact hst)
    exact (hdrum.of_taken ha).congr (hdmc.trans hdmce) (hrcu.trans hrcue)

/-! ## An update at which no check of the pocket trips -/

theorem Calm.onHsc (p : Pocket) (s : State) (f : HeatStages → HeatStages) : Calm p s (s.onHsc p f) := by
  cases p <;> exact ⟨rfl, rfl, rfl, rfl, rfl⟩

theorem Calm.checkInlet (p : Pocket) (s : State) (t : Int) : Calm p s (s.checkInlet p t) := by
  unfold State.checkInlet
  split
  · exact .onHsc p s _
  · split
    · exact (Calm.onHsc p s _).trans (.report p _ rfl _)
    · exact .refl p s

/-- An exhaust sample in range, or one out of range again, trips nothing (R116). -/
theorem Calm.checkExhaust {p : Pocket} {s : State} {t : Int} (h : inSenseRange t = true ∨ (s.pocket p).hsc.exhaustArmed = false) :
    Calm p s (s.checkExhaust p t) := by
  unfold State.checkExhaust
  rcases h with h | h
  · rw [if_pos h]
    exact .onHsc p s _
  · split
    · exact .onHsc p s _
    · rw [if_neg (by rw [h]; exact Bool.false_ne_true)]
      exact .refl p s

section
variable {p : Pocket} {r : Readings} {s a : State} (ha : Spared p (s.takenUpdate r) a)
  (hexhaust : inSenseRange (exhaustOf r p) = true ∨ (s.pocket p).hsc.exhaustArmed = false)
include ha hexhaust

theorem Calm.compared {x : State} (hx : x = a.comparedState p r (s.updateInputs r p)) : Calm p a x := by
  have hsame : (a.pocket p).hsc.exhaustArmed = (s.pocket p).hsc.exhaustArmed :=
    HeatStages.same_of_supervision ha.taken_supervision (·.exhaustArmed)
  rw [hx, State.comparedState, State.compareCurrents_eq]
  exact ((Calm.checkExhaust (by rwa [hsame])).trans (.checkInlet p _ _)).trans (.onHsc p _ _)

theorem Calm.quiet (hquiet : QuietCurrent p r s) :
    Calm p a (a.heaterChecks p (exhaustOf r p) (inletOf r p) (s.updateInputs r p)) := by
  obtain ⟨hover, hstuck, hunder⟩ := none_taken_of_quiet hquiet
  rw [(State.heaterChecks_taken ha rfl rfl).2.2.2 hover hstuck hunder]
  exact .compared ha hexhaust rfl

end

/-! ## A COOL phase at an update (O24) -/

theorem coolTempEndsAtAnUpdate : CoolTempEndsAtAnUpdate := by
  intro p r s b₀ i entry hm hst hi _ hentry hkind hrun hlo hhi hquiet hb₀
  obtain ⟨a, c, e, ha, hc, he, hu⟩ := s.supplyUpdate_blocks p r
  have hin : inSenseRange (exhaustOf r p) = true := (inSenseRange_iff _).mpr ⟨hlo, hhi⟩
  have hcalm := Calm.quiet ha (.inl hin) hquiet
  have hsupervised := Supervised.heaterChecks p a (exhaustOf r p) (inletOf r p) (s.updateInputs r p)
  obtain ⟨b, hb⟩ : ∃ b, b = a.heaterChecks p (exhaustOf r p) (inletOf r p) (s.updateInputs r p) := ⟨_, rfl⟩
  rw [← hb] at hc hcalm hsupervised
  have hce : (c.pocket p).ce = (s.pocket p).ce := by rw [hc.ce, hcalm.ce, ha.taken_ce]
  have hnow : c.now = b₀.now := by
    rw [hc.now, hsupervised.spares.now, ha.taken_now, hb₀]
    rfl
  have hpb : b₀.pocket p = s.pocket p := by rw [hb₀, State.pocket_reach]
  have hticks : c.phaseTicks p = b₀.phaseTicks p := State.phaseTicks_congr hnow (by rw [hce, hpb])
  have hreading : c.exhaustReading p = exhaustOf r p := by
    rw [hc.exhaustReading]
    have hsame : b.exhaustReading p = a.exhaustReading p := by
      unfold State.exhaustReading
      rw [hcalm.me, hsupervised.spares.now]
    rw [hsame, ha.taken_exhaustReading]
  have hwhen : c.coolTempEnd p
      = if 600000 ≤ b₀.phaseTicks p ∧ exhaustOf r p ≤ (entry.temperature : Int) * 10 then c.endPhase p .coolTemp else c := by
    have hentryc : c.entry p = some entry := by
      unfold State.entry
      rw [hce]
      exact CycleEngine.entry_eq hi hentry
    have hminute : 60 ≤ c.phaseElapsed p ↔ 600000 ≤ b₀.phaseTicks p := by
      unfold State.phaseElapsed
      rw [hticks]
      exact Nat.le_div_iff_mul_le (by decide)
    unfold State.coolTempEnd
    rw [hentryc]
    dsimp only
    refine if_congr ?_ rfl rfl
    rw [hce, hst, hkind]
    unfold State.cooled
    rw [hreading]
    simp [hminute]
  have hidle (t : State) (h : (t.pocket p).ce.runOnSince = none) : t.runOnCooled p = false := State.runOnCooled_idle h
  refine ⟨s.supplyUpdate r, exec_supplyUpdate hm r, ?_, fun hno => ?_, fun hlong hcool => ?_⟩
  · rw [hu.now, (EndKeeps.runOnExhaustEnd p e).spares.now, he.now, (EndKeeps.coolTempEnd p c).1.spares.now, hnow]
  · have hnot : ¬ (600000 ≤ b₀.phaseTicks p ∧ exhaustOf r p ≤ (entry.temperature : Int) * 10) := by
      rintro ⟨hlong, hcool⟩
      exact hno.elim (not_lt.mpr hlong) (not_lt.mpr hcool)
    rw [hwhen, if_neg hnot] at he
    have hcu := he.past_runOn hu (hidle c (by rw [hce]; exact hrun))
    rw [hcu.ce, hce]
  · rw [hwhen, if_pos ⟨hlong, hcool⟩] at he
    obtain ⟨hgain, hnext, hlast⟩ := State.endPhase_ended (b := c) .coolTemp (by rw [hce]; exact hi) (by rw [hce]; exact hentry)
    rw [hce] at hnext hlast
    obtain ⟨d, hd⟩ : ∃ d, d = c.endPhase p .coolTemp := ⟨_, rfl⟩
    rw [← hd] at hgain hnext hlast he
    have hnowd : d.now = c.now := by
      have h := Spared.endPhase (otherPocket p) c .coolTemp
      rw [otherPocket_otherPocket, ← hd] at h
      exact h.now
    have hstays : d.runOnCooled p = false := by
      by_cases hlt : i < (s.pocket p).ce.program.length
      · obtain ⟨hce', -⟩ := hnext hlt
        exact hidle d (by rw [hce']; exact hrun)
      · obtain ⟨hbegun, -⟩ := hlast (by omega)
        exact State.runOnCooled_fresh (by rw [hbegun, hnowd])
    have hdu := he.past_runOn hu hstays
    refine ⟨?_, fun hlt => ?_, fun hge => ?_⟩
    · have hsc : ∀ q, (c.port q).mask = (s.port q).mask ∧ (s.port q).latch &&& (c.port q).latch = (s.port q).latch := fun q => by
        have hframed := (ha.toFramed.trans hsupervised.spares.toFramed).trans hc.toFramed
        have hmask : (c.port q).mask = ((s.takenUpdate r).port q).mask := congrArg PortState.mask (hframed.ports q) ▸ rfl
        have hlatch := hframed.latches q
        rw [State.takenUpdate_port] at hmask hlatch
        exact ⟨hmask, hlatch⟩
      exact (hgain.of_later (fun q => (hsc q).1) fun q => (hsc q).2).keep hdu.latches
    · obtain ⟨hce', -⟩ := hnext hlt
      have htotal : c.totalRunning p = b₀.totalRunning p := by
        unfold State.totalRunning State.phaseElapsed
        rw [hticks, hce, hpb]
      rw [hdu.ce, hce', htotal, hnow]
    · obtain ⟨hbegun, -⟩ := hlast hge
      have hlines : (c.pocket p).lines = (s.pocket p).lines := by
        rw [hc.records.1, hsupervised.records.1, ha.taken_lines]
      unfold WindDownBegun at hbegun ⊢
      rwa [← hdu.ce, hnow, hticks, hlines] at hbegun

/-- Settles O24. -/
theorem phasesEndAtTimeDryOrCool : Obligations.PhasesEndAtTimeDryOrCool :=
  ⟨phasesEndAtTheirTime, dryConditionEndsItsPhase, coolTempEndsAtAnUpdate⟩

end Sys2Proof.Machine

/-! PROOF. The run-on at a supply update (R21). -/

namespace Sys2Proof.Machine

/-! ## A TRIP kind listed over a WARNING -/

theorem FaultList.any_repeated (l : List FaultRecord) (n : Nat) (k : FaultKind) (detail : Option Nat) (k' : FaultKind) :
    (l.map (fun q => if q.kind == k then q.repeated n detail else q)).any (fun q => q.kind == k') = l.any (fun q => q.kind == k') := by
  rw [List.any_map]
  congr 1
  funext q
  dsimp only [Function.comp_apply]
  split <;> rfl

/-- What a WARNING takes from the list is no TRIP record (R162). -/
theorem FaultList.holds_take_warning (f : FaultList) {k k' : FaultKind} (hk : isTrip k = false) (hk' : isTrip k' = true)
    (phase : Option Nat) (n : Nat) (detail : Option Nat) : (f.take phase n k detail).1.holds k' = f.holds k' := by
  have hne : (k == k') = false := by
    rw [beq_eq_false_iff_ne]
    rintro rfl
    exact Bool.false_ne_true (hk.symm.trans hk')
  have hnew : (newRecord phase n k detail).kind = k := rfl
  have hstuck : (k == .heaterStuckOn) = false := by
    rw [beq_eq_false_iff_ne]
    rintro rfl
    cases hk
  unfold FaultList.take
  dsimp only
  split
  · exact FaultList.any_repeated ..
  · split
    · simp [FaultList.holds, hnew, hne]
    · split
      · next hw =>
        obtain ⟨before, after, w, hsplit, hwarning, -, herase⟩ :=
          eraseP_split (fun q : FaultRecord => !isTrip q.kind) f.records (by simpa using hw)
        have hw' : (w.kind == k') = false := by
          rw [beq_eq_false_iff_ne]
          rintro rfl
          simp [hk'] at hwarning
        rw [hsplit] at herase
        simp [FaultList.holds, hsplit, herase, hnew, hne, hw']
      · rw [hstuck, if_neg Bool.false_ne_true]
        rfl

section
variable {p : Pocket} {s : State}

theorem State.checkInlet_holds (t : Int) {k : FaultKind} (hk : isTrip k = true) :
    ((s.checkInlet p t).pocket p).fl.holds k = (s.pocket p).fl.holds k := by
  have hfl (f : HeatStages → HeatStages) : ((s.onHsc p f).pocket p).fl = (s.pocket p).fl := by cases p <;> rfl
  unfold State.checkInlet
  split
  · rw [hfl]
  · split
    · rw [State.report_fl, FaultList.holds_take_warning _ rfl hk, hfl]
    · rfl

theorem State.checkExhaust_fl {t : Int} (h : inSenseRange t = true) : ((s.checkExhaust p t).pocket p).fl = (s.pocket p).fl := by
  unfold State.checkExhaust
  rw [if_pos h]
  cases p <;> rfl

end

/-! ## The run-on at an update (O25) -/

/-- What the end of a wind-down says of the state before it: the cycle engine, the index, the energy, the buffers and the ports. -/
theorem windDownEnded_congr {p : Pocket} {s s' t t' : State} (h : WindDownEnded p s t) (hce : (s'.pocket p).ce = (s.pocket p).ce)
    (hindex : (s'.pocket p).me.index = (s.pocket p).me.index)
    (henergy : (s'.pocket p).meter.cycleEnergy = (s.pocket p).meter.cycleEnergy) (hsb : (s'.pocket p).sb = (s.pocket p).sb)
    (hnow : s'.now = s.now) (hgain : ∀ k, LatchesGain k s t → LatchesGain k s' t') (hce' : (t'.pocket p).ce = (t.pocket p).ce)
    (hsb' : (t'.pocket p).sb = (t.pocket p).sb) : WindDownEnded p s' t' := by
  have htotal : s'.totalRunning p = s.totalRunning p := by
    unfold State.totalRunning State.phaseElapsed
    rw [State.phaseTicks_congr hnow hce, hce]
  obtain ⟨hresult, hwinding, hidle, hstays, hheld, hposted, hready, hempty⟩ := h
  unfold WindDownEnded
  rw [hce, hindex, henergy, hsb, htotal, hce', hsb']
  exact ⟨hresult, hwinding, hidle, hstays, hheld, hgain _ hposted,
    fun n hn hr => ⟨(hready n hn hr).1, hgain _ (hready n hn hr).2⟩, hempty⟩

section
variable {p : Pocket} {r : Readings} {s a : State} (ha : Spared p (s.takenUpdate r) a)
include ha

/-- Whether the exhaust ends the run-on after checks that trip nothing (R21). -/
theorem State.runOnCooled_quiet {b : State} (hb : b = a.heaterChecks p (exhaustOf r p) (inletOf r p) (s.updateInputs r p))
    (hquiet : QuietCurrent p r s) (hin : inSenseRange (exhaustOf r p) = true) {t : Ticks} (ht : (s.pocket p).ce.runOnSince = some t) :
    b.runOnCooled p = true ↔ t + 300000 ≤ s.updateTime ∧ (s.pocket p).fl.holds .sensorExhaust = false
      ∧ exhaustOf r p ≤ (s.item p PocketItem.purgeTemperature : Int) * 10 := by
  have hcalm := Calm.quiet ha (.inl hin) hquiet
  have hsupervised := Supervised.heaterChecks p a (exhaustOf r p) (inletOf r p) (s.updateInputs r p)
  obtain ⟨hover, hstuck, hunder⟩ := none_taken_of_quiet hquiet
  have hholds : (b.pocket p).fl.holds .sensorExhaust = (s.pocket p).fl.holds .sensorExhaust := by
    have hfl (x : State) (f : HeatStages → HeatStages) : ((x.onHsc p f).pocket p).fl = (x.pocket p).fl := by cases p <;> rfl
    rw [(State.heaterChecks_taken ha hb rfl).2.2.2 hover hstuck hunder, State.comparedState, State.compareCurrents_eq, hfl,
      State.samplesChecked, State.checkInlet_holds _ rfl, State.checkExhaust_fl hin, ha.taken_fl]
  rw [← hb] at hcalm hsupervised
  have hreading : b.exhaustReading p = exhaustOf r p := by
    rw [← ha.taken_exhaustReading]
    unfold State.exhaustReading
    rw [hcalm.me, hsupervised.spares.now]
  unfold State.runOnCooled
  rw [hreading, hholds, hcalm.ce, ha.taken_ce, ht, hsupervised.spares.now, ha.taken_now, hsupervised.spares.item, ha.taken_item, hin]
  have hseconds : seconds 30 = 300000 := rfl
  simp only [hseconds, Bool.and_true, Bool.and_eq_true, decide_eq_true_iff, Bool.not_eq_true', and_assoc]

theorem State.runOnCooled_out {b : State} (hb : b = a.heaterChecks p (exhaustOf r p) (inletOf r p) (s.updateInputs r p))
    (hout : inSenseRange (exhaustOf r p) = false) : b.runOnCooled p = false := by
  have hkept := (Supervised.heaterChecks p a (exhaustOf r p) (inletOf r p) (s.updateInputs r p)).kept
  rw [← hb] at hkept
  have hreading : b.exhaustReading p = exhaustOf r p := by
    unfold State.exhaustReading
    rw [hkept.exhaust, ha.me, State.takenUpdate_pocket]
  unfold State.runOnCooled
  rw [hreading, hout, Bool.and_false, Bool.false_and, Bool.false_and]

end

theorem runOnLastsWithTheSampleOut : RunOnLastsWithTheSampleOut := by
  intro p r s t hm ht hst hout
  obtain ⟨a, c, e, ha, hc, he, hu⟩ := s.supplyUpdate_blocks p r
  obtain ⟨b, hb⟩ : ∃ b, b = a.heaterChecks p (exhaustOf r p) (inletOf r p) (s.updateInputs r p) := ⟨_, rfl⟩
  have hsupervised : Supervised p a b := hb ▸ Supervised.heaterChecks p a _ _ _
  have hrange : inSenseRange (exhaustOf r p) = false := by
    rw [← Bool.not_eq_true, inSenseRange_iff]
    omega
  have hce : (b.pocket p).ce = { (s.pocket p).ce with state := (b.pocket p).ce.state, endReason := (b.pocket p).ce.endReason }
      ∧ ((b.pocket p).ce.state = .windingDown ∨ (b.pocket p).ce.state = .faulted) := by
    rw [← ha.taken_ce] at hst ⊢
    rcases hsupervised.taken with hcalm | htrip
    · rw [hcalm.ce]
      exact ⟨rfl, hst⟩
    · refine ⟨?_, .inr htrip.response.faulted⟩
      have hresponse := htrip.response
      unfold TripResponse at hresponse
      rcases hst with h | h <;> rw [h] at hresponse <;> rw [hresponse]
  have hnotRunning : (b.pocket p).ce.state ≠ .running := by
    rcases hce.2 with h | h <;> rw [h] <;> decide
  rw [← hb] at hc
  have hbu : Spared p b (s.supplyUpdate r) := (hc.past_phase he hnotRunning).past_runOn hu (State.runOnCooled_out ha hb hrange)
  refine ⟨s.supplyUpdate r, exec_supplyUpdate hm r, ?_, ?_, ?_, fun harmed hquiet => ?_⟩
  · rw [hbu.ce]
    exact hce.1
  · rw [hbu.ce]
    exact hce.2
  · rw [hbu.records.2.1, hsupervised.records.2.1, ha.records.2.1, State.takenUpdate_pocket]
  · have hcalm := Calm.quiet ha (.inr harmed) hquiet
    rw [← hb] at hcalm
    rw [hbu.ce, hcalm.ce, ha.taken_ce]

theorem runOnEndsAtACoolExhaust : RunOnEndsAtACoolExhaust := by
  rintro p r s b₀ t hm ht hwinding hreason hst hlo hhi hquiet hb₀
  obtain ⟨a, c, e, ha, hc, he, hu⟩ := s.supplyUpdate_blocks p r
  obtain ⟨b, hb⟩ : ∃ b, b = a.heaterChecks p (exhaustOf r p) (inletOf r p) (s.updateInputs r p) := ⟨_, rfl⟩
  have hin : inSenseRange (exhaustOf r p) = true := (inSenseRange_iff _).mpr ⟨hlo, hhi⟩
  have hcalm : Calm p a b := hb ▸ Calm.quiet ha (.inl hin) hquiet
  have hsupervised : Supervised p a b := hb ▸ Supervised.heaterChecks p a _ _ _
  have hcooled := State.runOnCooled_quiet ha hb hquiet hin ht
  have hce : (b.pocket p).ce = (s.pocket p).ce := hcalm.ce.trans ha.taken_ce
  have hnotRunning : (b.pocket p).ce.state ≠ .running := by
    rw [hce]
    rcases hst with h | h <;> rw [h] <;> decide
  rw [← hb] at hc
  have hbe := hc.past_phase he hnotRunning
  have hnow₀ : b₀.now = s.updateTime := by
    rw [hb₀]
    rfl
  have hece : (e.pocket p).ce = (s.pocket p).ce := hbe.ce.trans hce
  refine ⟨s.supplyUpdate r, exec_supplyUpdate hm r, fun hno => ?_, fun hlong hcool hunlisted => ?_⟩
  · have hoff : b.runOnCooled p = false := by
      rw [← Bool.not_eq_true, hcooled, ← hnow₀]
      rintro ⟨h1, h2, h3⟩
      rcases hno with h | h | h
      · exact not_lt.mpr h1 h
      · exact not_lt.mpr h3 h
      · exact Bool.false_ne_true (h2.symm.trans h)
    rw [(hbe.past_runOn hu hoff).ce, hce]
  · have hends : e.runOnExhaustEnd p = e.endRunOn p :=
      if_pos (hbe.runOnCooled.trans (hcooled.mpr ⟨hnow₀ ▸ hlong, hunlisted, hcool⟩))
    rw [hends] at hu
    obtain ⟨-, k, sb, hp, hk⟩ := e.endRunOn_kept p
    have hdmc : (e.pocket p).dmc = (s.pocket p).dmc := by rw [hbe.drum.1, hcalm.dmc, ha.taken_drum.1]
    have hsb : (e.pocket p).sb = (s.pocket p).sb := by
      rw [hbe.records.2.1, hsupervised.records.2.1, ha.records.2.1, State.takenUpdate_pocket]
    have hmeter : ((s.supplyUpdate r).pocket p).meter = (e.pocket p).meter := by
      rw [hu.kept.meter, hp]
      rfl
    have hpb : b₀.pocket p = s.pocket p := by rw [hb₀, State.pocket_reach]
    refine ⟨?_, ?_, ?_, fun hstopped hone hfree => ?_, fun hcoasting => ?_⟩
    · unfold State.blwr
      rw [hu.ce]
      exact State.endRunOn_blwr (by rw [hece]; exact hst)
    · rw [hu.ce, hp]
      dsimp only
      rw [hk]
      rfl
    · rw [hu.ce, hp]
      dsimp only
      rw [hk]
      rfl
    · have hended : WindDownEnded p e (e.endRunOn p) :=
        State.endRunOn_ended (by rw [hece]; exact hwinding) (by rw [hdmc]; exact hstopped) (by rw [hece]; exact hreason)
          (by rw [hsb]; exact hone) (by rw [hsb]; exact hfree)
      have hstart : (b₀.onMeter p (fun _ => ((s.supplyUpdate r).pocket p).meter)).pocket p
          = { s.pocket p with meter := (e.pocket p).meter } := by
        rw [hmeter, State.onMeter, State.pocket_setPocket, hpb]
      have hindex : (s.pocket p).me.index = (e.pocket p).me.index := by
        rw [hbe.me, hcalm.me, ha.me, State.takenUpdate_pocket]
      have hframed := (ha.toFramed.trans hsupervised.spares.toFramed).trans hbe.toFramed
      refine windDownEnded_congr hended ?_ ?_ ?_ ?_ ?_ (fun k hk => ?_) hu.ce hu.records.2.1
      · rw [hstart, hece]
      · rw [hstart]
        exact hindex
      · rw [hstart]
      · rw [hstart, hsb]
      · rw [hbe.now, hsupervised.spares.now, ha.taken_now, ← hnow₀]
        cases p <;> rfl
      · have hport (q : Port) : (b₀.onMeter p (fun _ => ((s.supplyUpdate r).pocket p).meter)).port q = (s.takenUpdate r).port q := by
          rw [State.takenUpdate_port, hb₀]
          cases p <;> cases q <;> rfl
        refine (hk.of_later (fun q => ?_) fun q => ?_).keep hu.latches
        · rw [hport]
          exact congrArg PortState.mask (hframed.ports q) ▸ rfl
        · rw [hport]
          exact hframed.latches q
    · have hstill := State.endRunOn_coasting (b := e) (p := p) (by rw [hdmc]; exact hcoasting)
      rw [hstill] at hu
      have huce := hu.ce
      have husb := hu.records.2.1
      rw [State.pocket_setPocket] at huce husb
      rw [huce, husb]
      refine ⟨?_, ?_, ?_, hsb⟩
      all_goals
        unfold PocketState.runOnEnded
        dsimp only
        rw [hece]
      exact hwinding

/-- Settles O25. -/
theorem purgeAndRunOnEnd : Obligations.PurgeAndRunOnEnd :=
  ⟨purgeEndStopsTheBlower, runOnEndsTheWindDown, runOnEndsAtACoolExhaust, runOnLastsWithTheSampleOut⟩

end Sys2Proof.Machine

/-! PROOF. Heater supervision at a supply update (R109 to R118): the timers of the current checks, the overcurrent check, the underload
warning and the sensor checks. -/

namespace Sys2Proof.Machine

/-! ## The timers of the current checks (R110, R118) -/

theorem HeatStages.overTaken_supervision {h k : HeatStages} (e : h.supervision = k.supervision) (now : Ticks) :
    (h.overTaken now).supervision = (k.overTaken now).supervision := by
  have hform (x : HeatStages) : (x.overTaken now).supervision = { x.supervision with
      overCount := min 3 (x.supervision.overCount + 1), overTimer := 0,
      recoveryDue := if min 3 (x.supervision.overCount + 1) < 3 then some (now + seconds 5) else x.supervision.recoveryDue } := by
    unfold HeatStages.overTaken HeatStages.withEnergized
    split <;> rfl
  rw [hform, hform, e]

theorem HeatStages.overTaken_kept (now : Ticks) (h : HeatStages) :
    (h.overTaken now).expected = h.expected ∧ (h.overTaken now).suspended = h.suspended ∧ (h.overTaken now).overHolds = h.overHolds
    ∧ (h.overTaken now).underHolds = h.underHolds ∧ (h.overTaken now).stuckTimer = h.stuckTimer
    ∧ (h.overTaken now).underTimer = h.underTimer ∧ (h.overTaken now).stuckArmed = h.stuckArmed
    ∧ (h.overTaken now).underArmed = h.underArmed := by
  unfold HeatStages.overTaken HeatStages.withEnergized
  split <;> exact ⟨rfl, rfl, rfl, rfl, rfl, rfl, rfl, rfl⟩

theorem HeatStages.overTaken_armed (now : Ticks) (h : HeatStages) :
    (h.overTaken now).exhaustArmed = h.exhaustArmed ∧ (h.overTaken now).inletArmed = h.inletArmed := by
  unfold HeatStages.overTaken HeatStages.withEnergized
  split <;> exact ⟨rfl, rfl⟩

section
variable {p : Pocket} {r : Readings} {s a b : State} (ha : Spared p (s.takenUpdate r) a)
  (hb : b = a.heaterChecks p (exhaustOf r p) (inletOf r p) (s.updateInputs r p))
include ha hb

/-- What the heater checks of an update leave in the heat stage controller, by the check taken. -/
theorem State.heaterChecks_supervision :
    (OverTaken p r s → (b.pocket p).hsc.supervision = ((s.comparedUpdate r p).overTaken s.updateTime).supervision)
    ∧ (¬ OverTaken p r s → StuckTaken p r s →
        (b.pocket p).hsc.supervision = { s.comparedUpdate r p with stuckArmed := false, safe := false }.supervision)
    ∧ (¬ OverTaken p r s → ¬ StuckTaken p r s → UnderTaken p r s →
        (b.pocket p).hsc.supervision = { s.comparedUpdate r p with underArmed := false }.supervision)
    ∧ (¬ OverTaken p r s → ¬ StuckTaken p r s → ¬ UnderTaken p r s →
        (b.pocket p).hsc.supervision = (s.comparedUpdate r p).supervision) := by
  obtain ⟨x, hx⟩ : ∃ x, x = a.comparedState p r (s.updateInputs r p) := ⟨_, rfl⟩
  have hsup := State.comparedState_supervision ha
  have hnow : x.now = s.updateTime := by
    rw [hx, (Supervised.comparedState a p r _).spares.now, ha.taken_now]
  rw [← hx] at hsup
  obtain ⟨hover, hstuck, hunder, hnone⟩ := State.heaterChecks_taken ha hb hx
  refine ⟨fun h => ?_, fun h1 h2 => ?_, fun h1 h2 h3 => ?_, fun h1 h2 h3 => ?_⟩
  · rw [hover h, State.takeOvercurrent_supervision, hnow]
    exact HeatStages.overTaken_supervision hsup _
  · rw [hstuck h1 h2, State.takeStuckOn_supervision]
    exact congrArg (fun h : HeatStages => { h with stuckArmed := false, safe := false }) hsup
  · rw [hunder h1 h2 h3, State.takeUnderload_supervision]
    exact congrArg (fun h : HeatStages => { h with underArmed := false }) hsup
  · rw [hnone h1 h2 h3]
    exact hsup

/-- What the comparisons gave stands whatever check is taken, but for the taken check's own items. -/
theorem State.heaterChecks_compared {α : Type} (f : HeatStages → α) (hsup : ∀ h : HeatStages, f h.supervision = f h)
    (hover : OverTaken p r s → ∀ (h : HeatStages) now, f (h.overTaken now) = f h)
    (hstuck : StuckTaken p r s → ∀ h : HeatStages, f { h with stuckArmed := false, safe := false } = f h)
    (hunder : UnderTaken p r s → ∀ h : HeatStages, f { h with underArmed := false } = f h) :
    f (b.pocket p).hsc = f (s.comparedUpdate r p) := by
  obtain ⟨h1, h2, h3, h4⟩ := State.heaterChecks_supervision ha hb
  have hstep {k : HeatStages} (h : (b.pocket p).hsc.supervision = k.supervision) : f (b.pocket p).hsc = f k := by
    rw [← hsup, h, hsup]
  by_cases ho : OverTaken p r s
  · rw [hstep (h1 ho), hover ho]
  by_cases hs : StuckTaken p r s
  · rw [hstep (h2 ho hs), hstuck hs]
  by_cases hu : UnderTaken p r s
  · rw [hstep (h3 ho hs hu), hunder hu]
  · rw [hstep (h4 ho hs hu)]

end

theorem nextTimer_suspended (holds : Bool) (limit timer : Nat) : nextTimer true holds limit timer = 0 := rfl

theorem nextTimer_made (holds : Bool) (limit timer : Nat) :
    nextTimer false holds limit timer = if holds = true then min limit (timer + 250) else 0 := by
  cases holds <;> rfl

theorem nextArmed_suspended (holds armed : Bool) : nextArmed true holds armed = armed := by
  cases armed <;> rfl

theorem nextArmed_clear (armed : Bool) : nextArmed false false armed = true := by
  cases armed <;> rfl

theorem checkTimersCount : CheckTimersCount := by
  rintro p r s b₀ hm rfl hload hunderload
  obtain ⟨a, c, e, ha, hc, he, hu⟩ := s.supplyUpdate_blocks p r
  obtain ⟨hchecks, -⟩ := State.after_checks hc he hu
  have hkeep {α : Type} (f : HeatStages → α) (hf : ∀ h : HeatStages, f h.checks = f h) (hsup : ∀ h : HeatStages, f h.supervision = f h)
      (hover : OverTaken p r s → ∀ (h : HeatStages) now, f (h.overTaken now) = f h)
      (hstuck : StuckTaken p r s → ∀ h : HeatStages, f { h with stuckArmed := false, safe := false } = f h)
      (hunder : UnderTaken p r s → ∀ h : HeatStages, f { h with underArmed := false } = f h) :
      f ((s.supplyUpdate r).pocket p).hsc = f (s.comparedUpdate r p) := by
    rw [← hf, hchecks, hf]
    exact State.heaterChecks_compared ha rfl f hsup hover hstuck hunder
  have htaken := overTaken_iff (p := p) (r := r) hload
  have hstucktaken := stuckTaken_iff (p := p) (r := r) hload
  have hundertaken := underTaken_iff (p := p) (r := r) hunderload
  have hsuspended : ((s.supplyUpdate r).pocket p).hsc.suspended = (s.updateInputs r p).suspended :=
    hkeep (·.suspended) (fun _ => rfl) (fun _ => rfl) (fun _ h now => (h.overTaken_kept now).2.1) (fun _ _ => rfl) fun _ _ => rfl
  have hoverHolds : ((s.supplyUpdate r).pocket p).hsc.overHolds = _ :=
    hkeep (·.overHolds) (fun _ => rfl) (fun _ => rfl) (fun _ h now => (h.overTaken_kept now).2.2.1) (fun _ _ => rfl) fun _ _ => rfl
  have hunderHolds : ((s.supplyUpdate r).pocket p).hsc.underHolds = _ :=
    hkeep (·.underHolds) (fun _ => rfl) (fun _ => rfl) (fun _ h now => (h.overTaken_kept now).2.2.2.1) (fun _ _ => rfl) fun _ _ => rfl
  have hstuckTimer : ((s.supplyUpdate r).pocket p).hsc.stuckTimer = _ :=
    hkeep (·.stuckTimer) (fun _ => rfl) (fun _ => rfl) (fun _ h now => (h.overTaken_kept now).2.2.2.2.1) (fun _ _ => rfl) fun _ _ => rfl
  have hunderTimer : ((s.supplyUpdate r).pocket p).hsc.underTimer = _ :=
    hkeep (·.underTimer) (fun _ => rfl) (fun _ => rfl) (fun _ h now => (h.overTaken_kept now).2.2.2.2.2.1) (fun _ _ => rfl)
      fun _ _ => rfl
  have hoverTimer (h : ¬ OverTaken p r s) : ((s.supplyUpdate r).pocket p).hsc.overTimer = _ :=
    hkeep (·.overTimer) (fun _ => rfl) (fun _ => rfl) (fun ho => absurd ho h) (fun _ _ => rfl) fun _ _ => rfl
  have hstuckArmed (h : ¬ StuckTaken p r s) : ((s.supplyUpdate r).pocket p).hsc.stuckArmed = _ :=
    hkeep (·.stuckArmed) (fun _ => rfl) (fun _ => rfl) (fun _ h now => (h.overTaken_kept now).2.2.2.2.2.2.1) (fun hs => absurd hs h)
      fun _ _ => rfl
  have hunderArmed (h : ¬ UnderTaken p r s) : ((s.supplyUpdate r).pocket p).hsc.underArmed = _ :=
    hkeep (·.underArmed) (fun _ => rfl) (fun _ => rfl) (fun _ h now => (h.overTaken_kept now).2.2.2.2.2.2.2) (fun _ _ => rfl)
      fun hu => absurd hu h
  have hnow : (s.reach s.sm.nextUpdate).now = s.updateTime := rfl
  rw [hnow]
  refine ⟨s.supplyUpdate r, exec_supplyUpdate hm r, ?_, fun hno => ?_, fun hmade => ?_⟩
  · rw [hsuspended, State.updateInputs_suspended]
  · have hs : (s.updateInputs r p).suspended = true := State.updateInputs_suspended.mpr hno
    rw [hoverTimer (fun h => hno (htaken.mp h).1), hstuckTimer, hunderTimer, hstuckArmed (fun h => hno (hstucktaken.mp h).1),
      hunderArmed (fun h => hno (hundertaken.mp h).1)]
    dsimp only [State.comparedUpdate, State.comparedHeat, HeatStages.compared]
    rw [hs]
    simp only [nextTimer_suspended, nextArmed_suspended, and_self]
  · have hs : (s.updateInputs r p).suspended = false := by
      rw [← Bool.not_eq_true, State.updateInputs_suspended]
      exact not_not.mpr hmade
    have hover := State.updateInputs_over hmade
    have hunder := State.updateInputs_under hmade
    have hstuck := State.updateInputs_stuck (p := p) (r := r) (s := s)
    rw [hstuckTimer, hunderTimer, hoverHolds, hunderHolds]
    dsimp only [State.comparedUpdate, State.comparedHeat, HeatStages.compared] at hoverTimer hstuckArmed hunderArmed ⊢
    rw [hs] at hoverTimer hstuckArmed hunderArmed ⊢
    simp only [nextTimer_made] at hoverTimer ⊢
    refine ⟨fun h => ?_, fun h hsoon => ?_, fun h => ⟨?_, ?_⟩, fun h => ?_, fun h => ⟨?_, ?_⟩, fun h => ?_, hover, hunder⟩
    · rw [hoverTimer fun ho => h (htaken.mp ho).2.1, if_neg (mt hover.mp h)]
    · rw [hoverTimer fun ho => not_lt.mpr (htaken.mp ho).2.2 hsoon, if_pos (hover.mpr h)]
      exact min_eq_right hsoon.le
    · rw [if_neg (mt hstuck.mp h)]
    · rw [hstuckArmed fun hst => h (hstucktaken.mp hst).2.1, Bool.eq_false_iff.mpr (mt hstuck.mp h), nextArmed_clear]
    · rw [if_pos (hstuck.mpr h)]
      rfl
    · rw [if_neg (mt hunder.mp h)]
    · rw [hunderArmed fun hun => h (hundertaken.mp hun).2.1, Bool.eq_false_iff.mpr (mt hunder.mp h), nextArmed_clear]
    · rw [if_pos (hunder.mpr h)]
      rfl

end Sys2Proof.Machine

/-! PROOF. The overcurrent check, the underload warning and the sensor checks at a supply update (R111, R112, R114, R116). -/

namespace Sys2Proof.Machine

/-! ## A trip in an update -/

section
variable {p : Pocket} {r : Readings} {s a b u : State}

theorem State.secondsCount_congr {t : State} (hnow : t.now = s.now) (hloaded : t.loadedAt = s.loadedAt) :
    t.secondsCount = s.secondsCount := by
  unfold State.secondsCount State.secondsSince
  rw [hnow, hloaded]

theorem Spared.taken_secondsCount (ha : Spared p (s.takenUpdate r) a) : a.secondsCount = (s.reach s.sm.nextUpdate).secondsCount := by
  obtain ⟨-, -, hnow, hloaded, -⟩ := s.takenUpdate_shared r
  obtain ⟨-, -, hnowa, hloadeda, -⟩ := ha.shared
  exact State.secondsCount_congr (hnowa.trans hnow) (hloadeda.trans hloaded)

theorem Spared.taken_phaseTicks (ha : Spared p (s.takenUpdate r) a) : a.phaseTicks p = (s.reach s.sm.nextUpdate).phaseTicks p :=
  State.phaseTicks_congr (ha.taken_now.trans rfl) (by rw [ha.taken_ce, State.pocket_reach])

/-- A latch's gain during an update, from the ports before it. -/
theorem LatchesGain.of_taken {k : EventKind} (h : LatchesGain k a b) (ha : Framed (s.takenUpdate r) a) (hu : Framed b u) :
    LatchesGain k s u := by
  refine (h.of_later (fun q => ?_) fun q => ?_).keep hu.latches
  · rw [← State.takenUpdate_port r s q]
    exact congrArg PortState.mask (ha.ports q) ▸ rfl
  · rw [← State.takenUpdate_port r s q]
    exact ha.latches q

/-- The response to a trip of the update, where the rest of it leaves the cycle engine. -/
theorem TripTaken.response_taken (h : TripTaken p a b) (ha : Spared p (s.takenUpdate r) a) (hce : (u.pocket p).ce = (b.pocket p).ce) :
    TripResponse s.updateTime ((s.reach s.sm.nextUpdate).phaseTicks p) (s.pocket p) (u.pocket p) := by
  have hr := h.response
  unfold TripResponse WindDownBegun at hr ⊢
  rwa [ha.taken_now, ha.taken_phaseTicks, ha.taken_ce, ha.taken_lines, ← hce] at hr

/-- A trip from a turning cycle begins the run-on (R20, R22). -/
theorem TripResponse.runOn_fresh {now ticks : Ticks} {x y : PocketState} (h : TripResponse now ticks x y)
    (hst : x.ce.state.stoppable = true) : y.ce.runOnSince = some now := by
  unfold TripResponse WindDownBegun at h
  cases hstate : x.ce.state <;> rw [hstate] at h hst
  case idle | windingDown | faulted => cases hst
  all_goals rw [h]

/-- After a trip from a turning cycle the pocket has no heat to the end of the update, and its drum is stopped. -/
theorem TripTaken.stopped_taken (h : TripTaken p a b) (ha : Spared p (s.takenUpdate r) a) (hu : Spared p b u)
    (hst : (s.pocket p).ce.state.stoppable = true) :
    DrumHalted s.updateTime (s.coastTicks p) (s.pocket p) (u.pocket p)
      ∧ (u.pocket p).hsc.energized = 0 ∧ u.granted p = 0 ∧ u.requestOf p = none := by
  obtain ⟨⟨hE, hg, hr⟩, hdrum, -⟩ := h.stops (by rw [ha.taken_ce]; exact hst)
  have hoff : (b.pocket p).ce.state ≠ .running := by
    rw [h.response.faulted]
    decide
  obtain ⟨hrequest, hgranted⟩ := hu.gainless (by simp [State.heating, hoff]) hr
  exact ⟨(hdrum.of_taken ha).congr hu.drum.1 hu.drum.2, hu.cold (State.heatPermitted_off hoff) hE,
    Nat.le_zero.mp (hg ▸ hgranted), hrequest⟩

end

/-! ## The checks with both samples in range -/

section
variable {p : Pocket} {r : Readings} {s a x : State} (ha : Spared p (s.takenUpdate r) a)
  (hx : x = a.comparedState p r (s.updateInputs r p))
include ha hx

theorem State.comparedState_fl : (x.pocket p).fl = ((a.samplesChecked p (exhaustOf r p) (inletOf r p)).pocket p).fl := by
  rw [hx, State.comparedState, State.compareCurrents_eq]
  cases p <;> rfl

theorem Spared.compared_secondsCount : x.secondsCount = (s.reach s.sm.nextUpdate).secondsCount := by
  obtain ⟨-, -, hnow, hloaded, -⟩ := (Supervised.comparedState a p r (s.updateInputs r p)).spares.shared
  rw [← hx] at hnow hloaded
  rw [State.secondsCount_congr hnow hloaded, ha.taken_secondsCount]

theorem State.comparedState_fl_inRange (hexhaust : inSenseRange (exhaustOf r p) = true) (hinlet : inSenseRange (inletOf r p) = true) :
    (x.pocket p).fl = (s.pocket p).fl := by
  have hsame (t : State) (f : HeatStages → HeatStages) : ((t.onHsc p f).pocket p).fl = (t.pocket p).fl := by cases p <;> rfl
  rw [State.comparedState_fl ha hx, State.samplesChecked, State.checkInlet, if_pos hinlet, hsame, State.checkExhaust_fl hexhaust,
    ha.taken_fl]

end

theorem inRange_of_samples {p : Pocket} {r : Readings} (h : SamplesInRange p r) :
    inSenseRange (exhaustOf r p) = true ∧ inSenseRange (inletOf r p) = true := by
  obtain ⟨h1, h2, h3, h4⟩ := h
  exact ⟨(inSenseRange_iff _).mpr ⟨h1, h2⟩, (inSenseRange_iff _).mpr ⟨h3, h4⟩⟩

theorem State.heating_iff (s : State) (p : Pocket) :
    s.heating p = true ↔ (s.pocket p).ce.state = .running ∧ s.onHeatEntry p = true := by
  simp [State.heating]

/-- A heat phase is no COOL phase: no update ends it by the exhaust (R12). -/
theorem State.coolTempEnd_heat {s : State} {p : Pocket} (h : s.onHeatEntry p = true) : s.coolTempEnd p = s := by
  have hnotCool (k : PhaseKind) (hk : k.isHeat = true) : (k == .cool) = false := by
    cases k with
    | heatTimed => rfl
    | heatDry => rfl
    | cool => cases hk
    | tumble => rfl
  unfold State.onHeatEntry at h
  unfold State.coolTempEnd
  split
  · next e he =>
    rw [he] at h
    rw [hnotCool e.kind h, Bool.and_false, Bool.false_and, Bool.false_and, if_neg Bool.false_ne_true]
  · rfl

section
variable {p : Pocket} {s b c e u : State}

theorem State.onHeatEntry_congr {t : State} (h : (t.pocket p).ce = (s.pocket p).ce) : t.onHeatEntry p = s.onHeatEntry p := by
  unfold State.onHeatEntry State.entry
  rw [h]

theorem Spared.past_heat (hc : Spared p b c) (he : Spared p (c.coolTempEnd p) e) (h : b.onHeatEntry p = true) : Spared p b e := by
  rw [State.coolTempEnd_heat ((State.onHeatEntry_congr hc.ce).trans h)] at he
  exact hc.trans he

theorem State.runOnExhaustEnd_supervision (s : State) (p : Pocket) :
    ((s.runOnExhaustEnd p).pocket p).hsc.supervision = (s.pocket p).hsc.supervision := by
  unfold State.runOnExhaustEnd
  split
  · exact s.endRunOn_checks p
  · rfl

/-- Where no phase ends, the whole supervision stands to the end of the update. -/
theorem Spared.supervision_past_runOn (he : Spared p b e) (hu : Spared p (e.runOnExhaustEnd p) u) :
    (u.pocket p).hsc.supervision = (b.pocket p).hsc.supervision := by
  rw [hu.checks, State.runOnExhaustEnd_supervision, he.checks]

theorem State.heatPermitted_recovering {t : Ticks} (h : (s.pocket p).hsc.recoveryDue = some t) : s.heatPermitted p = false := by
  simp [State.heatPermitted, State.interlocks, h]

end

/-! ## The overcurrent check (R111, R112) -/

theorem HeatStages.overTaken_energized (now : Ticks) (h : HeatStages) : (h.overTaken now).energized = 0 :=
  HeatStages.withEnergized_energized now 0 h

theorem overcurrentIsTaken : OvercurrentIsTaken := by
  rintro p r s b₀ hm rfl hheating hsamples hmade hover hload htimer
  obtain ⟨a, c, e, ha, hc, he, hu⟩ := s.supplyUpdate_blocks p r
  obtain ⟨b, hb⟩ : ∃ b, b = a.heaterChecks p (exhaustOf r p) (inletOf r p) (s.updateInputs r p) := ⟨_, rfl⟩
  obtain ⟨x, hx⟩ : ∃ x, x = a.comparedState p r (s.updateInputs r p) := ⟨_, rfl⟩
  obtain ⟨hexhaust, hinlet⟩ := inRange_of_samples hsamples
  obtain ⟨hrunning, hheat⟩ := (s.heating_iff p).mp hheating
  have htaken : OverTaken p r s := (overTaken_iff hload).mpr ⟨hmade, hover, htimer⟩
  have hcalm : Calm p a x := .compared ha (.inl hexhaust) hx
  have hxfl := State.comparedState_fl_inRange ha hx hexhaust hinlet
  have hxce : (x.pocket p).ce = (s.pocket p).ce := hcalm.ce.trans ha.taken_ce
  have hbx := (State.heaterChecks_taken ha hb hx).1 htaken
  have hsup := (State.heaterChecks_supervision ha hb).1 htaken
  have hcount : (x.pocket p).hsc.overCount = (s.pocket p).hsc.overCount := by
    have hsame := State.comparedState_supervision ha
    rw [← hx] at hsame
    exact HeatStages.same_of_supervision hsame (·.overCount)
  rw [State.takeOvercurrent_eq, hcount] at hbx
  obtain ⟨y, hy⟩ : ∃ y, y = x.onHsc p (·.overTaken x.now) := ⟨_, rfl⟩
  have hyp : y.pocket p = { x.pocket p with hsc := (x.pocket p).hsc.overTaken x.now } := by
    rw [hy, State.onHsc, State.pocket_setPocket]
  have hsupervised : Supervised p a y := by
    rw [hx] at hy
    rw [hy]
    refine (Supervised.comparedState a p r _).trans (.onHsc ?_)
    rw [HeatStages.overTaken_energized]
    exact Nat.zero_le _
  have hycalm : Calm p a y := hcalm.trans (hy ▸ .onHsc p x _)
  rw [← hy] at hbx
  rw [← hb] at hc
  have hovertimer : ((s.supplyUpdate r).pocket p).hsc.overTimer = 0 := by
    obtain ⟨hchecks, -⟩ := State.after_checks hc he hu
    have hkeep : ((s.supplyUpdate r).pocket p).hsc.overTimer = (b.pocket p).hsc.overTimer :=
      HeatStages.same_of_checks hchecks (·.overTimer)
    exact hkeep.trans (HeatStages.same_of_supervision hsup (·.overTimer))
  refine ⟨s.supplyUpdate r, exec_supplyUpdate hm r, ?_⟩
  by_cases hfew : (s.pocket p).hsc.overCount < 2
  · rw [if_pos (by omega)] at hbx
    have hbce : (b.pocket p).ce = (s.pocket p).ce := by rw [hbx, hyp, hxce]
    have hbe := hc.past_heat he ((State.onHeatEntry_congr hbce).trans hheat)
    have hall := (hbe.supervision_past_runOn hu).trans hsup
    have hdue : (b.pocket p).hsc.recoveryDue = some (s.updateTime + 50000) := by
      have hsame : (b.pocket p).hsc.recoveryDue = ((s.comparedUpdate r p).overTaken s.updateTime).recoveryDue :=
        HeatStages.same_of_supervision hsup (·.recoveryDue)
      exact hsame.trans (if_pos (show min 3 ((s.pocket p).hsc.overCount + 1) < 3 by omega))
    obtain ⟨-, -, hcold⟩ := State.past_runOn_kept (hbe.heatPermitted.trans (State.heatPermitted_recovering hdue)) hu
    have hEb : (b.pocket p).hsc.energized = 0 := by
      rw [hbx, hyp]
      exact HeatStages.overTaken_energized ..
    obtain ⟨-, hfl, -⟩ := State.after_checks hc he hu
    refine ⟨hcold (hbe.cold (State.heatPermitted_recovering hdue) hEb), hovertimer, fun _ => ⟨?_, ?_, ?_, ?_⟩, fun h => absurd hfew (by omega)⟩
    · have hsame : ((s.supplyUpdate r).pocket p).hsc.overCount = min 3 ((s.pocket p).hsc.overCount + 1) :=
        HeatStages.same_of_supervision hall (·.overCount)
      rw [hsame]
      omega
    · have hsame : ((s.supplyUpdate r).pocket p).hsc.recoveryDue = (b.pocket p).hsc.recoveryDue :=
        HeatStages.same_of_supervision (hbe.supervision_past_runOn hu) (·.recoveryDue)
      rw [hsame, hdue]
      rfl
    · rw [hfl, hbx, hyp, hxfl]
    · rw [State.past_runOn_state (by rw [hbe.ce, hbce, hrunning]; decide) hu, hbe.ce, hbce, hrunning]
  · rw [if_neg (by omega)] at hbx
    have htrip : TripTaken p a b := by
      rw [hbx]
      exact (TripTaken.report p y rfl _).after_calm hsupervised.spares hsupervised.records.1 hycalm
    have hstoppable : (s.pocket p).ce.state.stoppable = true := by rw [hrunning]; rfl
    have hnow : b.now = a.now := by rw [hb, (Supervised.heaterChecks p a _ _ _).spares.now]
    have hbu : Spared p b (s.supplyUpdate r) := by
      refine (hc.past_phase he (by rw [htrip.response.faulted]; decide)).past_runOn hu (State.runOnCooled_fresh ?_)
      rw [hnow]
      exact htrip.response.runOn_fresh (by rw [ha.taken_ce]; exact hstoppable)
    obtain ⟨hdrum, hE, hgranted, hrequest⟩ := htrip.stopped_taken ha hbu hstoppable
    have hall := hbu.checks.trans hsup
    refine ⟨hE, hovertimer, fun h => absurd h hfew, fun hmany => ⟨?_, ?_, ?_, htrip.response_taken ha hbu.ce,
      htrip.posted.of_taken ha.toFramed hbu.toFramed, hdrum, hgranted, hrequest⟩⟩
    · have hsame : ((s.supplyUpdate r).pocket p).hsc.overCount = min 3 ((s.pocket p).hsc.overCount + 1) :=
        HeatStages.same_of_supervision hall (·.overCount)
      rw [hsame]
      omega
    · have hsame : ((s.supplyUpdate r).pocket p).hsc.recoveryDue = ((s.comparedUpdate r p).overTaken s.updateTime).recoveryDue :=
        HeatStages.same_of_supervision hall (·.recoveryDue)
      exact hsame.trans (if_neg (show ¬ min 3 ((s.pocket p).hsc.overCount + 1) < 3 by omega))
    · have hseconds : y.secondsCount = (s.reach s.sm.nextUpdate).secondsCount := by
        rw [hy, State.onHsc, State.secondsCount_setPocket, Spared.compared_secondsCount ha hx]
      rw [hbu.records.2.2.1, hbx, State.report_fl, hseconds, hyp, hxce, hxfl]
      exact FaultList.take_takes ..

/-! ## The underload warning (R114) -/

/-- A new WARNING record posts FAULT (R162). -/
theorem State.report_warning_posts (s : State) (p : Pocket) {k : FaultKind} (hk : isTrip k = false) (detail : Option Nat)
    (hnot : (s.pocket p).fl.holds k = false) (hnew : ((s.report p k detail).pocket p).fl.holds k = true) :
    LatchesGain (.fault p) s (s.report p k detail) := by
  rw [State.report_fl] at hnew
  rw [s.report_warning p detail hk rfl, hnot, hnew]
  exact .post (by simp) (by simp)

theorem underloadWarns : UnderloadWarns := by
  rintro p r s b₀ hm rfl hheating hsamples hmade hunder hload hunderload harmed htimer
  obtain ⟨a, c, e, ha, hc, he, hu⟩ := s.supplyUpdate_blocks p r
  obtain ⟨b, hb⟩ : ∃ b, b = a.heaterChecks p (exhaustOf r p) (inletOf r p) (s.updateInputs r p) := ⟨_, rfl⟩
  obtain ⟨x, hx⟩ : ∃ x, x = a.comparedState p r (s.updateInputs r p) := ⟨_, rfl⟩
  obtain ⟨hexhaust, hinlet⟩ := inRange_of_samples hsamples
  obtain ⟨hrunning, hheat⟩ := (s.heating_iff p).mp hheating
  have htaken : UnderTaken p r s := (underTaken_iff hunderload).mpr ⟨hmade, hunder, htimer, harmed⟩
  have hnoover : ¬ OverTaken p r s := by
    rw [overTaken_iff hload]
    rintro ⟨-, ⟨-, hhigh⟩, -⟩
    obtain ⟨-, hlow⟩ := hunder
    have hle : expectedAt p r s * (100 - s.item p PocketItem.currentTolerance) / 100
        ≤ expectedAt p r s * (100 + s.item p PocketItem.currentTolerance) / 100 :=
      Nat.div_le_div_right (Nat.mul_le_mul_left _ (by omega))
    omega
  have hnostuck : ¬ StuckTaken p r s := by
    rw [stuckTaken_iff hload]
    rintro ⟨-, ⟨hE, -⟩, -⟩
    obtain ⟨hE', -⟩ := hunder
    omega
  have hcalm : Calm p a x := .compared ha (.inl hexhaust) hx
  have hxfl := State.comparedState_fl_inRange ha hx hexhaust hinlet
  obtain ⟨y, hy⟩ : ∃ y, y = x.onHsc p (fun h => { h with underArmed := false }) := ⟨_, rfl⟩
  have hbx : b = y.report p .heaterUnderload (some (s.pocket p).hsc.energized) := by
    rw [(State.heaterChecks_taken ha hb hx).2.2.1 hnoover hnostuck htaken, hy]
    rfl
  have hyp : y.pocket p = { x.pocket p with hsc := { (x.pocket p).hsc with underArmed := false } } := by
    rw [hy, State.onHsc, State.pocket_setPocket]
  have hyfl : (y.pocket p).fl = (s.pocket p).fl := by rw [hyp, hxfl]
  have hyce : (y.pocket p).ce = (s.pocket p).ce := by rw [hyp, hcalm.ce, ha.taken_ce]
  have hbce : (b.pocket p).ce = (s.pocket p).ce := by rw [hbx, (Calm.report p y rfl _).ce, hyce]
  rw [← hb] at hc
  have hbe := hc.past_heat he ((State.onHeatEntry_congr hbce).trans hheat)
  obtain ⟨hchecks, hfl, hframed, -⟩ := State.after_checks hc he hu
  have hsup := (State.heaterChecks_supervision ha hb).2.2.1 hnoover hnostuck htaken
  refine ⟨s.supplyUpdate r, exec_supplyUpdate hm r, ?_, ?_, ?_, fun hnot hnew => ?_⟩
  · have hkeep : ((s.supplyUpdate r).pocket p).hsc.underArmed = (b.pocket p).hsc.underArmed :=
      HeatStages.same_of_checks hchecks (·.underArmed)
    exact hkeep.trans (HeatStages.same_of_supervision hsup (·.underArmed))
  · rw [State.past_runOn_state (by rw [hbe.ce, hbce, hrunning]; decide) hu, hbe.ce, hbce, hrunning]
  · have hseconds : y.secondsCount = (s.reach s.sm.nextUpdate).secondsCount := by
      rw [hy, State.onHsc, State.secondsCount_setPocket, Spared.compared_secondsCount ha hx]
    rw [hfl, hbx, State.report_fl, hseconds, hyce, hyfl]
    exact FaultList.take_takes ..
  · rw [hfl, hbx] at hnew
    rw [← hyfl] at hnot
    have hgain := y.report_warning_posts p rfl _ hnot hnew
    rw [← hbx] at hgain
    have hay : Framed (s.takenUpdate r) y := by
      rw [hx] at hy
      have hsupervised : Supervised p a y := by
        rw [hy]
        exact (Supervised.comparedState a p r _).trans (.onHsc le_rfl)
      exact ha.toFramed.trans hsupervised.spares.toFramed
    exact hgain.of_taken hay hframed

/-! ## The sensor checks (R116) -/

/-- An exhaust sample out of range at an armed check trips SENSOR_EXHAUST. -/
theorem TripTaken.checkExhaust {p : Pocket} {s : State} {t : Int} (h : inSenseRange t = false)
    (harmed : (s.pocket p).hsc.exhaustArmed = true) : TripTaken p s (s.checkExhaust p t) := by
  unfold State.checkExhaust
  rw [if_neg (by rw [h]; exact Bool.false_ne_true), if_pos harmed]
  have hs : Supervised p s (s.onHsc p (fun h => { h with exhaustArmed := false })) := .onHsc le_rfl
  exact (TripTaken.report p _ rfl _).after_calm hs.spares hs.records.1 (.onHsc p s _)

section
variable {p : Pocket} {s : State} {t : Int}

theorem State.onHsc_fl (s : State) (p : Pocket) (f : HeatStages → HeatStages) : ((s.onHsc p f).pocket p).fl = (s.pocket p).fl := by
  cases p <;> rfl

theorem State.onHsc_ce (s : State) (p : Pocket) (f : HeatStages → HeatStages) : ((s.onHsc p f).pocket p).ce = (s.pocket p).ce := by
  cases p <;> rfl

theorem State.checkInlet_fl (h : inSenseRange t = true) : ((s.checkInlet p t).pocket p).fl = (s.pocket p).fl := by
  unfold State.checkInlet
  rw [if_pos h, State.onHsc_fl]

/-- A sample out of range leaves the list as it is, or enters the one record. -/
theorem State.checkExhaust_out (h : inSenseRange t = false) : ((s.checkExhaust p t).pocket p).fl =
    if (s.pocket p).hsc.exhaustArmed = true then
      ((s.pocket p).fl.take (s.pocket p).ce.faultPhase s.secondsCount .sensorExhaust none).1 else (s.pocket p).fl := by
  unfold State.checkExhaust
  rw [if_neg (by rw [h]; exact Bool.false_ne_true)]
  split
  · rw [State.report_fl, State.onHsc_fl, State.onHsc_ce, State.onHsc, State.secondsCount_setPocket]
  · rfl

theorem State.checkInlet_out (h : inSenseRange t = false) : ((s.checkInlet p t).pocket p).fl =
    if (s.pocket p).hsc.inletArmed = true then
      ((s.pocket p).fl.take (s.pocket p).ce.faultPhase s.secondsCount .sensorInlet none).1 else (s.pocket p).fl := by
  unfold State.checkInlet
  rw [if_neg (by rw [h]; exact Bool.false_ne_true)]
  split
  · rw [State.report_fl, State.onHsc_fl, State.onHsc_ce, State.onHsc, State.secondsCount_setPocket]
  · rfl

end

theorem currentCheckTaken_iff {p : Pocket} {r : Readings} {s : State} (hload : 0 < s.item p PocketItem.overloadTime)
    (hunderload : 0 < s.item p PocketItem.underloadTime) :
    CurrentCheckTaken p r s s.updateTime ↔ OverTaken p r s ∨ StuckTaken p r s ∨ UnderTaken p r s := by
  rw [overTaken_iff hload, stuckTaken_iff hload, underTaken_iff hunderload]
  unfold CurrentCheckTaken
  tauto

theorem sensorChecksReportOnce : SensorChecksReportOnce := by
  rintro p r s b₀ hm rfl hload hunderload
  obtain ⟨a, c, e, ha, hc, he, hu⟩ := s.supplyUpdate_blocks p r
  obtain ⟨b, hb⟩ : ∃ b, b = a.heaterChecks p (exhaustOf r p) (inletOf r p) (s.updateInputs r p) := ⟨_, rfl⟩
  obtain ⟨x, hx⟩ : ∃ x, x = a.comparedState p r (s.updateInputs r p) := ⟨_, rfl⟩
  rw [← hb] at hc
  obtain ⟨hchecks, hfl, hframed, -⟩ := State.after_checks hc he hu
  have hin (t : Int) : inSenseRange t = true ↔ -200 ≤ t ∧ t ≤ 1500 := inSenseRange_iff t
  have harmedE : (a.pocket p).hsc.exhaustArmed = (s.pocket p).hsc.exhaustArmed :=
    HeatStages.same_of_supervision ha.taken_supervision (·.exhaustArmed)
  have hexhaustArmed : ((s.supplyUpdate r).pocket p).hsc.exhaustArmed = inSenseRange (exhaustOf r p) := by
    have hkeep : ((s.supplyUpdate r).pocket p).hsc.exhaustArmed = (b.pocket p).hsc.exhaustArmed :=
      HeatStages.same_of_checks hchecks (·.exhaustArmed)
    exact hkeep.trans (State.heaterChecks_compared ha hb (·.exhaustArmed) (fun _ => rfl) (fun _ h now => (h.overTaken_armed now).1)
      (fun _ _ => rfl) fun _ _ => rfl)
  have hinletArmed : ((s.supplyUpdate r).pocket p).hsc.inletArmed = inSenseRange (inletOf r p) := by
    have hkeep : ((s.supplyUpdate r).pocket p).hsc.inletArmed = (b.pocket p).hsc.inletArmed :=
      HeatStages.same_of_checks hchecks (·.inletArmed)
    exact hkeep.trans (State.heaterChecks_compared ha hb (·.inletArmed) (fun _ => rfl) (fun _ h now => (h.overTaken_armed now).2)
      (fun _ _ => rfl) fun _ _ => rfl)
  refine ⟨s.supplyUpdate r, exec_supplyUpdate hm r, ?_, ?_, fun hout harmed => ?_, fun hno => ?_⟩
  · rw [hexhaustArmed, hin]
  · rw [hinletArmed, hin]
  · have hrange : inSenseRange (exhaustOf r p) = false := Bool.eq_false_iff.mpr (mt (hin _).mp hout)
    have htrip : TripTaken p a b := by
      rw [hb]
      exact (TripTaken.checkExhaust hrange (harmedE.trans harmed)).before
        ((Supervised.checkInlet p _ _).trans (.currentChecks p _ _))
    have hbu : Spared p b (s.supplyUpdate r) :=
      (hc.past_phase he (by rw [htrip.response.faulted]; decide)).past_runOn hu (State.runOnCooled_out ha hb hrange)
    exact ⟨by rw [hbu.ce, htrip.response.faulted], htrip.response_taken ha hbu.ce, htrip.posted.of_taken ha.toFramed hbu.toFramed,
      fun hst => htrip.stopped_taken ha hbu hst⟩
  · replace hno : ¬ (OverTaken p r s ∨ StuckTaken p r s ∨ UnderTaken p r s) := mt (currentCheckTaken_iff hload hunderload).mpr hno
    have hbx : b = x := (State.heaterChecks_taken ha hb hx).2.2.2 (fun h => hno (.inl h)) (fun h => hno (.inr (.inl h)))
      fun h => hno (.inr (.inr h))
    have hlist : ((s.supplyUpdate r).pocket p).fl = ((a.samplesChecked p (exhaustOf r p) (inletOf r p)).pocket p).fl := by
      rw [hfl, hbx, State.comparedState_fl ha hx]
    refine ⟨fun hlo hhi hout => ?_, fun hlo hhi hout => ?_, fun hsamples => ?_⟩
    · have hrange : inSenseRange (exhaustOf r p) = false := Bool.eq_false_iff.mpr (mt (hin _).mp hout)
      rw [hlist, State.samplesChecked, State.checkInlet_fl ((hin _).mpr ⟨hlo, hhi⟩), State.checkExhaust_out hrange, harmedE, ha.taken_fl,
        ha.taken_ce, ha.taken_secondsCount]
      refine ⟨fun harmed => ?_, fun harmed => ?_⟩
      · rw [if_pos harmed]
        exact FaultList.take_takes ..
      · exact if_neg (by rw [harmed]; exact Bool.false_ne_true)
    · have hrange : inSenseRange (inletOf r p) = false := Bool.eq_false_iff.mpr (mt (hin _).mp hout)
      have hexhaust : inSenseRange (exhaustOf r p) = true := (hin _).mpr ⟨hlo, hhi⟩
      obtain ⟨y, hy⟩ : ∃ y, y = a.checkExhaust p (exhaustOf r p) := ⟨_, rfl⟩
      have hsupervised : Supervised p a y := hy ▸ Supervised.checkExhaust p a _
      have hyfl : (y.pocket p).fl = (s.pocket p).fl := by rw [hy, State.checkExhaust_fl hexhaust, ha.taken_fl]
      have hyce : (y.pocket p).ce = (s.pocket p).ce := by
        rw [hy, (Calm.checkExhaust (.inl hexhaust)).ce, ha.taken_ce]
      have hyarmed : (y.pocket p).hsc.inletArmed = (s.pocket p).hsc.inletArmed := by
        have hsup := a.checkExhaust_supervision p (exhaustOf r p)
        rw [← hy] at hsup
        have hsame : (y.pocket p).hsc.inletArmed = (a.pocket p).hsc.inletArmed := HeatStages.same_of_supervision hsup (·.inletArmed)
        exact hsame.trans (HeatStages.same_of_supervision ha.taken_supervision (·.inletArmed))
      have hseconds : y.secondsCount = (s.reach s.sm.nextUpdate).secondsCount := by
        rw [State.secondsCount_congr hsupervised.spares.now hsupervised.spares.shared.2.2.2.1, ha.taken_secondsCount]
      have hchecked : ((s.supplyUpdate r).pocket p).fl = ((y.checkInlet p (inletOf r p)).pocket p).fl := by rw [hlist, hy]; rfl
      refine ⟨fun harmed => ⟨?_, fun hnot hnew => ?_⟩, fun harmed => ?_⟩
      · rw [hchecked, State.checkInlet_out hrange, hyarmed, if_pos harmed, hyfl, hyce, hseconds]
        exact FaultList.take_takes ..
      · have hreport : y.checkInlet p (inletOf r p) = (y.onHsc p (fun h => { h with inletArmed := false })).report p .sensorInlet none := by
          unfold State.checkInlet
          rw [if_neg (by rw [hrange]; exact Bool.false_ne_true), if_pos (hyarmed.trans harmed)]
        rw [hchecked, hreport] at hnew
        rw [← hyfl, ← State.onHsc_fl y p (fun h => { h with inletArmed := false })] at hnot
        have hgain := (y.onHsc p (fun h => { h with inletArmed := false })).report_warning_posts p rfl none hnot hnew
        rw [← hreport] at hgain
        have hstart : Supervised p y (y.onHsc p (fun h => { h with inletArmed := false })) := .onHsc le_rfl
        have hend : Supervised p (y.checkInlet p (inletOf r p)) b := by
          rw [hb, hy]
          exact .currentChecks p _ _
        exact hgain.of_taken ((ha.toFramed.trans hsupervised.spares.toFramed).trans hstart.spares.toFramed) (hend.spares.toFramed.trans hframed)
      · rw [hchecked, State.checkInlet_out hrange, hyarmed, if_neg (by rw [harmed]; exact Bool.false_ne_true), hyfl]
    · obtain ⟨hexhaust, hinlet⟩ := inRange_of_samples hsamples
      rw [hfl, hbx, State.comparedState_fl_inRange ha hx hexhaust hinlet]

/-- Settles O44. -/
theorem heaterChecksCutAndReport : Obligations.HeaterChecksCutAndReport :=
  ⟨checkTimersCount, overcurrentIsTaken, underloadWarns, sensorChecksReportOnce⟩

end Sys2Proof.Machine

/-! PROOF. A supply update meters both pockets (R65, R109, R127, R145, R151, R153). -/

namespace Sys2Proof.Machine

theorem supplyUpdateMeters : SupplyUpdateMeters := by
  intro r s hm hv
  have hreading : voltageReading r.voltage = r.voltage := min_eq_left hv
  obtain ⟨hpending, hmode, hnow, hloaded, hlevels, hps, hsm, hsa⟩ := s.takenUpdate_shared r
  obtain ⟨-, -, -, -, hframed, -⟩ := s.supplyUpdate_kept .A r
  obtain ⟨upending, umode, unow, uloaded, ulevels, usm, ups⟩ := hframed.shared
  refine ⟨s.supplyUpdate r, exec_supplyUpdate hm r, unow.trans hnow, umode.trans (hmode.trans hm), upending.trans hpending,
    uloaded.trans hloaded, ulevels.trans hlevels, ups.trans hps, by rw [usm, hsm, hreading], ?_, fun p => ?_⟩
  · have hlists := hframed.lists.eq
    rwa [hsa] at hlists
  · obtain ⟨a, b, ha, hb, -, hkept, hchecks⟩ := s.supplyUpdate_kept p r
    rw [State.takenUpdate_pocket] at hkept
    have hexpected : ((s.supplyUpdate r).pocket p).hsc.expected = (s.updateInputs r p).expected := by
      have h := HeatStages.same_of_checks hchecks (·.expected)
      rw [hb] at h
      exact h.trans (State.heaterChecks_compared ha rfl (·.expected) (fun _ => rfl) (fun _ h now => (h.overTaken_kept now).1)
        (fun _ _ => rfl) fun _ _ => rfl)
    have hpower : s.powerOf (voltageReading r.voltage) (currentOf r p)
        = (if r.voltage = 0 ∨ r.voltage = 6000 then s.sm.held.getD 0 else r.voltage) * currentOf r p
          * s.shared SharedItem.phaseFactor / 1000000 := by
      unfold State.powerOf State.powerVoltage
      rw [hreading, if_congr (isSenseFault_iff _) rfl rfl]
    refine ⟨hkept.lines, hkept.shedDue, hkept.exhaust, hkept.inlet, State.supplyUpdate_sb r, hkept.s16, hkept.index, hkept.nextSequence,
      hexpected.trans (State.takenUpdate_expected hv s p), _, _, ((s.pocket p).meter.residual + s.powerOf (voltageReading r.voltage)
        (currentOf r p)) / 14400, rfl, rfl, ?_⟩
    have hmeter := hkept.meter
    rw [hmeter, ← hpower]
    refine ⟨Nat.div_add_mod' _ _, Nat.mod_lt _ (by decide), rfl, fun hin => ?_, fun hout => ?_, rfl⟩
    · exact if_pos hin
    · exact if_neg (by rw [hout]; exact Bool.false_ne_true)

/-- Settles O50. -/
theorem supplyUpdateMetersBothPockets : Obligations.SupplyUpdateMetersBothPockets :=
  ⟨supplyUpdateMeters, supplyUpdateRunsInOrder, updateEndAsksForTheRelease⟩

end Sys2Proof.Machine
